-- ==== Sys2Proof/Word.lean ====
section
/-! DEFINITION. The word types of the MD-7160 (spec/01 section 1.7, spec/02): link bytes, and the 24-bit notice set. -/

namespace Sys2Proof

/-- One byte of the Request Link or the Field Port. -/
abbrev Byte := BitVec 8

/-- The value field of a sample or setpoint message: two bytes. -/
abbrev Word16 := BitVec 16

/-- A notice set of R16: bit n names notice n. -/
abbrev NoticeSet := BitVec 24

end Sys2Proof
end

