-- ==== Sys2Proof/Syntax.lean ====
section
/-! DEFINITION. The commands the part takes: one constructor of `Instr` for each row of spec/opcode_table.json. -/

namespace Sys2Proof

/-- The level of a discrete input line (spec/02 section 2.4). -/
inductive Level where
  | low
  | high
  deriving DecidableEq, Repr

/-- What one transaction of a request row carries besides its kind (R1, R2): the tag byte, the argument bytes
as received, and how many bytes are clocked after the 64th. -/
structure Request where
  tag  : Byte
  args : List Byte
  extra : Nat := 0
  deriving DecidableEq, Repr

/-- The commands. Each constructor's docstring names its row and the rule the row cites. -/
inductive Instr where
  /-- POWER_ON_RESET (R35): the levels of the lines DI0 to DI11 (bit i for DI i) and the bytes received so far
  of a transaction it abandons (R2). -/
  | powerOnReset (lines : BitVec 12) (received : List Byte)
  /-- TRANSACTION_CUT_SHORT (R2): the bytes clocked before the deselection. -/
  | transactionCutShort (bytes : List Byte)
  /-- LINK_CHECK (R3): all bytes clocked in the selection, of which the first 64 form the transaction. -/
  | linkCheck (bytes : List Byte)
  /-- UNKNOWN_REQUEST (R5). -/
  | unknownRequest (kind : Byte) (r : Request)
  /-- NO_REQUEST (R4). -/
  | noRequest (r : Request)
  /-- READ_STATUS (R36). -/
  | readStatus (r : Request)
  /-- READ_NOTICES (R13). -/
  | readNotices (r : Request)
  /-- CLEAR_NOTICES (R10). -/
  | clearNotices (r : Request)
  /-- SET_NOTICE_ENABLE (R10). -/
  | setNoticeEnable (r : Request)
  /-- READ_ERROR_CAPTURE (R15). -/
  | readErrorCapture (r : Request)
  /-- CONTROLLER_RESET (R52). -/
  | controllerReset (r : Request)
  /-- SET_PARAM_GEOMETRY (R172). -/
  | setParamGeometry (r : Request)
  /-- SET_PARAM_TUNING (R173). -/
  | setParamTuning (r : Request)
  /-- CHECK_CAPTURE_EMPTY (R175). -/
  | checkCaptureEmpty (r : Request)
  /-- GET_PARAM (R171). -/
  | getParam (r : Request)
  /-- SET_SENSE (R32). -/
  | setSense (r : Request)
  /-- READ_INPUTS (R33). -/
  | readInputs (r : Request)
  /-- READ_CHANNEL (R24). -/
  | readChannel (r : Request)
  /-- BEGIN_STROKE (R41). -/
  | beginStroke (r : Request)
  /-- END_STROKE (R42). -/
  | endStroke (r : Request)
  /-- BEGIN_BUILD (R44). -/
  | beginBuild (r : Request)
  /-- ENTER_INTERVENTION (R46). -/
  | enterIntervention (r : Request)
  /-- LEAVE_INTERVENTION (R47). -/
  | leaveIntervention (r : Request)
  /-- CLEAR_TRIP (R51). -/
  | clearTrip (r : Request)
  /-- SET_LOAD_POINTER (R61). -/
  | setLoadPointer (r : Request)
  /-- TOOL_LOAD (R63). -/
  | toolLoad (r : Request)
  /-- TOOL_READ (R65). -/
  | toolRead (r : Request)
  /-- TOOL_AMEND_LIMITS (R66). -/
  | toolAmendLimits (r : Request)
  /-- TOOL_AMEND_DUTY (R67). -/
  | toolAmendDuty (r : Request)
  /-- TOOL_LOCK_OUT (R68). -/
  | toolLockOut (r : Request)
  /-- TOOL_RETIRE (R69). -/
  | toolRetire (r : Request)
  /-- TOOL_FIT (R70). -/
  | toolFit (r : Request)
  /-- TOOL_RELEASE (R71). -/
  | toolRelease (r : Request)
  /-- STORAGE_FAULT (R72): the position whose stored contents are damaged. -/
  | storageFault (position : Fin 64)
  /-- SET_THRUST (R94). -/
  | setThrust (r : Request)
  /-- READ_CYLINDER (R105). -/
  | readCylinder (r : Request)
  /-- READ_STROKE (R17). -/
  | readStroke (r : Request)
  /-- READ_BALANCE (R104). -/
  | readBalance (r : Request)
  /-- RING_PLAN (R108). -/
  | ringPlan (r : Request)
  /-- RING_CANCEL (R109). -/
  | ringCancel (r : Request)
  /-- RING_RETIRE (R110). -/
  | ringRetire (r : Request)
  /-- READ_RING (R111). -/
  | readRing (r : Request)
  /-- SEGMENT_ENQUEUE (R120). -/
  | segmentEnqueue (r : Request)
  /-- SEGMENT_WITHDRAW (R121). -/
  | segmentWithdraw (r : Request)
  /-- READ_FEED (R124). -/
  | readFeed (r : Request)
  /-- PLACE_NEXT (R126). -/
  | placeNext (r : Request)
  /-- PLACE_RUN (R126). -/
  | placeRun (r : Request)
  /-- ERECTOR_HOLD (R135). -/
  | erectorHold (r : Request)
  /-- ERECTOR_ABORT (R136). -/
  | erectorAbort (r : Request)
  /-- ERECTOR_RESUME (R137). -/
  | erectorResume (r : Request)
  /-- ERECTOR_RETURN (R138). -/
  | erectorReturn (r : Request)
  /-- SET_ROTATION (R143). -/
  | setRotation (r : Request)
  /-- SET_PORT (R156). -/
  | setPort (r : Request)
  /-- PORT_OUT_OF_SERVICE (R154). -/
  | portOutOfService (r : Request)
  /-- PORT_RESTORE (R154). -/
  | portRestore (r : Request)
  /-- PORT_CLEAR (R155). -/
  | portClear (r : Request)
  /-- GROUT_RATE (R157). -/
  | groutRate (r : Request)
  /-- READ_PORT (R158). -/
  | readPort (r : Request)
  /-- READ_GROUT (R159). -/
  | readGrout (r : Request)
  /-- SET_SCREW_MODE_MANUAL (R168). -/
  | setScrewModeManual (r : Request)
  /-- SET_SCREW_MODE_AUTO (R168). -/
  | setScrewModeAuto (r : Request)
  /-- SAMPLE_ARRIVAL (R19): a checked sample message. -/
  | sampleArrival (channel : Fin 30) (value : Word16)
  /-- SAMPLE_MESSAGE_DISCARDED (R18): the message as received. -/
  | sampleMessageDiscarded (channel : Byte) (value : Word16) (check : Byte)
  /-- STALE_TIMER_EXPIRY (R21). -/
  | staleTimerExpiry (channel : Fin 30)
  /-- SETPOINT_MESSAGE (R27): the free transmitter begins a message. -/
  | setpointMessage
  /-- LINE_CHANGE (R28): a line has held a level for 2 ms and the level is taken. -/
  | lineChange (input : Fin 12) (level : Level)
  /-- RETRACT_TIMER_EXPIRY (R91). -/
  | retractTimerExpiry (cylinder : Fin 16)
  /-- STEP_TIMER_EXPIRY (R134). -/
  | stepTimerExpiry
  /-- BLOCK_TIMER_EXPIRY (R149). -/
  | blockTimerExpiry (port : Fin 6)
  /-- SETPOINT_MESSAGE_END (R27): the message in flight has left. -/
  | setpointMessageEnd
  deriving DecidableEq, Repr

end Sys2Proof
end

