-- ==== Sys2Proof/Decode.lean ====
section
/-! DEFINITION. Words of the two serial links: the CRC-8 of R3, big-endian fields of R16, the check of a request
frame, the kinds of the request index (spec/01 section 1.6), and `decodeTableWord` over the rows that give bits. -/

namespace Sys2Proof

/-- One shift of the CRC-8 register (R3). -/
def crcShift (c : Byte) : Byte :=
  if c.msb then (c <<< 1) ^^^ 0x07#8 else c <<< 1

/-- One byte taken into the CRC-8 register (R3): exclusive-or, then eight shifts. -/
def crcByte (c b : Byte) : Byte :=
  crcShift (crcShift (crcShift (crcShift (crcShift (crcShift (crcShift (crcShift (c ^^^ b))))))))

/-- The CRC-8 of R3 over the bytes in order, from 0x00. -/
def crc8 (bytes : List Byte) : Byte := bytes.foldl crcByte 0x00#8

/-- A field of `n` bytes, most significant byte first (R16). -/
def beBytes : Nat → Nat → List Byte
  | 0, _ => []
  | n + 1, v => beBytes n (v / 256) ++ [BitVec.ofNat 8 v]

/-- The number in a field, most significant byte first (R16). -/
def beNat (bytes : List Byte) : Nat := bytes.foldl (fun acc b => acc * 256 + b.toNat) 0

/-- A signed field of four bytes in two's complement (R24). -/
def beInt32 (v : Int) : List Byte := beBytes 4 (BitVec.ofInt 32 v).toNat

/-- The number in the `len` argument bytes from offset `off`. -/
def field (args : List Byte) (off len : Nat) : Nat := beNat ((args.drop off).take len)

/-- The checks of R3 on a frame of 64 bytes: sync 0xA5, length at most 56, and the check byte. -/
def frameChecks (frame : List Byte) : Bool :=
  let len := (frame.getD 3 0).toNat
  frame.getD 0 0 == 0xA5#8 && decide (len ≤ 56) &&
    frame.getD (4 + len) 0 == crc8 ((frame.drop 1).take (3 + len))

/-- The request a checked frame carries: its kind, and tag and arguments (request frame of section 1.7). -/
def frameRequest (frame : List Byte) (extra : Nat) : Byte × Request :=
  (frame.getD 1 0, ⟨frame.getD 2 0, (frame.drop 4).take (frame.getD 3 0).toNat, extra⟩)

/-- The frame of a request up to its check byte (request frame of section 1.7). -/
def requestFrame (kind tag : Byte) (args : List Byte) : List Byte :=
  let covered := [kind, tag, BitVec.ofNat 8 args.length] ++ args
  [0xA5#8] ++ covered ++ [crc8 covered]

/-- The kinds of the request index with their argument counts (spec/01 section 1.6). -/
def indexCounts : List (Nat × Nat) :=
  [(0x00, 0), (0x01, 0), (0x02, 0), (0x03, 3), (0x04, 3), (0x05, 0), (0x06, 0), (0x10, 5), (0x11, 1),
   (0x18, 3), (0x19, 0), (0x1A, 1), (0x20, 0), (0x21, 0), (0x22, 0), (0x23, 0), (0x24, 0), (0x25, 0),
   (0x30, 1), (0x31, 22), (0x32, 1), (0x33, 14), (0x34, 1), (0x35, 1), (0x36, 6), (0x37, 1),
   (0x40, 8), (0x41, 1), (0x42, 0), (0x43, 0)] ++
  [(0x50, 10), (0x51, 0), (0x52, 2), (0x53, 2), (0x58, 5), (0x59, 3), (0x5A, 0),
   (0x60, 0), (0x61, 0), (0x62, 0), (0x63, 0), (0x64, 0), (0x65, 0),
   (0x70, 16), (0x71, 5), (0x72, 1), (0x73, 1), (0x74, 1), (0x75, 2), (0x76, 1), (0x77, 0), (0x78, 3)]

/-- The argument count the index gives a kind, none for a kind that does not appear in it (R5). -/
def indexCount (kind : Byte) : Option Nat := indexCounts.lookup kind.toNat

/-- The check of a sample message (R18): the CRC-8 over its channel and value fields. -/
def sampleCheck (channel : Byte) (value : Word16) : Byte := crc8 (channel :: beBytes 2 value.toNat)

/-- No row of spec/opcode_table.json gives bits, so no word spells a command (log 18). -/
def decodeTableWord (_nbits _w : Nat) : Option Instr := none

end Sys2Proof
end

