-- ==== Sys2Proof/Config.lean ====
section
/-! DEFINITION. What the spec leaves open: constants without a body, so that no proof can rest on a value of them. -/

namespace Sys2Proof

/-- The check code of a tool record (spec/04 section 4.1): sixteen bits "computed by the Tool Table over every
field above". The spec gives no algorithm. The argument lists the record's fields in the order of the table of
section 4.1. DESIGN CHOICE (log 5). -/
opaque Config.checkCode : List Nat → BitVec 16

/-- When the stale timer of channel 23 and the block timer of the SERVING port reach zero in the same
millisecond, whether the Grout Controller takes the staleness first. The argument is the time base. The spec
gives no order. DESIGN CHOICE (log 3). -/
opaque Config.staleFirst : Nat → Bool

end Sys2Proof
end

