-- ==== Sys2Proof/Machine/State.lean ====
section
/-! DEFINITION. Everything the spec gives the part as plain data, the reasons a step could stop (there are none but
the reserved one), and the state after power-on reset. Quantities that follow from other state at every moment
(conditions, asserted states, derived states, ceilings, the deficit, ATTN) are computed in Flags.lean (log 13). -/

namespace Sys2Proof.Machine

/-- Nothing in the spec stops the part with a fault (see INVENTORY.md, Faults): no meaning raises one. -/
inductive Fault where
  deriving DecidableEq, Repr

/-- Reasons to refuse a command. Safe: a refusal claims nothing about the part. -/
inductive Refusal where
  /-- Raised by an arm of `exec` whose command has no meaning yet; no arm of this model does. -/
  | notModelled (mnemonic : String)
  deriving DecidableEq, Repr

/-! ### Shared records -/

/-- A timer in milliseconds (spec/00, Timers): it counts down, below zero too; stopped, its value is frozen. -/
structure Timer where
  value   : Int := 0
  running : Bool := false
  deriving DecidableEq, Repr

/-- A free-running count followed by differences (R75, R102, R151): the last value taken, and whether the next
sample is to be taken as a new starting point. -/
structure FreeCount where
  prev   : Nat := 0
  rebase : Bool := true
  deriving DecidableEq, Repr

/-! ### Request Port (spec/01) -/

/-- The statuses of the status table. -/
inductive Status where
  | done | doneClamped | accepted
  | unknownRequest | badLength | badArgument | wrongState | notConfigured | interlock
  | busy | full | duplicate | notFound | reserved | holdLimit | sequence | noRoom
  | linkCheck
  deriving DecidableEq, Repr

/-- The answer in the answer buffer (R1): the frame is `Answer.frame`. -/
structure Answer where
  kind    : Byte := 0
  tag     : Byte := 0
  status  : Status := .done
  results : List Byte := []
  deriving DecidableEq, Repr

/-- The answer buffer (R1), and the bytes the part shifted out in the latest transaction (log 7). -/
structure Link where
  answer  : Answer := {}
  shifted : List Byte := []
  deriving DecidableEq, Repr

/-- The captured request of R14. -/
structure Captured where
  kind   : Byte
  tag    : Byte
  status : Status
  length : Nat
  arg0   : Byte
  arg1   : Byte
  arg2   : Byte
  arg3   : Byte
  deriving DecidableEq, Repr

/-- The error capture (spec/01 section 1.4): present flag and fields, and the refusal count. -/
structure ErrorCapture where
  first : Option Captured := none
  count : Nat := 0
  deriving DecidableEq, Repr

/-- The 24 notices, in the order of their numbers (spec/01 section 1.3). -/
inductive Notice where
  | tripped | rotationBreach | recordCheckFailed | channelStale | retractLate | erectorStepLate
  | segmentStarved | slotPlaced | ringClosed | buildHeld | buildAborted | strokeEnded
  | advanceJump | toolWatch | toolWorn | thrustDerated | countRebased | portPressureHold
  | portBlocked | groutNoPort | ringGrouted | overExcavation | underExcavation | inputGroupChange
  deriving DecidableEq, Repr

/-! ### Field Port and Input Sense Unit (spec/02) -/

/-- A channel record (section 2.1). -/
structure Channel where
  value     : Nat := 0
  fresh     : Bool := false
  timer     : Timer := {}
  lastLapse : Nat := 0
  clamped   : Bool := false
  deriving DecidableEq, Repr

/-- An output word (section 2.3): the value held and the send mark. -/
structure Output where
  value : Nat := 0
  mark  : Bool := true
  deriving DecidableEq, Repr

/-- A setpoint message in flight (R27). -/
structure Message where
  output : Fin 25
  value  : Nat
  deriving DecidableEq, Repr

/-- The sense modes of R28. -/
inductive SenseMode where
  | low | rising | falling | any
  deriving DecidableEq, Repr

/-- An input record (section 2.4); its asserted state is `Input.asserted`. -/
structure Input where
  level : Level := .low
  mode  : SenseMode := .any
  mask  : Bool := false
  deriving DecidableEq, Repr

/-! ### Cycle Controller (spec/03) -/

/-- The cycle states. -/
inductive Cycle where
  | unconfigured | standstill | boring | building | intervention | tripped
  deriving DecidableEq, Repr

/-- The trip causes of R48; "none" is `Option.none`. -/
inductive TripCause where
  | stop | rotationBreach | recordCheck | overThrust
  deriving DecidableEq, Repr

/-! ### Parameters (spec/11) -/

/-- The parameter table of section 11.1. A mandatory parameter is its set mark with its value (R174). -/
structure Params where
  faceArea            : Option Nat := none
  voidArea            : Option Nat := none
  ringWidth           : Option Nat := none
  tailLength          : Option Nat := none
  /-- The reference cylinder of each group (R96). -/
  refCylinders        : Vector (Fin 16) 4 := #v[0, 4, 8, 12]
  strokeLimit         : Nat := 22000
  minHold             : Nat := 10
  jumpLimit           : Nat := 500
  retractedAt         : Nat := 500
  retractTime         : Nat := 20000
  erectorStepTime     : Nat := 90000
  blockTime           : Nat := 15000
  staleTime           : Nat := 500
  pMax                : Nat := 30000
  pDerate             : Nat := 22000
  holdPressure        : Nat := 8000
  groundFactor        : Nat := 1000
  density             : Nat := 2000
  balanceStart        : Nat := 2000
  balanceHigh         : Nat := 1150
  balanceLow          : Nat := 850
  faceTarget          : Nat := 200
  screwMin            : Nat := 20
  screwMax            : Nat := 200
  screwBalanceCeiling : Nat := 120
  screwStart          : Nat := 60
  screwGain           : Nat := 400
  screwStep           : Nat := 10
  groutFactor         : Nat := 130
  pulseWeight         : Nat := 50
  shotVolume          : Nat := 2000
  groutRate           : Nat := 1200
  pumpMax             : Nat := 2400
  deriving DecidableEq, Repr

/-! ### Tool Table (spec/04) -/

/-- The states of a tool record (section 4.2). -/
inductive ToolState where
  | absent | empty | fitted | watch | worn | lockedOut | suspect
  deriving DecidableEq, Repr

/-- The zones of the cutterhead. -/
inductive Zone where
  | centre | face | gauge
  deriving DecidableEq, Repr

/-- The kinds of tool. -/
inductive ToolKind where
  | disc | scraper
  deriving DecidableEq, Repr

/-- A tool record (section 4.1) less its check code. The defaults are the power-on values of R54. -/
structure ToolFields where
  state     : ToolState := .absent
  zone      : Zone := .centre
  kind      : ToolKind := .disc
  radius    : Nat := 0
  serial    : Option Nat := none
  fittedAt  : Option Nat := none
  duty      : Nat := 0
  remainder : Nat := 0
  watch     : Nat := 0
  wear      : Nat := 0
  lifetime  : Nat := 0
  deriving DecidableEq, Repr

/-- The fields in the order of section 4.1, as the check code is computed over them. -/
def ToolFields.coded (t : ToolFields) : List Nat :=
  [t.state.ctorIdx, t.zone.ctorIdx, t.kind.ctorIdx, t.radius, t.serial.getD 0, t.fittedAt.getD 0, t.duty,
   t.remainder, t.watch, t.wear, t.lifetime]

/-- A tool record as stored: its fields as any block has seen them, its check code, and whether a storage fault
has damaged the stored contents so that they no longer match the code (R72, log 5). -/
structure Tool extends ToolFields where
  check   : BitVec 16
  damaged : Bool := false
  deriving DecidableEq, Repr

/-- A record written with a fresh check code (section 4.1). -/
def Tool.fresh (t : ToolFields) : Tool := { toToolFields := t, check := Config.checkCode t.coded }

/-! ### Thrust Controller (spec/06) -/

/-- The slots of a ring: 0 to 5, and 6 for the key. -/
abbrev Slot := Fin 7

/-- Which work last commanded a cylinder (section 6.1). -/
inductive Owner where
  | advance
  | build (ring : Nat) (slot : Slot)
  deriving DecidableEq, Repr

/-- A cylinder record less what is held elsewhere: its command is output 5 + index, its extension the value of
its channel (section 6.1). -/
structure Cylinder where
  timer : Timer := {}
  owner : Owner := .advance
  deriving DecidableEq, Repr

/-- The states of the stroke account (section 6.4); `opened` is OPEN. -/
inductive AccountState where
  | none | opened | closed | spent
  deriving DecidableEq, Repr

/-- Why the account was last closed; "absent" is `Option.none`. -/
inductive EndCause where
  | host | strokeLimit | trip
  deriving DecidableEq, Repr

/-- The stroke account (section 6.4). -/
structure Stroke where
  state      : AccountState := .none
  number     : Nat := 0
  ringPushed : Option Nat := .none
  base       : Nat := 0
  high       : Nat := 0
  advance    : Nat := 0
  litres     : Nat := 0
  remainder  : Nat := 0
  weighed    : Nat := 0
  headCounts : Nat := 0
  jumps      : Nat := 0
  endCause   : Option EndCause := .none
  deriving DecidableEq, Repr

/-! ### Ring Register and Feed Queue (spec/07) -/

/-- The ring types. -/
inductive RingType where
  | straight | left | right
  deriving DecidableEq, Repr

/-- The ring states of R107. -/
inductive RingState where
  | planned | building | closed | grouting | grouted
  deriving DecidableEq, Repr

/-- The slot states of section 7.3; `vacant` is OPEN. -/
inductive SlotState where
  | vacant | onErector | placed
  deriving DecidableEq, Repr

/-- A slot record (section 7.3). -/
structure SlotRecord where
  state   : SlotState := .vacant
  segment : Option Nat := none
  deriving DecidableEq, Repr

/-- A ring record (section 7.1). -/
structure Ring where
  number      : Nat
  type        : RingType
  key         : Fin 16
  order       : Vector (Fin 6) 6
  slots       : Vector SlotRecord 7 := Vector.replicate 7 {}
  state       : RingState := .planned
  advance     : Nat := 0
  exposure    : Nat := 0
  voidArea    : Option Nat := none
  groutFactor : Option Nat := none
  target      : Nat := 0
  delivered   : Nat := 0
  deriving DecidableEq, Repr

/-- The kinds of segment. -/
inductive SegmentKind where
  | ordinary | key
  deriving DecidableEq, Repr

/-- An entry of the Feed Queue (section 7.5). -/
structure Segment where
  id       : Nat
  kind     : SegmentKind
  type     : RingType
  reserved : Bool := false
  deriving DecidableEq, Repr

/-! ### Placement Controller (spec/08) -/

/-- The steps of a placement under way. -/
inductive Step where
  | awaitSegment | picking | clearing | positioning | seating
  deriving DecidableEq, Repr

/-- The erector state (section 8.1): `working` is a placement under way. -/
inductive Erector where
  | idle
  | working (step : Step)
  | halted
  deriving DecidableEq, Repr

/-- The placement modes. -/
inductive PlaceMode where
  | single | run
  deriving DecidableEq, Repr

/-- The placement record (section 8.1); the erector command is output 21. -/
structure Placement where
  erector     : Erector := .idle
  mode        : PlaceMode := .single
  hold        : Bool := false
  current     : Option Slot := none
  interrupted : Option Step := none
  timer       : Timer := {}
  deriving DecidableEq, Repr

/-! ### Grout Controller (spec/09) -/

/-- The port states of section 9.1. -/
inductive PortState where
  | idle | serving | pressureHold | blocked | outOfService
  deriving DecidableEq, Repr

/-- A grout port record (section 9.1). -/
structure Port where
  state        : PortState := .idle
  limit        : Nat := 400
  hysteresis   : Nat := 30
  lastPressure : Nat := 0
  credited     : BitVec 32 := 0
  shot         : Nat := 0
  timer        : Timer := {}
  deriving DecidableEq, Repr

/-! ### Screw Controller (spec/10) -/

/-- The screw modes. -/
inductive ScrewMode where
  | auto | manual
  deriving DecidableEq, Repr

/-- The screw record (section 10.1) less its setpoint, output 22, and its ceiling, which is computed. -/
structure Screw where
  mode        : ScrewMode := .auto
  manual      : Nat := 0
  chamberHeld : Bool := true
  deriving DecidableEq, Repr

/-! ### The whole part -/

/-- Everything the spec gives the part, and the queue of commands that are waiting. -/
structure State where
  /-- the answer buffer and the bytes last shifted out (R1, R2) -/
  link          : Link
  /-- the event notices of the pending set (R8) -/
  latched       : NoticeSet
  /-- the enable set (R10) -/
  enabled       : NoticeSet
  /-- the error capture (R14) -/
  capture       : ErrorCapture
  /-- milliseconds on the internal time base (spec/00, Units; log 4) -/
  clock         : Nat
  /-- the channel records 0 to 29 (R19) -/
  channels      : Vector Channel 30
  /-- the output words 0 to 24 (R26) -/
  outputs       : Vector Output 25
  /-- the message in flight, none while the transmitter is free (R27) -/
  sending       : Option Message
  /-- the input records DI0 to DI11 (R28) -/
  inputs        : Vector Input 12
  /-- the change flags of G0 to G2 (R31) -/
  groupFlags    : Vector Bool 3
  /-- the cycle state (R35) -/
  cycle         : Cycle
  /-- the trip cause (R49) -/
  tripCause     : Option TripCause
  /-- further causes (R50) -/
  furtherCauses : Bool
  /-- the configured flag (R37) -/
  configured    : Bool
  /-- the parameters (R171) -/
  params        : Params
  /-- the tool records 0 to 63 (R54) -/
  tools         : Vector Tool 64
  /-- the load pointer (R61) -/
  loadPointer   : Fin 64
  /-- the captured position of the check capture (R73) -/
  checkCaptured : Option (Fin 64)
  /-- the failure count of the check capture (R73) -/
  checkFailures : Nat
  /-- the blocking count of the summary (R58) -/
  blocking      : Nat
  /-- the position count of the summary (R58) -/
  positions     : Nat
  /-- the gauge-worn flag (R59) -/
  gaugeWorn     : Bool
  /-- the Duty Unit's count of channel 20 (R75) -/
  angle         : FreeCount
  /-- the cylinder records 0 to 15 (R87) -/
  cylinders     : Vector Cylinder 16
  /-- the quadrant setpoints (R94) -/
  quadrants     : Vector Nat 4
  /-- the Thrust Controller's count of channel 22 (R102) -/
  mass          : FreeCount
  /-- the stroke account (R99) -/
  stroke        : Stroke
  /-- the ring records, oldest first (R106) -/
  rings         : List Ring
  /-- the Feed Queue, head first (R119) -/
  feed          : List Segment
  /-- the starvation count (R122) -/
  starvation    : Nat
  /-- the placement record (R125) -/
  place         : Placement
  /-- the grout port records 0 to 5 (R142) -/
  ports         : Vector Port 6
  /-- the rotation table; none is SKIP (R143) -/
  rotation      : Vector (Option (Fin 6)) 16
  /-- the rotation pointer (R143) -/
  pointer       : Fin 16
  /-- the Grout Controller's count of channel 23 (R151) -/
  pulse         : FreeCount
  /-- total pulses counted (R152) -/
  totalPulses   : BitVec 32
  /-- the unattributed count (R152) -/
  unattributed  : BitVec 32
  /-- the surplus in cL (R153) -/
  surplus       : Nat
  /-- the rebase count of channel 23 (R151) -/
  rebases       : Nat
  /-- the screw record (R161) -/
  screw         : Screw
  /-- the commands that are waiting, first in, first out (log 1) -/
  pending       : List Instr
  deriving DecidableEq, Repr

/-- The default sense mode of each input (R30). -/
def defaultMode (i : Fin 12) : SenseMode :=
  if i = 0 then .low else if i = 1 then .any else if i.val ≤ 6 then .rising else .any

/-- The output word i after power-on reset (spec/02 section 2.3, R26): the valve holds NONE (255), every other
word 0, and every send mark is set. -/
def outputAtReset (i : Fin 25) : Output := ⟨if i = 23 then 255 else 0, true⟩

/-- The part after power-on reset with the given input records. -/
def State.powerOn (inputs : Vector Input 12) : State where
  link := {}
  latched := 0
  enabled := BitVec.allOnes 24
  capture := {}
  clock := 0
  channels := Vector.replicate 30 {}
  outputs := Vector.ofFn outputAtReset
  sending := none
  inputs := inputs
  groupFlags := Vector.replicate 3 false
  cycle := .unconfigured
  tripCause := none
  furtherCauses := false
  configured := false
  params := {}
  tools := Vector.replicate 64 (Tool.fresh {})
  loadPointer := 0
  checkCaptured := none
  checkFailures := 0
  blocking := 0
  positions := 0
  gaugeWorn := false
  angle := {}
  cylinders := Vector.replicate 16 {}
  quadrants := Vector.replicate 4 0
  mass := {}
  stroke := {}
  rings := []
  feed := []
  starvation := 0
  place := {}
  ports := Vector.replicate 6 {}
  rotation := Vector.replicate 16 none
  pointer := 0
  pulse := {}
  totalPulses := 0
  unattributed := 0
  surplus := 0
  rebases := 0
  screw := {}
  pending := []

/-- The state after power-on reset, every field at the value the spec gives (each field's rule is named in
INVENTORY.md). The input levels are those of the lines (R34), which the spec cannot give: here DI0 stands HIGH and
the others LOW, so that no input is asserted. DESIGN CHOICE (log 6): unsafe. -/
def State.reset : State :=
  State.powerOn (Vector.ofFn fun i => { level := if i = 0 then .high else .low, mode := defaultMode i })

end Sys2Proof.Machine
end

