-- ==== Sys2Proof/Machine/Operands.lean ====
section
/-! DEFINITION. The operand forms: codes of enumerated fields (spec/01 section 1.7), the answer frame, optional fields,
flags bytes, spans (R112), and the loading and stopping of timers. -/

namespace Sys2Proof.Machine

/-! ### Codes of section 1.7 -/

/-- The status codes. -/
def Status.code : Status → Nat
  | .done => 0x00 | .doneClamped => 0x01 | .accepted => 0x02
  | .unknownRequest => 0x10 | .badLength => 0x11 | .badArgument => 0x12 | .wrongState => 0x13
  | .notConfigured => 0x14 | .interlock => 0x15 | .busy => 0x16 | .full => 0x17 | .duplicate => 0x18
  | .notFound => 0x19 | .reserved => 0x1A | .holdLimit => 0x1B | .sequence => 0x1C | .noRoom => 0x1D
  | .linkCheck => 0x20

/-- The refused statuses, UNKNOWN_REQUEST to NO_ROOM (R14). -/
def Status.refused (s : Status) : Bool := decide (0x10 ≤ s.code ∧ s.code ≤ 0x1D)

def Cycle.code : Cycle → Nat
  | .unconfigured => 0 | .standstill => 1 | .boring => 2 | .building => 3 | .intervention => 4 | .tripped => 5

def TripCause.code : TripCause → Nat
  | .stop => 1 | .rotationBreach => 2 | .recordCheck => 3 | .overThrust => 4

def AccountState.code : AccountState → Nat
  | .none => 0 | .opened => 1 | .closed => 2 | .spent => 3

def EndCause.code : EndCause → Nat
  | .host => 1 | .strokeLimit => 2 | .trip => 3

def Step.code : Step → Nat
  | .awaitSegment => 1 | .picking => 2 | .clearing => 3 | .positioning => 4 | .seating => 5

def Erector.code : Erector → Nat
  | .idle => 0 | .working st => st.code | .halted => 6

def ToolState.code : ToolState → Nat
  | .absent => 0 | .empty => 1 | .fitted => 2 | .watch => 3 | .worn => 4 | .lockedOut => 5 | .suspect => 6

def Zone.code : Zone → Nat
  | .centre => 0 | .face => 1 | .gauge => 2

def ToolKind.code : ToolKind → Nat
  | .disc => 0 | .scraper => 1

def RingType.code : RingType → Nat
  | .straight => 0 | .left => 1 | .right => 2

def RingState.code : RingState → Nat
  | .planned => 0 | .building => 1 | .closed => 2 | .grouting => 3 | .grouted => 4

def SlotState.code : SlotState → Nat
  | .vacant => 0 | .onErector => 1 | .placed => 2

def SegmentKind.code : SegmentKind → Nat
  | .ordinary => 0 | .key => 1

def SenseMode.code : SenseMode → Nat
  | .low => 0 | .rising => 1 | .falling => 2 | .any => 3

def PortState.code : PortState → Nat
  | .idle => 0 | .serving => 1 | .pressureHold => 2 | .blocked => 3 | .outOfService => 4

def ScrewMode.code : ScrewMode → Nat
  | .auto => 0 | .manual => 1

/-! ### Argument codes -/

def Zone.ofCode : Nat → Option Zone
  | 0 => some .centre | 1 => some .face | 2 => some .gauge | _ => none

def ToolKind.ofCode : Nat → Option ToolKind
  | 0 => some .disc | 1 => some .scraper | _ => none

def RingType.ofCode : Nat → Option RingType
  | 0 => some .straight | 1 => some .left | 2 => some .right | _ => none

def SegmentKind.ofCode : Nat → Option SegmentKind
  | 0 => some .ordinary | 1 => some .key | _ => none

def SenseMode.ofCode : Nat → Option SenseMode
  | 0 => some .low | 1 => some .rising | 2 => some .falling | 3 => some .any | _ => none

/-- An index below `n`, none where the argument lies above the range. -/
def indexArg (n v : Nat) : Option (Fin n) := if h : v < n then some ⟨v, h⟩ else none

/-- An optional field of an argument: 0 means absent (R16). -/
def optionalArg (v : Nat) : Option Nat := if v = 0 then none else some v

/-- An optional field of an answer: 0 when absent (R16). -/
def optionalCode (v : Option Nat) : Nat := v.getD 0

/-- The six order bytes of RING_PLAN: the numbers 0 to 5 each exactly once (R108), none otherwise. -/
def orderArg (bytes : List Byte) : Option (Vector (Fin 6) 6) :=
  if bytes.length = 6 ∧ (List.range 6).all (fun n => bytes.any (fun b => b.toNat == n)) then
    some (Vector.ofFn fun i => Fin.ofNat 6 (bytes.getD i.val 0).toNat)
  else none

/-- One entry byte of SET_ROTATION: a port 0 to 5, or 255 for SKIP (R143); none for any other value. -/
def rotationArg (b : Byte) : Option (Option (Fin 6)) :=
  if b.toNat = 255 then some none else (indexArg 6 b.toNat).map some

/-! ### Answer fields -/

/-- A flags field: the bits from bit 0 upwards; bits not named are 0 (R16). -/
def flagBits : List Bool → Nat
  | [] => 0
  | b :: rest => b.toNat + 2 * flagBits rest

/-- A slot code: 0 to 5, 6 for the key, 0xFF when none. -/
def slotCode (slot : Option Slot) : Nat := (slot.map Fin.val).getD 0xFF

/-- The answer frame up to its check byte (section 1.7). -/
def Answer.frame (a : Answer) : List Byte :=
  let covered :=
    [a.kind, a.tag, BitVec.ofNat 8 a.status.code, BitVec.ofNat 8 a.results.length] ++ a.results
  [0x5A#8] ++ covered ++ [crc8 covered]

/-- The first `n` bytes the part shifts out in a transaction: the answer frame, then 0x00 (R1, R2). -/
def Answer.wire (a : Answer) (n : Nat) : List Byte :=
  a.frame.take n ++ List.replicate (n - a.frame.length) 0x00#8

/-- The bytes of a setpoint message (section 2.3). -/
def Message.bytes (m : Message) : List Byte :=
  let covered := BitVec.ofNat 8 m.output.val :: beBytes 2 m.value
  covered ++ [crc8 covered]

/-! ### Notice sets -/

/-- The number of a notice (section 1.3). -/
def Notice.number (n : Notice) : Nat := n.ctorIdx

/-- The set that holds one notice (R16). -/
def Notice.bit (n : Notice) : NoticeSet := 1#24 <<< n.number

/-- The event notices of the table of section 1.3: all but the seven condition notices. -/
def eventSet : NoticeSet :=
  ~~~(Notice.tripped.bit ||| Notice.channelStale.bit ||| Notice.segmentStarved.bit ||| Notice.thrustDerated.bit |||
      Notice.groutNoPort.bit ||| Notice.overExcavation.bit ||| Notice.underExcavation.bit)

/-- A notice set as three bytes (R16). -/
def noticeBytes (set : NoticeSet) : List Byte := beBytes 3 set.toNat

/-! ### Channels and outputs -/

/-- The channel of an extension (section 2.1). -/
def extensionChannel (i : Fin 16) : Fin 30 := ⟨i.val, by omega⟩

/-- The channel of a group pressure (section 2.1). -/
def groupChannel (g : Fin 4) : Fin 30 := ⟨16 + g.val, by omega⟩

/-- The channel of a grout port's pressure (section 2.1). -/
def portChannel (p : Fin 6) : Fin 30 := ⟨24 + p.val, by omega⟩

/-- The channel's upper end (section 2.1). -/
def upperEnd (c : Fin 30) : Nat :=
  if c.val < 16 then 24000
  else if c.val < 20 then 45000
  else if c.val = 21 then 1000
  else if c.val < 24 then 65535
  else 1000

/-- The output of a group's setpoint (section 2.3). -/
def groupOutput (g : Fin 4) : Fin 25 := ⟨1 + g.val, by omega⟩

/-- The output of a cylinder's command (section 2.3). -/
def cylinderOutput (i : Fin 16) : Fin 25 := ⟨5 + i.val, by omega⟩

/-- The group of a cylinder (section 6.1). -/
def groupOf (i : Fin 16) : Fin 4 := ⟨i.val / 4, by omega⟩

/-- The commands of a cylinder (section 6.1). -/
inductive Command where
  | lock | extend | retract
  deriving DecidableEq, Repr

/-- The value of a cylinder's output (section 2.3). -/
def Command.code : Command → Nat
  | .lock => 0 | .extend => 1 | .retract => 2

/-- The command an output value stands for. -/
def Command.ofCode (v : Nat) : Command := if v = 1 then .extend else if v = 2 then .retract else .lock

/-- The erector commands (section 2.3). -/
inductive ErectorCommand where
  | idle | pick | seat | halt
  | goto (cylinder : Fin 16)
  deriving DecidableEq, Repr

/-- The value of output 21 (section 2.3). -/
def ErectorCommand.code : ErectorCommand → Nat
  | .idle => 0 | .pick => 1 | .seat => 2 | .halt => 3 | .goto i => 16 + i.val

/-- The derived states of a cylinder (R88). -/
inductive Derived where
  | pushing | holding | retracting | retracted | locked
  deriving DecidableEq, Repr

/-- The codes of READ_CYLINDER (R105). -/
def Derived.code : Derived → Nat
  | .pushing => 0 | .holding => 1 | .retracting => 2 | .retracted => 3 | .locked => 4

/-! ### Spans -/

/-- The key slot. -/
abbrev keySlot : Slot := 6

/-- The offsets of a slot's span from the key position (R112). -/
def spanOffsets (slot : Slot) : List (Fin 16) :=
  match slot.val with
  | 0 => [1, 2, 3]
  | 1 => [4, 5]
  | 2 => [6, 7, 8]
  | 3 => [9, 10]
  | 4 => [11, 12, 13]
  | 5 => [14, 15]
  | _ => [0]

/-- The span of a slot in a ring with key position `k` (R112): indices modulo 16, the first cylinder first. -/
def span (k : Fin 16) (slot : Slot) : List (Fin 16) := (spanOffsets slot).map (fun o => k + o)

/-- The first cylinder of a span (R112). -/
def spanFirst (k : Fin 16) (slot : Slot) : Fin 16 := (span k slot).headD k

/-- The kind of segment a slot takes (R113). -/
def Slot.kind (slot : Slot) : SegmentKind := if slot = keySlot then .key else .ordinary

/-! ### Arithmetic -/

/-- The bound of a 32-bit count. -/
def max32 : Nat := 4294967295

/-- A sum that saturates at 4 294 967 295. -/
def satAdd (a b : Nat) : Nat := min (a + b) max32

/-- The difference of a free-running count, modulo 65 536 (section "Free-running counts"). -/
def countDiff (c p : Nat) : Nat := (c + 65536 - p) % 65536

/-! ### Timers -/

/-- A timer loaded and running. -/
def Timer.load (ms : Nat) : Timer := ⟨ms, true⟩

/-- A timer stopped with its value frozen. -/
def Timer.freeze (t : Timer) : Timer := { t with running := false }

/-- A timer cancelled: stopped with value 0. -/
def Timer.cancelled : Timer := ⟨0, false⟩

/-- A timer that has reached zero and goes on counting below it. -/
def Timer.atZero (t : Timer) : Timer := { t with value := 0 }

/-- A timer that has still to reach zero. -/
def Timer.counting (t : Timer) : Bool := t.running && decide (0 < t.value)

/-- One millisecond passes: a running timer counts down; its overrun saturates at 2 147 483 647 ms. -/
def Timer.pass (t : Timer) : Timer :=
  if t.running then { t with value := max (t.value - 1) (-2147483647) } else t

end Sys2Proof.Machine
end

