-- ==== Sys2Proof/Machine/Flags.lean ====
section
/-! DEFINITION. Everything that follows from the state at every moment: asserted inputs, the permit's three conditions,
derived cylinder states, ceilings and setpoints due, the balance of excavation, the deficit, the conditions of the
condition notices, the pending set and ATTN (log 13). -/

namespace Sys2Proof.Machine

/-! ### Discrete inputs (R28, R30) -/

/-- Asserted while the level is the mode's active level (table of R28). -/
def Input.asserted (i : Input) : Bool :=
  match i.mode with
  | .low => i.level == .low
  | .rising => i.level == .high
  | .falling => i.level == .low
  | .any => i.level == .high

/-- The asserted state of DI i. -/
def asserted (s : State) (i : Fin 12) : Bool := s.inputs[i].asserted

/-- STOP is DI0 (R30). -/
def stopAsserted (s : State) : Bool := asserted s 0

/-- HEAD_TURNING is DI1 (R30). -/
def headTurning (s : State) : Bool := asserted s 1

/-- LOCK_DOOR is DI2; asserted means the door is open (R30). -/
def doorOpen (s : State) : Bool := asserted s 2

/-- SCREW_GATE is DI6; asserted means the gate is open (R30). -/
def gateOpen (s : State) : Bool := asserted s 6

/-! ### Tool records (section 4.2) -/

/-- The states that withhold the permit. -/
def ToolState.blocks : ToolState → Bool
  | .empty => true | .lockedOut => true | .suspect => true
  | .absent => false | .fitted => false | .watch => false | .worn => false

/-- The state of a record with a tool that is neither LOCKED_OUT nor SUSPECT (R55). -/
def wearState (duty watch wear : Nat) : ToolState :=
  if wear ≤ duty then .worn else if watch ≤ duty then .watch else .fitted

/-- A tool is present exactly while its serial is present (section 4.1). -/
def ToolFields.present (t : ToolFields) : Bool := t.serial.isSome

/-- The records that are EMPTY, LOCKED_OUT or SUSPECT (R58). -/
def countBlocking (tools : Vector Tool 64) : Nat := tools.toList.countP (fun t => t.state.blocks)

/-- The records that are not ABSENT (R58). -/
def countPositions (tools : Vector Tool 64) : Nat := tools.toList.countP (fun t => t.state != .absent)

/-- At least one record with zone GAUGE is WORN (R59). -/
def anyGaugeWorn (tools : Vector Tool 64) : Bool :=
  tools.toList.any (fun t => t.zone == .gauge && t.state == .worn)

/-! ### Configuration and permit (R37, R38) -/

/-- The four mandatory parameters are set and some position is not ABSENT (R37, R174). -/
def configuredDue (s : State) : Bool :=
  s.params.faceArea.isSome && s.params.voidArea.isSome && s.params.ringWidth.isSome &&
    s.params.tailLength.isSome && decide (0 < s.positions)

/-- The three conditions of the rotation permit (R38), with the blocking count as the Tool Table keeps it. -/
def permitDue (s : State) : Bool := s.cycle == .boring && !doorOpen s && s.blocking == 0

/-- The rotation permit held: output 0 (R35). -/
def permitOn (s : State) : Bool := s.outputs[(0 : Fin 25)].value == 1

/-! ### Cylinders (R88, R90, R96) -/

/-- The extension of a cylinder: the value held in its channel, FRESH or STALE (section 6.1). -/
def extension (s : State) (i : Fin 16) : Nat := s.channels[extensionChannel i].value

/-- The command of a cylinder: the value of output 5 + index (section 6.1). -/
def command (s : State) (i : Fin 16) : Command := Command.ofCode s.outputs[cylinderOutput i].value

/-- The derived state of a cylinder (table of R88). -/
def derived (s : State) (i : Fin 16) : Derived :=
  match command s i with
  | .extend => if s.cycle = .boring then .pushing else .holding
  | .retract => if s.params.retractedAt < extension s i then .retracting else .retracted
  | .lock => .locked

/-- The number of cylinders commanded RETRACT (R90). -/
def retractCount (s : State) : Nat := (List.finRange 16).countP (fun i => command s i == .retract)

/-- The retract count a retraction of a span would leave (R90). -/
def retractCountAfter (s : State) (cylinders : List (Fin 16)) : Nat :=
  retractCount s + cylinders.countP (fun i => command s i != .retract)

/-- The hold limit of R90: the retraction is not refused. -/
def retractionAllowed (s : State) (cylinders : List (Fin 16)) : Bool :=
  decide (retractCountAfter s cylinders ≤ 16 - s.params.minHold)

/-- A cylinder is a reference cylinder (R96). -/
def isReference (s : State) (i : Fin 16) : Bool := s.params.refCylinders.toList.contains i

/-- The reference mean, from the values held (R41, R96). -/
def referenceMean (s : State) : Nat :=
  (s.params.refCylinders.toList.map (extension s)).sum / 4

/-- All four reference channels are FRESH (R96). -/
def referencesFresh (s : State) : Bool :=
  s.params.refCylinders.toList.all (fun i => s.channels[extensionChannel i].fresh)

/-- Some reference extension held is at or above STROKE_LIMIT (R40, R44). -/
def referenceAtLimit (s : State) : Bool :=
  s.params.refCylinders.toList.any (fun i => decide (s.params.strokeLimit ≤ extension s i))

/-! ### Thrust ceiling and group setpoints (R92, R93) -/

/-- The ceiling (R92). -/
def ceiling (s : State) : Nat :=
  if s.gaugeWorn then min s.params.pDerate s.params.pMax else s.params.pMax

/-- The group setpoint the cycle state calls for (table of R93). -/
def groupSetpoint (s : State) (g : Fin 4) : Nat :=
  match s.cycle with
  | .boring => min s.quadrants[g] (ceiling s)
  | .standstill => min s.params.holdPressure (ceiling s)
  | .building => min s.params.holdPressure (ceiling s)
  | .unconfigured => 0
  | .intervention => 0
  | .tripped => 0

/-- The threshold of OVER_THRUST (R48, R95). -/
def overThrustThreshold (s : State) : Nat := s.params.pMax + s.params.pMax / 10

/-! ### Balance of excavation (R103) -/

/-- The expected mass in kg (R103). -/
def expectedMass (s : State) : Nat :=
  (s.stroke.litres * 100000 + s.stroke.remainder) * s.params.density / 100000000

/-- The balance ratio in per mille, none when not computed (R103). -/
def balanceRatio (s : State) : Option Nat :=
  if s.stroke.state ≠ .none ∧ s.params.balanceStart ≤ s.stroke.advance ∧ 0 < expectedMass s then
    some (s.stroke.weighed * 1000 / expectedMass s)
  else none

/-- OVER_EXCAVATION holds (R103). -/
def overExcavation (s : State) : Bool := (balanceRatio s).any (fun r => decide (s.params.balanceHigh < r))

/-- UNDER_EXCAVATION holds (R103). -/
def underExcavation (s : State) : Bool := (balanceRatio s).any (fun r => decide (r < s.params.balanceLow))

/-! ### Screw (R162, R163) -/

/-- The screw is running (section 10.1). -/
def screwRunning (s : State) : Bool := s.cycle == .boring && gateOpen s

/-- The screw ceiling (R163). -/
def screwCeiling (s : State) : Nat :=
  if overExcavation s then min s.params.screwBalanceCeiling s.params.screwMax else s.params.screwMax

/-- Clamping to the range from SCREW_MIN to the ceiling in force (R163). -/
def screwClamp (s : State) (v : Int) : Nat :=
  if v < s.params.screwMin then s.params.screwMin
  else if v > screwCeiling s then screwCeiling s
  else v.toNat

/-- The screw setpoint: output 22 (section 10.1). -/
def screwSetpoint (s : State) : Nat := s.outputs[(22 : Fin 25)].value

/-! ### Rings (R106, R113) -/

/-- The ring under construction (R107): at most one record is BUILDING (log 20). -/
def buildingRing (s : State) : Option Ring := s.rings.find? (fun r => r.state == .building)

/-- The states in which a ring has its key (R107). -/
def RingState.isClosed : RingState → Bool
  | .closed => true | .grouting => true | .grouted => true | .planned => false | .building => false

/-- The newest record that is CLOSED, GROUTING or GROUTED (R41, R44). -/
def newestClosed (s : State) : Option Ring := (s.rings.filter (fun r => r.state.isClosed)).getLast?

/-- The number after a ring number: 1 follows 65 535 (R106). -/
def nextNumber (n : Nat) : Nat := if n = 65535 then 1 else n + 1

/-- The ordinary slot with number n. -/
def ordinarySlot (n : Fin 6) : Slot := ⟨n.val, by omega⟩

/-- The next slot of a ring (R113): the first OPEN slot of the order list, then the key; none while a slot is
ON_ERECTOR or the ring is not BUILDING (log 9). -/
def Ring.nextSlot (r : Ring) : Option Slot :=
  if r.state ≠ .building then none
  else if r.slots.toList.any (fun sl => sl.state == .onErector) then none
  else match r.order.toList.find? (fun n => r.slots[ordinarySlot n].state == .vacant) with
    | some n => some (ordinarySlot n)
    | none => if r.slots[keySlot].state = .vacant then some keySlot else none

/-! ### Grouting (R144) -/

/-- What a GROUTING ring still needs (R117, R144). -/
def Ring.need (r : Ring) : Nat := if r.state = .grouting then r.target - r.delivered * 100000 else 0

/-- The deficit (R144). -/
def deficit (s : State) : Nat := (s.rings.map Ring.need).sum

/-- The pump rate: GROUT_RATE, or PUMP_MAX where that is lower (R144). -/
def pumpRate (s : State) : Nat := min s.params.groutRate s.params.pumpMax

/-- The cycle states in which the pump may run (R144). -/
def Cycle.pumpMayRun : Cycle → Bool
  | .standstill => true | .boring => true | .building => true | .intervention => true
  | .unconfigured => false | .tripped => false

/-- Grouting is allowed (R144). -/
def groutAllowed (s : State) : Bool :=
  decide (0 < deficit s) && s.cycle.pumpMayRun && decide (0 < pumpRate s)

/-- The port that is SERVING: at most one is (section 9.1, log 20). -/
def servingPort (s : State) : Option (Fin 6) := (List.finRange 6).find? (fun p => s.ports[p].state == .serving)

/-- GROUT_NO_PORT holds (R144). -/
def groutNoPort (s : State) : Bool := groutAllowed s && (servingPort s).isNone

/-! ### Channels in use (R23) -/

/-- A channel is in use (table of R23). -/
def inUse (s : State) (c : Fin 30) : Bool :=
  if h : c.val < 16 then
    s.cycle == .building || (isReference s ⟨c.val, h⟩ && s.stroke.state == .opened)
  else if c.val < 20 then s.cycle == .standstill || s.cycle == .boring || s.cycle == .building
  else if c.val = 20 then s.cycle != .unconfigured
  else if c.val = 21 then s.cycle == .boring
  else if c.val = 22 then s.stroke.state == .opened || s.stroke.state == .closed
  else if c.val = 23 then groutAllowed s
  else
    let p := s.ports[(⟨c.val - 24, by omega⟩ : Fin 6)].state
    p == .serving || p == .pressureHold

/-- CHANNEL_STALE holds: a channel is STALE and in use (R23). -/
def channelStale (s : State) : Bool :=
  (List.finRange 30).any (fun c => !s.channels[c].fresh && inUse s c)

/-! ### Notices (R8 to R12) -/

/-- Whether the condition of a condition notice holds; false for an event notice (table of section 1.3). -/
def condition (s : State) : Notice → Bool
  | .tripped => s.cycle == .tripped
  | .channelStale => channelStale s
  | .segmentStarved => s.place.erector == .working .awaitSegment
  | .thrustDerated => s.gaugeWorn
  | .groutNoPort => groutNoPort s
  | .overExcavation => overExcavation s
  | .underExcavation => underExcavation s
  | _ => false

/-- The condition notices whose condition holds. -/
def conditionSet (s : State) : NoticeSet :=
  [Notice.tripped, .channelStale, .segmentStarved, .thrustDerated, .groutNoPort, .overExcavation,
    .underExcavation].foldl (fun set n => if condition s n then set ||| n.bit else set) 0

/-- The pending set: the event notices that have latched (R8) and the condition notices that hold (R9). -/
def pendingSet (s : State) : NoticeSet := (s.latched &&& eventSet) ||| conditionSet s

/-- ATTN (R12): some notice is both pending and enabled. -/
def attn (s : State) : Bool := pendingSet s &&& s.enabled != 0

/-- The number of the most urgent notice that is both pending and enabled, 0xFF when there is none (R13). -/
def mostUrgent (s : State) : Nat :=
  ((List.range 24).find? (fun n => (pendingSet s &&& s.enabled).getLsbD n)).getD 0xFF

end Sys2Proof.Machine
end

