-- ==== Sys2Proof/Machine/Ops.lean ====
section
/-! DEFINITION. The named operations the blocks share: notices, output words, cylinder commands, the grout search and
shots, the screw, placement halts, the change of cycle state, trips, and the tool records with their checks. -/

namespace Sys2Proof.Machine

/-! ### Notices (R8) -/

/-- The event of an event notice occurs: the notice joins the pending set (R8). -/
def raise (n : Notice) (s : State) : State := { s with latched := s.latched ||| n.bit }

/-- Raise a notice if a condition holds. -/
def raiseIf (b : Bool) (n : Notice) (s : State) : State := if b then raise n s else s

/-! ### Output words (R26) -/

/-- A write by the owning block: a different value is taken and the send mark set; the same changes nothing. -/
def Output.write (o : Output) (v : Nat) : Output := if o.value = v then o else ⟨v, true⟩

/-- Write output word i (R26). -/
def writeOutput (i : Fin 25) (v : Nat) (s : State) : State :=
  { s with outputs := s.outputs.set i (s.outputs[i].write v) }

/-- Set every send mark (R26). -/
def markAll (s : State) : State := { s with outputs := Vector.ofFn fun i => { s.outputs[i] with mark := true } }

/-- The lowest-numbered marked output (R27). -/
def lowestMarked (s : State) : Option (Fin 25) := (List.finRange 25).find? (fun i => s.outputs[i].mark)

/-- A free transmitter begins the message of the lowest-numbered marked output (R27). -/
def beginMessage (s : State) : State :=
  match s.sending, lowestMarked s with
  | none, some i =>
      { s with
        sending := some ⟨i, s.outputs[i].value⟩
        outputs := s.outputs.set i { s.outputs[i] with mark := false } }
  | _, _ => s

/-- Write the erector command, output 21 (section 8.1). -/
def writeErector (c : ErectorCommand) (s : State) : State := writeOutput 21 c.code s

/-! ### Rotation permit and group setpoints (R38, R93) -/

/-- The permit is re-evaluated (R38). -/
def evalPermit (s : State) : State := writeOutput 0 (if permitDue s then 1 else 0) s

/-- The four group setpoints are derived again (R93). -/
def deriveSetpoints (s : State) : State :=
  { s with
    outputs := Vector.ofFn fun o =>
      if h : 1 ≤ o.val ∧ o.val ≤ 4 then s.outputs[o].write (groupSetpoint s ⟨o.val - 1, by omega⟩)
      else s.outputs[o] }

/-! ### Cylinder commands (R87 to R91) -/

/-- The retract timer of a cylinder whose command is written (R91): loaded when the command becomes RETRACT and
stopped at once if the cylinder is already RETRACTED; kept while RETRACT stays; frozen by EXTEND and LOCK. -/
def timerOnCommand (s : State) (i : Fin 16) (c : Command) : Timer :=
  if c = .retract then
    if command s i = .retract then s.cylinders[i].timer
    else if extension s i ≤ s.params.retractedAt then (Timer.load s.params.retractTime).freeze
    else Timer.load s.params.retractTime
  else s.cylinders[i].timer.freeze

/-- The chosen cylinders are commanded; `owner` is their owner after, none where it is kept (R89, R90). -/
def commandWhere (chosen : Fin 16 → Bool) (c : Command) (owner : Option Owner) (s : State) : State :=
  { s with
    outputs := Vector.ofFn fun o =>
      if h : 5 ≤ o.val ∧ o.val ≤ 20 then
        if chosen ⟨o.val - 5, by omega⟩ then s.outputs[o].write c.code else s.outputs[o]
      else s.outputs[o]
    cylinders := Vector.ofFn fun i =>
      if chosen i then ⟨timerOnCommand s i c, owner.getD s.cylinders[i].owner⟩ else s.cylinders[i] }

/-- Every cylinder is commanded LOCK, its owner kept (R89). -/
def lockAll (s : State) : State := commandWhere (fun _ => true) .lock none s

/-- Every cylinder is commanded EXTEND with owner ADVANCE (R41, R45, R89). -/
def extendAll (s : State) : State := commandWhere (fun _ => true) .extend (some .advance) s

/-- The span of a slot of ring `r` is commanded EXTEND with owner BUILD (R90). -/
def extendSpan (r : Ring) (slot : Slot) (s : State) : State :=
  commandWhere (fun i => (span r.key slot).contains i) .extend (some (.build r.number slot)) s

/-- The span of a slot of ring `r` is commanded RETRACT with owner BUILD (R90), after the hold limit allowed it. -/
def retractSpan (r : Ring) (slot : Slot) (s : State) : State :=
  commandWhere (fun i => (span r.key slot).contains i) .retract (some (.build r.number slot)) s

/-! ### Grouting: shots, search and outputs (R145 to R150) -/

/-- Change one port record. -/
def setPort (p : Fin 6) (f : Port → Port) (s : State) : State := { s with ports := s.ports.set p (f s.ports[p]) }

/-- A shot ends and the port takes a state; the block timer stops with its value frozen (R147, R148, R150, R154). -/
def endShot (p : Fin 6) (st : PortState) (s : State) : State :=
  setPort p (fun port => { port with state := st, timer := port.timer.freeze }) s

/-- The first entry from the pointer that names an IDLE port (R146), with that port. -/
def searchEntry (s : State) : Option (Fin 16 × Fin 6) :=
  (List.finRange 16).findSome? fun j =>
    let e := s.pointer + j
    match s.rotation[e] with
    | some p => if s.ports[p].state = .idle then some (e, p) else none
    | none => none

/-- A search of R146: none while channel 23 is STALE; the port found becomes SERVING with a new shot. -/
def search (s : State) : State :=
  if s.channels[(23 : Fin 30)].fresh then
    match searchEntry s with
    | some (e, p) =>
        setPort p (fun port =>
          { port with state := .serving, shot := 0, timer := Timer.load s.params.blockTime })
          { s with pointer := e + 1 }
    | none => s
  else s

/-- The valve and the pump rate follow the ports (R145). -/
def groutOutputs (s : State) : State :=
  match servingPort s with
  | some p => writeOutput 24 (pumpRate s) (writeOutput 23 p.val s)
  | none => writeOutput 24 0 (writeOutput 23 255 s)

/-- The Grout Controller takes its state again at the end of an event (R144 to R146, R150): a shot ends when
grouting is not allowed, a search is made when it is and no port is SERVING, and the outputs follow. -/
def groutSettle (s : State) : State :=
  groutOutputs <|
    if groutAllowed s then
      if (servingPort s).isNone then search s else s
    else match servingPort s with
      | some p => endShot p .idle s
      | none => s

/-! ### Screw (R162 to R169) -/

/-- Write the screw setpoint, output 22. -/
def writeScrew (v : Nat) (s : State) : State := writeOutput 22 v s

/-- The screw starts (R164). -/
def startScrew (s : State) : State :=
  writeScrew (match s.screw.mode with
    | .auto => screwClamp s s.params.screwStart
    | .manual => screwClamp s s.screw.manual) s

/-- The screw after an event that may have started or stopped it (R162); `was` is whether it was running before. -/
def screwFollow (was : Bool) (s : State) : State :=
  if screwRunning s then (if was then s else startScrew s) else writeScrew 0 s

/-- The range changed while the screw may be running (R167, R169). -/
def screwRange (s : State) : State :=
  if screwRunning s then
    writeScrew (match s.screw.mode with
      | .auto => screwClamp s (screwSetpoint s)
      | .manual => screwClamp s s.screw.manual) s
  else s

/-- The balance condition has been taken again (R103); `before` is OVER_EXCAVATION as it stood. The Screw Controller
is told of a change of it (R163). -/
def balanceTaken (before : Bool) (s : State) : State :=
  if overExcavation s = before then s else screwRange s

/-! ### Placement: halting (R136, R139) -/

/-- A reservation is cancelled: the entry keeps its place, unreserved (R122). -/
def cancelReservation (s : State) : State :=
  { s with feed := s.feed.map fun e => { e with reserved := false } }

/-- A step whose slot is still OPEN. -/
def Step.beforeGrip : Step → Bool
  | .awaitSegment => true | .picking => true | .clearing => false | .positioning => false | .seating => false

/-- A placement under way in step `st` stops (R136, steps 1 to 6). -/
def haltPlacement (st : Step) (s : State) : State :=
  let s := if st.beforeGrip then cancelReservation s else s
  raise .buildAborted <| writeErector .halt
    { s with place := { s.place with
        erector := .halted
        interrupted := some st
        current := if st.beforeGrip then none else s.place.current
        timer := s.place.timer.freeze } }

/-- What a trip does to the placement (R139). -/
def placementOnTrip (s : State) : State :=
  match s.place.erector with
  | .working st => haltPlacement st s
  | .idle => writeErector .halt s
  | .halted => s

/-! ### Change of cycle state (R35) -/

/-- The cycle takes a new state and the blocks act on it: permit, group setpoints, screw and grout. -/
def changeCycle (c : Cycle) (s : State) : State :=
  let was := screwRunning s
  groutSettle (screwFollow was (deriveSetpoints (evalPermit { s with cycle := c })))

/-- A trip cause is taken (R49, R50). -/
def trip (cause : TripCause) (s : State) : State :=
  if s.cycle = .tripped then { s with furtherCauses := true }
  else placementOnTrip (lockAll (changeCycle .tripped { s with tripCause := some cause }))

/-- The configured flag is re-evaluated (R37). -/
def evalConfigured (s : State) : State :=
  let now := configuredDue s
  if now = s.configured then s
  else
    let t := { s with configured := now }
    if now ∧ s.cycle = .unconfigured then changeCycle .standstill t
    else if ¬ now ∧ s.cycle = .standstill then lockAll (changeCycle .unconfigured t)
    else t

/-! ### Tool records (R55 to R59, R72 to R74) -/

/-- A record is written with a fresh check code (section 4.1). -/
def storeTool (i : Fin 64) (t : ToolFields) (s : State) : State := { s with tools := s.tools.set i (Tool.fresh t) }

/-- The notices of R56 for a record that goes from state `a` to state `b`. -/
def wearNotices (a b : ToolState) (s : State) : State :=
  if b = .worn ∧ a ≠ .worn then raise .toolWorn s
  else if b = .watch ∧ a ≠ .watch ∧ a ≠ .worn then raise .toolWatch s
  else s

/-- The gauge-worn flag is re-evaluated and a change told to the Thrust Controller (R59, R92, R93). -/
def evalGaugeWorn (s : State) : State :=
  let now := anyGaugeWorn s.tools
  if now = s.gaugeWorn then s else deriveSetpoints { s with gaugeWorn := now }

/-- The summary is brought up to date (R58). -/
def summarise (s : State) : State :=
  { s with blocking := countBlocking s.tools, positions := countPositions s.tools }

/-- What follows from record i having gone from `old` to what it is now (R56, R58, R59, R37, R38). -/
def toolChanged (i : Fin 64) (old : ToolFields) (s : State) : State :=
  let new := s.tools[i].toToolFields
  let t := evalGaugeWorn (summarise (wearNotices old.state new.state s))
  let t := if old.state.blocks = new.state.blocks then t else evalPermit t
  if (old.state = .absent) = (new.state = .absent) then t else evalConfigured t

/-- A record is written and what follows from it is done. -/
def putTool (i : Fin 64) (t : ToolFields) (s : State) : State :=
  toolChanged i s.tools[i].toToolFields (storeTool i t s)

/-- A read found that record i does not match its check code (R73, steps 1 to 5). -/
def failRecord (i : Fin 64) (s : State) : State :=
  let old := s.tools[i].toToolFields
  let t := storeTool i { state := .suspect } s
  let t := { t with
    checkCaptured := some (s.checkCaptured.getD i)
    checkFailures := min (s.checkFailures + 1) 255 }
  let t := raise .recordCheckFailed t
  let t := if s.cycle = .boring then trip .recordCheck t else t
  toolChanged i old t

/-- A read of record i verifies its check code (R72). -/
def readTool (i : Fin 64) (s : State) : State := if s.tools[i].damaged then failRecord i s else s

/-! ### Stroke account (R42, R43) -/

/-- The stroke ends: the account closes with a cause, STROKE_ENDED is raised, and BORING becomes STANDSTILL. -/
def endStrokeWith (cause : EndCause) (s : State) : State :=
  let t := raise .strokeEnded
    { s with stroke := { s.stroke with state := .closed, endCause := some cause } }
  let t := balanceTaken (overExcavation s) t
  if s.cycle = .boring then changeCycle .standstill t else t

end Sys2Proof.Machine
end

