-- ==== Sys2Proof/Machine/Link.lean ====
section
/-! DEFINITION. The Request Port (spec/01): how a request is taken and answered (R1 to R6, R14), and the requests the
port owns itself. -/

namespace Sys2Proof.Machine

/-- The outcome of a command. -/
abbrev Result := Host.Outcome State Fault Refusal

/-- What carrying out a request gives: the state, and the status and results of the answer. -/
structure Taken where
  state   : State
  status  : Status
  results : List Byte

/-- How an owner carries out a request whose frame and length are right. -/
abbrev Handler := List Byte → State → Taken

/-- A refusal: none of the request's changes is made, and the answer has length 0 (R5, R16). -/
def refuse (status : Status) (s : State) : Taken := ⟨s, status, []⟩

/-- A request carried out, answered DONE. -/
def doneWith (results : List Byte) (s : State) : Taken := ⟨s, .done, results⟩

/-- DONE, or DONE_CLAMPED where a tuning value was clamped (R5). -/
def doneOrClamped (clamped : Bool) (results : List Byte) (s : State) : Taken :=
  ⟨s, if clamped then .doneClamped else .done, results⟩

/-- A refused request reaches the error capture (R14). -/
def ErrorCapture.note (c : ErrorCapture) (kind : Byte) (r : Request) (status : Status) : ErrorCapture :=
  match c.first with
  | some _ => { c with count := min (c.count + 1) 255 }
  | none =>
      let captured : Captured :=
        { kind := kind, tag := r.tag, status := status, length := r.args.length,
          arg0 := r.args.getD 0 0, arg1 := r.args.getD 1 0, arg2 := r.args.getD 2 0, arg3 := r.args.getD 3 0 }
      { c with first := some captured }

/-- The transaction shifts out the answer buffer, and the answer to its request replaces it (R1, R2); a refused
status reaches the error capture (R14). -/
def respond (kind : Byte) (r : Request) (before : Answer) (t : Taken) : State :=
  { t.state with
    link := { answer := ⟨kind, r.tag, t.status, t.results⟩, shifted := before.wire (64 + r.extra) }
    capture := if t.status.refused then t.state.capture.note kind r t.status else t.state.capture }

/-- Take a request (R1): more than 56 argument bytes fit no frame (R3), a length other than the index's is refused
BAD_LENGTH (R5), any other request is carried out by its owner. -/
def takeRequest (kind : Byte) (count : Nat) (carryOut : Handler) (r : Request) (s : State) : State :=
  respond kind r s.link.answer <|
    if 56 < r.args.length then refuse .linkCheck s
    else if r.args.length ≠ count then refuse .badLength s
    else carryOut r.args s

/-- A deselection before the 64th byte (R2): the bytes received are discarded; the answer buffer keeps its contents
and has shifted out as many bytes as were clocked. -/
def cutShort (bytes : List Byte) (s : State) : State :=
  { s with link := { s.link with shifted := s.link.answer.wire bytes.length } }

/-- Carry out a request in the cycle states where its owner takes it, WRONG_STATE elsewhere (R6). -/
def inStates (ok : Cycle → Bool) (carryOut : Handler) : Handler := fun args s =>
  if ok s.cycle then carryOut args s else refuse .wrongState s

/-- Carry out a request in every cycle state except UNCONFIGURED, NOT_CONFIGURED there (R6). -/
def ifConfigured (carryOut : Handler) : Handler := fun args s =>
  if s.cycle = .unconfigured then refuse .notConfigured s else carryOut args s

/-! ### Requests of the port itself -/

/-- NO_REQUEST (R4). -/
def noRequest : Handler := fun _ s => doneWith [] s

/-- READ_NOTICES (R13). -/
def readNotices : Handler := fun _ s =>
  doneWith (noticeBytes (pendingSet s) ++ noticeBytes s.enabled ++ beBytes 1 (mostUrgent s)) s

/-- CLEAR_NOTICES (R10): each event notice named leaves the pending set. -/
def clearNotices : Handler := fun args s =>
  let t := { s with latched := s.latched &&& ~~~(BitVec.ofNat 24 (field args 0 3)) }
  doneWith (noticeBytes (pendingSet t)) t

/-- SET_NOTICE_ENABLE (R10). -/
def setNoticeEnable : Handler := fun args s => doneWith [] { s with enabled := BitVec.ofNat 24 (field args 0 3) }

/-- The ten result bytes of READ_ERROR_CAPTURE (R15). -/
def ErrorCapture.bytes (c : ErrorCapture) : List Byte :=
  match c.first with
  | some f => [0x01, f.kind, f.tag, BitVec.ofNat 8 f.status.code, BitVec.ofNat 8 f.length,
      f.arg0, f.arg1, f.arg2, f.arg3, BitVec.ofNat 8 c.count]
  | none => List.replicate 10 0x00

/-- READ_ERROR_CAPTURE (R15): the capture is returned, then emptied. -/
def readErrorCapture : Handler := fun _ s => doneWith s.capture.bytes { s with capture := {} }

/-- NO_REQUEST. -/
def execNoRequest (r : Request) (s : State) : Result := .next (takeRequest 0x00 0 noRequest r s)

/-- READ_NOTICES. -/
def execReadNotices (r : Request) (s : State) : Result := .next (takeRequest 0x02 0 readNotices r s)

/-- CLEAR_NOTICES. -/
def execClearNotices (r : Request) (s : State) : Result := .next (takeRequest 0x03 3 clearNotices r s)

/-- SET_NOTICE_ENABLE. -/
def execSetNoticeEnable (r : Request) (s : State) : Result := .next (takeRequest 0x04 3 setNoticeEnable r s)

/-- READ_ERROR_CAPTURE. -/
def execReadErrorCapture (r : Request) (s : State) : Result := .next (takeRequest 0x05 0 readErrorCapture r s)

end Sys2Proof.Machine
end

