-- ==== Sys2Proof/Machine/Rings.lean ====
section
/-! DEFINITION. The Ring Register and the Feed Queue (spec/07). -/

namespace Sys2Proof.Machine

/-- Change the first element for which `p` holds. -/
def modifyFirst {α : Type} (p : α → Bool) (f : α → α) : List α → List α
  | [] => []
  | a :: rest => if p a then f a :: rest else a :: modifyFirst p f rest

/-- Change the BUILDING record. -/
def updateBuilding (f : Ring → Ring) (s : State) : State :=
  { s with rings := modifyFirst (fun r => r.state == .building) f s.rings }

/-- Change one slot record of a ring. -/
def Ring.setSlot (r : Ring) (slot : Slot) (sl : SlotRecord) : Ring := { r with slots := r.slots.set slot sl }

/-! ### Exposure and the grout target (R116, R117) -/

/-- The judgment of R117: GROUTING becomes GROUTED when wholly exposed and its target is met. -/
def Ring.judged (ringWidth : Nat) (r : Ring) : Ring :=
  if r.state = .grouting ∧ r.exposure = ringWidth ∧ r.target ≤ r.delivered * 100000 then
    { r with state := .grouted }
  else r

/-- The exposure an advance since closure gives (R116, step 2). -/
def exposureOf (tailLength ringWidth advance : Nat) : Nat := min (advance - tailLength) ringWidth

/-- An increment applied to one record (R116, steps 1 to 6). -/
def Ring.advanced (tailLength ringWidth delta : Nat) (r : Ring) : Ring :=
  if r.state = .closed ∨ r.state = .grouting then
    let advance := satAdd r.advance delta
    let exposure := exposureOf tailLength ringWidth advance
    let target := r.target + r.voidArea.getD 0 * r.groutFactor.getD 0 * (exposure - r.exposure)
    let state := if r.state = .closed ∧ 0 < exposure then .grouting else r.state
    Ring.judged ringWidth
      { r with advance := advance, exposure := exposure, target := target, state := state }
  else r

/-- RING_GROUTED is raised when a change of the register takes a record into GROUTED (R117). -/
def raiseGrouted (before : List Ring) (s : State) : State :=
  raiseIf ((before.zip s.rings).any fun (a, b) => a.state != .grouted && b.state == .grouted) .ringGrouted s

/-- The Ring Register applies an increment to every record that is CLOSED or GROUTING, and the Grout Controller is
told that the targets have changed (R116, R144). -/
def advanceRings (delta : Nat) (s : State) : State :=
  let width := s.params.ringWidth.getD 0
  let tail := s.params.tailLength.getD 0
  groutSettle (raiseGrouted s.rings { s with rings := s.rings.map (Ring.advanced tail width delta) })

/-- A volume credited to the oldest GROUTING record, or to the surplus when there is none (R153). -/
def creditVolume (volume : Nat) (s : State) : State :=
  if s.rings.any (fun r => r.state == .grouting) then
    let credit := fun r : Ring =>
      Ring.judged (s.params.ringWidth.getD 0) { r with delivered := satAdd r.delivered volume }
    raiseGrouted s.rings { s with rings := modifyFirst (fun r => r.state == .grouting) credit s.rings }
  else { s with surplus := satAdd s.surplus volume }

/-- The key slot has become PLACED: the ring closes (R115, steps 1 to 4). -/
def closeRing (s : State) : State :=
  raise .ringClosed <| updateBuilding (fun r =>
    { r with
      state := .closed, advance := 0, exposure := 0, target := 0, delivered := 0
      voidArea := some (s.params.voidArea.getD 0), groutFactor := some s.params.groutFactor }) s

/-! ### Requests on the register -/

/-- RING_PLAN (R108). -/
def ringPlan : Handler := inStates (· != .tripped) fun args s =>
  let number := field args 0 2
  match RingType.ofCode (field args 2 1), indexArg 16 (field args 3 1), orderArg (args.drop 4) with
  | some type, some key, some order =>
      if number = 0 then refuse .badArgument s
      else if 8 ≤ s.rings.length then refuse .full s
      else if (s.rings.getLast?).any (fun r => nextNumber r.number != number) then refuse .sequence s
      else doneWith [] { s with rings := s.rings ++ [{ number := number, type := type, key := key, order := order }] }
  | _, _, _ => refuse .badArgument s

/-- RING_CANCEL (R109). -/
def ringCancel : Handler := inStates (· != .tripped) fun _ s =>
  if (s.rings.getLast?).any (fun r => r.state == .planned) then doneWith [] { s with rings := s.rings.dropLast }
  else refuse .notFound s

/-- The record with a number (R110, R111). -/
def findRing (s : State) (number : Nat) : Option Ring := s.rings.find? (fun r => r.number == number)

/-- RING_RETIRE (R110). -/
def ringRetire : Handler := inStates (· != .tripped) fun args s =>
  let number := field args 0 2
  if number = 0 then refuse .badArgument s
  else match findRing s number with
    | none => refuse .notFound s
    | some r =>
        if r.state ≠ .grouted then refuse .wrongState s
        else if (s.rings.head?).any (fun o => o.number != number) then refuse .sequence s
        else doneWith [] { s with rings := s.rings.tail }

/-- One slot record of READ_RING (section 1.7). -/
def SlotRecord.bytes (sl : SlotRecord) : List Byte := beBytes 1 sl.state.code ++ beBytes 3 (optionalCode sl.segment)

/-- The order list of READ_RING: two slot numbers a byte, the first in the high half (section 1.7). -/
def orderBytes (order : Vector (Fin 6) 6) : List Byte :=
  beBytes 1 (16 * order[0].val + order[1].val) ++ beBytes 1 (16 * order[2].val + order[3].val) ++
    beBytes 1 (16 * order[4].val + order[5].val)

/-- The 55 result bytes of READ_RING (section 1.7). -/
def Ring.bytes (r : Ring) : List Byte :=
  beBytes 2 r.number ++ beBytes 1 r.type.code ++ beBytes 1 r.key.val ++ beBytes 1 r.state.code ++
    orderBytes r.order ++ r.slots.toList.flatMap SlotRecord.bytes ++ beBytes 4 r.advance ++
    beBytes 2 r.exposure ++ beBytes 3 (optionalCode r.voidArea) ++ beBytes 1 (optionalCode r.groutFactor) ++
    beBytes 5 r.target ++ beBytes 4 r.delivered

/-- READ_RING (R111). -/
def readRing : Handler := fun args s =>
  let number := field args 0 2
  if number = 0 then refuse .badArgument s
  else match findRing s number with
    | none => refuse .notFound s
    | some r => doneWith r.bytes s

/-! ### The Feed Queue -/

/-- An entry fits a slot's kind and a ring's type (R122). -/
def Segment.fits (kind : SegmentKind) (type : RingType) (e : Segment) : Bool := e.kind == kind && e.type == type

/-- The oldest fitting entry becomes reserved (R122). -/
def reserve (kind : SegmentKind) (type : RingType) (s : State) : State :=
  { s with feed := modifyFirst (Segment.fits kind type) (fun e => { e with reserved := true }) s.feed }

/-- A match that finds nothing counts once (R122). -/
def starve (s : State) : State := { s with starvation := min (s.starvation + 1) 65535 }

/-- A segment identity is held by the queue or by a slot record (R120). -/
def identityHeld (id : Nat) (s : State) : Bool :=
  s.feed.any (fun e => e.id == id) || s.rings.any (fun r => r.slots.toList.any (fun sl => sl.segment == some id))

/-- A search of R122 for the slot of the placement: PICKING with one entry reserved, or AWAIT_SEGMENT and one more
starvation (R128). -/
def matchSegment (kind : SegmentKind) (type : RingType) (s : State) : State :=
  if s.feed.any (Segment.fits kind type) then
    let t := reserve kind type s
    writeOutput 21 ErectorCommand.pick.code
      { t with place := { t.place with erector := .working .picking, timer := Timer.load s.params.erectorStepTime } }
  else
    let t := starve s
    writeOutput 21 ErectorCommand.idle.code { t with place := { t.place with erector := .working .awaitSegment } }

/-- An enqueue told to the Placement Controller (R120, R128): in AWAIT_SEGMENT the match is tried again. -/
def retryMatch (s : State) : State :=
  if s.place.erector = .working .awaitSegment then
    match buildingRing s, s.place.current with
    | some r, some slot => matchSegment slot.kind r.type s
    | _, _ => s
  else s

/-- SEGMENT_ENQUEUE (R120). -/
def segmentEnqueue : Handler := ifConfigured fun args s =>
  let id := field args 0 3
  match SegmentKind.ofCode (field args 3 1), RingType.ofCode (field args 4 1) with
  | some kind, some type =>
      if id = 0 then refuse .badArgument s
      else if 8 ≤ s.feed.length then refuse .full s
      else if identityHeld id s then refuse .duplicate s
      else doneWith [] (retryMatch { s with feed := s.feed ++ [{ id := id, kind := kind, type := type }] })
  | _, _ => refuse .badArgument s

/-- SEGMENT_WITHDRAW (R121). -/
def segmentWithdraw : Handler := ifConfigured fun args s =>
  let id := field args 0 3
  if id = 0 then refuse .badArgument s
  else match s.feed.find? (fun e => e.id == id) with
    | none => refuse .notFound s
    | some e =>
        if e.reserved then refuse .reserved s
        else doneWith [] { s with feed := s.feed.filter (fun e => e.id != id) }

/-- One entry field of READ_FEED (R124). -/
def Segment.bytes (e : Segment) : List Byte :=
  beBytes 3 e.id ++ beBytes 1 e.kind.code ++ beBytes 1 e.type.code ++ beBytes 1 (flagBits [e.reserved])

/-- The 51 result bytes of READ_FEED (R124). -/
def feedBytes (s : State) : List Byte :=
  beBytes 1 s.feed.length ++ beBytes 2 s.starvation ++
    (s.feed.flatMap Segment.bytes ++ List.replicate (48 - 6 * s.feed.length) 0x00)

/-- READ_FEED (R124). -/
def readFeed : Handler := ifConfigured fun _ s => doneWith (feedBytes s) s

/-- RING_PLAN. -/
def execRingPlan (r : Request) (s : State) : Result := .next (takeRequest 0x50 10 ringPlan r s)

/-- RING_CANCEL. -/
def execRingCancel (r : Request) (s : State) : Result := .next (takeRequest 0x51 0 ringCancel r s)

/-- RING_RETIRE. -/
def execRingRetire (r : Request) (s : State) : Result := .next (takeRequest 0x52 2 ringRetire r s)

/-- READ_RING. -/
def execReadRing (r : Request) (s : State) : Result := .next (takeRequest 0x53 2 readRing r s)

/-- SEGMENT_ENQUEUE. -/
def execSegmentEnqueue (r : Request) (s : State) : Result := .next (takeRequest 0x58 5 segmentEnqueue r s)

/-- SEGMENT_WITHDRAW. -/
def execSegmentWithdraw (r : Request) (s : State) : Result := .next (takeRequest 0x59 3 segmentWithdraw r s)

/-- READ_FEED. -/
def execReadFeed (r : Request) (s : State) : Result := .next (takeRequest 0x5A 0 readFeed r s)

end Sys2Proof.Machine
end

