-- ==== Sys2Proof/Machine/Grout.lean ====
section
/-! DEFINITION. The Grout Controller (spec/09): port pressures, pulses, the block timer, and its requests. -/

namespace Sys2Proof.Machine

/-! ### Samples and the block timer -/

/-- A sample on a port's pressure channel (R148). -/
def portPressureSample (p : Fin 6) (value : Nat) (s : State) : State :=
  let t := setPort p (fun port => { port with lastPressure := value }) s
  let port := s.ports[p]
  match port.state with
  | .serving =>
      if port.limit ≤ value then groutSettle (raise .portPressureHold (endShot p .pressureHold t)) else t
  | .pressureHold =>
      if value < port.limit - port.hysteresis then
        groutSettle (setPort p (fun port => { port with state := .idle }) t)
      else t
  | .idle => t
  | .blocked => t
  | .outOfService => t

/-- Pulses credited to the SERVING port, whose block timer is loaded again, or to the unattributed count (R152). -/
def creditPulses (n : Nat) (s : State) : State :=
  let t := { s with totalPulses := s.totalPulses + BitVec.ofNat 32 n }
  match servingPort s with
  | some p =>
      setPort p (fun port =>
        { port with
          credited := port.credited + BitVec.ofNat 32 n
          shot := satAdd port.shot (n * s.params.pulseWeight)
          timer := Timer.load s.params.blockTime }) t
  | none => { t with unattributed := s.unattributed + BitVec.ofNat 32 n }

/-- A shot that has taken SHOT_VOLUME ends, while grouting is still allowed (R147, R153 step 5). -/
def shotVolumeEnd (s : State) : State :=
  match servingPort s with
  | some p => if groutAllowed s ∧ s.params.shotVolume ≤ s.ports[p].shot then endShot p .idle s else s
  | none => s

/-- A sample of channel 23 (R151 to R153); `first` marks the first after STALE, on which a search follows (R146). -/
def pulseSample (c : Nat) (first : Bool) (s : State) : State :=
  let n := countDiff c s.pulse.prev
  let t := { s with pulse := ⟨c, false⟩ }
  if s.pulse.rebase ∨ 32767 < n then
    let t := { t with rebases := min (s.rebases + 1) 65535 }
    if first then groutSettle t else t
  else if n = 0 then t
  else groutSettle (shotVolumeEnd (creditVolume (n * s.params.pulseWeight) (creditPulses n t)))

/-- The block timer of the SERVING port has reached zero (R149). -/
def blockExpired (p : Fin 6) (s : State) : State :=
  groutSettle <| raise .portBlocked <|
    setPort p (fun port => { port with state := .blocked, timer := port.timer.atZero }) s

/-- BLOCK_TIMER_EXPIRY: no effect on a port that is not SERVING or whose timer is stopped or expired (log 2). -/
def execBlockTimerExpiry (p : Fin 6) (s : State) : Result :=
  .next (if s.ports[p].state = .serving ∧ s.ports[p].timer.counting then blockExpired p s else s)

/-! ### Requests -/

/-- SET_ROTATION (R143). -/
def setRotation : Handler := ifConfigured fun args s =>
  if args.all (fun b => (rotationArg b).isSome) then
    let t := { s with
      rotation := Vector.ofFn fun i => (rotationArg (args.getD i.val 0)).getD none
      pointer := 0 }
    let t := match servingPort t with
      | some p => endShot p .idle t
      | none => t
    doneWith [] (groutSettle t)
  else refuse .badArgument s

/-- A tuning value clamped to its range (R173). -/
def clampTo (low high v : Nat) : Nat := max low (min v high)

/-- SET_PORT (R156). -/
def setPortRequest : Handler := ifConfigured fun args s =>
  let limit := field args 1 2
  let hysteresis := field args 3 2
  match indexArg 6 (field args 0 1) with
  | none => refuse .badArgument s
  | some p =>
      doneOrClamped (clampTo 100 1000 limit != limit || clampTo 0 90 hysteresis != hysteresis) []
        (setPort p (fun port =>
          { port with limit := clampTo 100 1000 limit, hysteresis := clampTo 0 90 hysteresis }) s)

/-- A request that moves a port to a state and makes a search where one is due (R154, R155). -/
def movePort (acts : PortState → Bool) (st : PortState) : Handler := ifConfigured fun args s =>
  match indexArg 6 (field args 0 1) with
  | none => refuse .badArgument s
  | some p =>
      if acts s.ports[p].state then doneWith [] (groutSettle (endShot p st s)) else refuse .wrongState s

/-- PORT_OUT_OF_SERVICE (R154). -/
def portOutOfService : Handler := movePort (· != .outOfService) .outOfService

/-- PORT_RESTORE (R154). -/
def portRestore : Handler := movePort (· == .outOfService) .idle

/-- PORT_CLEAR (R155). -/
def portClear : Handler := movePort (· == .blocked) .idle

/-- GROUT_RATE stored, and its effect at once (R157). -/
def storeGroutRate (v : Nat) (s : State) : State :=
  groutSettle { s with params := { s.params with groutRate := v } }

/-- GROUT_RATE (R157). -/
def groutRate : Handler := ifConfigured fun args s =>
  let v := field args 0 2
  let stored := min v s.params.pumpMax
  doneOrClamped (stored != v) [] (storeGroutRate stored s)

/-- The 21 result bytes of READ_PORT (R158). -/
def portBytes (s : State) (p : Fin 6) : List Byte :=
  let port := s.ports[p]
  beBytes 1 p.val ++ beBytes 1 port.state.code ++ beBytes 2 port.limit ++ beBytes 2 port.hysteresis ++
    beBytes 2 port.lastPressure ++ beBytes 4 port.credited.toNat ++ beBytes 4 port.shot ++
    beInt32 port.timer.value ++
    beBytes 1 (flagBits [port.timer.running, s.channels[portChannel p].fresh, s.rotation.toList.contains (some p)])

/-- READ_PORT (R158). -/
def readPort : Handler := ifConfigured fun args s =>
  match indexArg 6 (field args 0 1) with
  | none => refuse .badArgument s
  | some p => doneWith (portBytes s p) s

/-- One entry of the rotation table as a byte: the port, or 255 for SKIP (R159). -/
def rotationByte (entry : Option (Fin 6)) : Byte := BitVec.ofNat 8 ((entry.map Fin.val).getD 255)

/-- The 43 result bytes of READ_GROUT (R159). -/
def groutBytes (s : State) : List Byte :=
  beBytes 1 s.pointer.val ++ s.rotation.toList.map rotationByte ++ [rotationByte (servingPort s)] ++
    beBytes 2 s.outputs[(24 : Fin 25)].value ++ beBytes 6 (deficit s) ++ beBytes 4 s.totalPulses.toNat ++
    beBytes 4 s.unattributed.toNat ++ beBytes 4 s.surplus ++ beBytes 2 s.rebases ++
    beBytes 2 (((s.rings.find? (fun r => r.state == .grouting)).map Ring.number).getD 0) ++
    beBytes 1 (flagBits [groutAllowed s, groutNoPort s, s.channels[(23 : Fin 30)].fresh])

/-- READ_GROUT (R159). -/
def readGrout : Handler := ifConfigured fun _ s => doneWith (groutBytes s) s

/-- SET_ROTATION. -/
def execSetRotation (r : Request) (s : State) : Result := .next (takeRequest 0x70 16 setRotation r s)

/-- SET_PORT. -/
def execSetPort (r : Request) (s : State) : Result := .next (takeRequest 0x71 5 setPortRequest r s)

/-- PORT_OUT_OF_SERVICE. -/
def execPortOutOfService (r : Request) (s : State) : Result := .next (takeRequest 0x72 1 portOutOfService r s)

/-- PORT_RESTORE. -/
def execPortRestore (r : Request) (s : State) : Result := .next (takeRequest 0x73 1 portRestore r s)

/-- PORT_CLEAR. -/
def execPortClear (r : Request) (s : State) : Result := .next (takeRequest 0x74 1 portClear r s)

/-- GROUT_RATE. -/
def execGroutRate (r : Request) (s : State) : Result := .next (takeRequest 0x75 2 groutRate r s)

/-- READ_PORT. -/
def execReadPort (r : Request) (s : State) : Result := .next (takeRequest 0x76 1 readPort r s)

/-- READ_GROUT. -/
def execReadGrout (r : Request) (s : State) : Result := .next (takeRequest 0x77 0 readGrout r s)

end Sys2Proof.Machine
end

