-- ==== Sys2Proof/Machine/Screw.lean ====
section
/-! DEFINITION. The Screw Controller (spec/10): the AUTO law and SET_SCREW_MODE. -/

namespace Sys2Proof.Machine

/-- The step of the AUTO law (R165, steps 1 and 2): truncated toward zero, then limited to SCREW_STEP. -/
def autoStep (s : State) (pressure : Nat) : Int :=
  let raw := (((pressure : Int) - s.params.faceTarget) * s.params.screwGain).tdiv 1000
  max (-(s.params.screwStep : Int)) (min raw s.params.screwStep)

/-- A sample of channel 21 (R165). -/
def chamberSample (pressure : Nat) (s : State) : State :=
  let t := { s with screw := { s.screw with chamberHeld := false } }
  if s.screw.mode = .auto ∧ screwRunning s then
    writeScrew (screwClamp s (screwSetpoint s + autoStep s pressure)) t
  else t

/-- The eight result bytes of SET_SCREW_MODE (R168). -/
def screwBytes (s : State) : List Byte :=
  beBytes 1 s.screw.mode.code ++ beBytes 2 (screwSetpoint s) ++ beBytes 2 s.screw.manual ++
    beBytes 2 (screwCeiling s) ++
    beBytes 1 (flagBits [screwRunning s, gateOpen s, s.screw.chamberHeld, overExcavation s])

/-- MANUAL with a speed (R168). -/
def setManual (speed : Nat) (s : State) : State :=
  let t := { s with screw := { s.screw with mode := .manual, manual := min speed 250 } }
  if screwRunning t then writeScrew (screwClamp t t.screw.manual) t else t

/-- AUTO (R168): the setpoint and the manual speed are kept. -/
def setAuto (s : State) : State := { s with screw := { s.screw with mode := .auto } }

/-- SET_SCREW_MODE (R168), for either row. -/
def setScrewMode : Handler := fun args s =>
  let speed := field args 1 2
  if field args 0 1 = 0 then doneWith (screwBytes (setAuto s)) (setAuto s)
  else if field args 0 1 = 1 then
    let t := setManual speed s
    doneOrClamped (decide (speed < s.params.screwMin ∨ screwCeiling s < speed)) (screwBytes t) t
  else refuse .badArgument s

/-- SET_SCREW_MODE with a mode other than AUTO. -/
def execSetScrewModeManual (r : Request) (s : State) : Result := .next (takeRequest 0x78 3 setScrewMode r s)

/-- SET_SCREW_MODE with mode AUTO. -/
def execSetScrewModeAuto (r : Request) (s : State) : Result := .next (takeRequest 0x78 3 setScrewMode r s)

end Sys2Proof.Machine
end

