-- ==== Sys2Proof/Machine/Placement.lean ====
section
/-! DEFINITION. The Placement Controller (spec/08): the steps of a placement, its requests, and the step timer. -/

namespace Sys2Proof.Machine

/-- A step is entered: the erector state, and the step timer loaded with ERECTOR_STEP_TIME (R134). -/
def enterStep (st : Step) (s : State) : State :=
  { s with place := { s.place with erector := .working st, timer := Timer.load s.params.erectorStepTime } }

/-- The pick step for a slot of ring `r` (R128). -/
def pickStep (r : Ring) (slot : Slot) (s : State) : State :=
  matchSegment slot.kind r.type { s with place := { s.place with current := some slot } }

/-- POSITIONING is entered with the erector sent to the span's first cylinder (R130). -/
def enterPositioning (r : Ring) (slot : Slot) (s : State) : State :=
  writeErector (.goto (spanFirst r.key slot)) (enterStep .positioning s)

/-- The Placement Controller looks at the span of the current slot while CLEARING (R130): when every cylinder of it is
RETRACTED, POSITIONING is entered. -/
def clearingLook (s : State) : State :=
  if s.place.erector = .working .clearing then
    match buildingRing s, s.place.current with
    | some r, some slot =>
        if (span r.key slot).all (fun i => derived s i == .retracted) then enterPositioning r slot s else s
    | _, _ => s
  else s

/-- CLEARING is entered: the span is retracted, and CLEARING ends at once if it is all RETRACTED (R129, R137). -/
def enterClearing (r : Ring) (slot : Slot) (s : State) : State :=
  clearingLook (writeErector .pick (enterStep .clearing (retractSpan r slot s)))

/-- SEATING is entered: the span is extended and the command becomes SEAT (R131, R137). -/
def enterSeating (r : Ring) (slot : Slot) (s : State) : State :=
  writeErector .seat (enterStep .seating (extendSpan r slot s))

/-- The load of R114: the slot becomes ON_ERECTOR when it is the ring's next slot and OPEN. -/
def loadSlot (slot : Slot) (id : Nat) (s : State) : State :=
  updateBuilding (fun r =>
    if r.nextSlot = some slot ∧ r.slots[slot].state = .vacant then r.setSlot slot ⟨.onErector, some id⟩ else r) s

/-- The place of R114: an ON_ERECTOR slot becomes PLACED and keeps its identity. -/
def placeSlot (slot : Slot) (s : State) : State :=
  updateBuilding (fun r =>
    if r.slots[slot].state = .onErector then r.setSlot slot { r.slots[slot] with state := .placed } else r) s

/-- The return of R114: an ON_ERECTOR slot becomes OPEN and its identity absent. -/
def returnSlot (slot : Slot) (s : State) : State :=
  updateBuilding (fun r => if r.slots[slot].state = .onErector then r.setSlot slot {} else r) s

/-! ### The erector's sense events (R129, R131, R132) -/

/-- SEG_GRIPPED (R129). -/
def segGripped (s : State) : State :=
  if s.place.erector = .working .picking then
    match buildingRing s, s.place.current, s.feed.find? (·.reserved) with
    | some r, some slot, some e =>
        let t := loadSlot slot e.id { s with feed := s.feed.filter (fun f => !f.reserved) }
        if retractionAllowed t (span r.key slot) then enterClearing r slot t else haltPlacement .clearing t
    | _, _, _ => s
  else s

/-- AT_SLOT (R131). -/
def atSlot (s : State) : State :=
  if s.place.erector = .working .positioning then
    match buildingRing s, s.place.current with
    | some r, some slot => enterSeating r slot s
    | _, _ => s
  else s

/-- The erector becomes IDLE with command IDLE (R132). -/
def placeIdle (s : State) : State := writeErector .idle { s with place := { s.place with erector := .idle } }

/-- What follows an ordinary slot placed (table of R132). -/
def afterSlot (s : State) : State :=
  match s.place.mode with
  | .single => placeIdle s
  | .run =>
      if s.place.hold then raise .buildHeld (placeIdle s)
      else match buildingRing s with
        | none => raise .buildHeld (placeIdle s)
        | some r =>
            match r.nextSlot with
            | none => raise .buildHeld (placeIdle s)
            | some slot =>
                if retractionAllowed s (span r.key slot) then pickStep r slot s
                else raise .buildHeld (placeIdle s)

/-- The closure and what the Cycle Controller does on it (R115, R45). -/
def closure (s : State) : State := extendAll (changeCycle .standstill (closeRing (placeIdle s)))

/-- SEG_BOLTED (R132). -/
def segBolted (s : State) : State :=
  if s.place.erector = .working .seating then
    match s.place.current with
    | some slot =>
        let t := raise .slotPlaced (placeSlot slot s)
        let t := { t with place := { t.place with timer := t.place.timer.freeze, current := none } }
        if slot = keySlot then closure t else afterSlot t
    | none => s
  else s

/-! ### Requests -/

/-- The cycle state of the placement requests (section 8.1). -/
def atBuilding (c : Cycle) : Bool := c == .building

/-- PLACE_NEXT and PLACE_RUN (R126): `start` sets the mode and the hold flag. -/
def placeStart (start : Placement → Placement) : Handler := inStates atBuilding fun _ s =>
  if s.place.erector ≠ .idle then refuse .busy s
  else match buildingRing s with
    | none => refuse .wrongState s
    | some r =>
        match r.nextSlot with
        | none => refuse .wrongState s
        | some slot =>
            if retractionAllowed s (span r.key slot) then
              ⟨pickStep r slot { s with place := start s.place }, .accepted, []⟩
            else refuse .holdLimit s

/-- PLACE_NEXT (R126). -/
def placeNext : Handler := placeStart fun p => { p with mode := .single }

/-- PLACE_RUN (R126). -/
def placeRun : Handler := placeStart fun p => { p with mode := .run, hold := false }

/-- ERECTOR_HOLD (R135). -/
def erectorHold : Handler := inStates atBuilding fun _ s =>
  doneWith [] { s with place := { s.place with hold := true } }

/-- ERECTOR_ABORT (R136). -/
def erectorAbort : Handler := inStates atBuilding fun _ s =>
  match s.place.erector with
  | .working st => ⟨haltPlacement st s, .accepted, []⟩
  | .idle => refuse .wrongState s
  | .halted => refuse .wrongState s

/-- The interrupted step becomes none (R137). -/
def clearInterrupted (s : State) : State := { s with place := { s.place with interrupted := none } }

/-- CLEARING re-entered, after the check of R127 (R137). -/
def resumeClearing (r : Ring) (slot : Slot) (s : State) : Taken :=
  if retractionAllowed s (span r.key slot) then ⟨enterClearing r slot (clearInterrupted s), .accepted, []⟩
  else refuse .holdLimit s

/-- A HALTED placement with a slot ON_ERECTOR is resumed in its interrupted step (table of R137). -/
def resumeHeld (st : Step) (r : Ring) (slot : Slot) (s : State) : Taken :=
  match st with
  | .clearing => resumeClearing r slot s
  | .positioning =>
      if (span r.key slot).all (fun i => command s i == .retract) then
        ⟨enterPositioning r slot (clearInterrupted s), .accepted, []⟩
      else resumeClearing r slot s
  | .seating => ⟨enterSeating r slot (clearInterrupted s), .accepted, []⟩
  | .awaitSegment => refuse .wrongState s
  | .picking => refuse .wrongState s

/-- ERECTOR_RESUME (R137). -/
def erectorResume : Handler := inStates atBuilding fun _ s =>
  if s.place.erector ≠ .halted then refuse .wrongState s
  else match s.place.interrupted, buildingRing s with
    | some st, some r =>
        if st.beforeGrip then
          match r.nextSlot with
          | some slot => ⟨pickStep r slot (clearInterrupted s), .accepted, []⟩
          | none => refuse .wrongState s
        else match s.place.current with
          | some slot => resumeHeld st r slot s
          | none => refuse .wrongState s
    | _, _ => refuse .wrongState s

/-- A placement handed back: no current slot, no interrupted step, erector IDLE with command IDLE (R138). -/
def placeReturned (s : State) : State :=
  writeErector .idle { s with place := { s.place with erector := .idle, current := none, interrupted := none } }

/-- The segment of a slot goes back to the head of the queue (R123), the slot becomes OPEN and its span is extended
(R138). -/
def returnSegment (r : Ring) (slot : Slot) (id : Nat) (s : State) : State :=
  extendSpan r slot <| returnSlot slot
    { s with feed := { id := id, kind := slot.kind, type := r.type } :: s.feed }

/-- ERECTOR_RETURN (R138). -/
def erectorReturn : Handler := inStates atBuilding fun _ s =>
  if s.place.erector ≠ .halted then refuse .wrongState s
  else match s.place.current, buildingRing s with
    | some slot, some r =>
        match r.slots[slot] with
        | ⟨.onErector, some id⟩ =>
            if 8 ≤ s.feed.length then refuse .full s
            else doneWith [] (placeReturned (returnSegment r slot id s))
        | _ => doneWith [] (placeReturned s)
    | _, _ => doneWith [] (placeReturned s)

/-- PLACE_NEXT. -/
def execPlaceNext (r : Request) (s : State) : Result := .next (takeRequest 0x60 0 placeNext r s)

/-- PLACE_RUN. -/
def execPlaceRun (r : Request) (s : State) : Result := .next (takeRequest 0x61 0 placeRun r s)

/-- ERECTOR_HOLD. -/
def execErectorHold (r : Request) (s : State) : Result := .next (takeRequest 0x62 0 erectorHold r s)

/-- ERECTOR_ABORT. -/
def execErectorAbort (r : Request) (s : State) : Result := .next (takeRequest 0x63 0 erectorAbort r s)

/-- ERECTOR_RESUME. -/
def execErectorResume (r : Request) (s : State) : Result := .next (takeRequest 0x64 0 erectorResume r s)

/-- ERECTOR_RETURN. -/
def execErectorReturn (r : Request) (s : State) : Result := .next (takeRequest 0x65 0 erectorReturn r s)

/-- The step timer has reached zero (R134): the overrun counts on and ERECTOR_STEP_LATE is raised. -/
def stepExpired (s : State) : State :=
  raise .erectorStepLate { s with place := { s.place with timer := s.place.timer.atZero } }

/-- STEP_TIMER_EXPIRY: no effect on a timer that is stopped or has already expired (log 2). -/
def execStepTimerExpiry (s : State) : Result :=
  .next (if s.place.timer.counting then stepExpired s else s)

end Sys2Proof.Machine
end

