-- ==== Sys2Proof/Machine/Thrust.lean ====
section
/-! DEFINITION. The Thrust Controller (spec/06): extension, pressure and mass samples, the retract timer, and its
requests. -/

namespace Sys2Proof.Machine

/-! ### Extension samples (R88, R91, R96, R97, R43) -/

/-- Change one cylinder record. -/
def setCylinder (i : Fin 16) (f : Cylinder → Cylinder) (s : State) : State :=
  { s with cylinders := s.cylinders.set i (f s.cylinders[i]) }

/-- The owner of a cylinder is BUILD. -/
def Owner.isBuild : Owner → Bool
  | .build _ _ => true
  | .advance => false

/-- A cylinder enters or leaves RETRACTED between two states. -/
def retractedChanged (before after : State) (i : Fin 16) : Bool :=
  (derived before i == .retracted) != (derived after i == .retracted)

/-- The derived states are taken again (R88): a retract timer stops when its cylinder becomes RETRACTED (R91), and a
cylinder with owner BUILD that enters or leaves RETRACTED is reported to the Placement Controller (R88, R130). -/
def cylindersRetaken (before s : State) : State :=
  let stopped := fun i : Fin 16 =>
    if retractedChanged before s i && derived s i == .retracted then
      { s.cylinders[i] with timer := s.cylinders[i].timer.freeze }
    else s.cylinders[i]
  let t := { s with cylinders := Vector.ofFn stopped }
  if (List.finRange 16).any (fun i => retractedChanged before s i && s.cylinders[i].owner.isBuild) then
    clearingLook t
  else t

/-- An increment is accounted (R97, R100, R103, R116). -/
def accountIncrement (delta mean : Nat) (s : State) : State :=
  let numerator := s.stroke.remainder + s.params.faceArea.getD 0 * delta
  let t := { s with stroke := { s.stroke with
    high := mean
    advance := s.stroke.advance + delta
    litres := s.stroke.litres + numerator / 100000
    remainder := numerator % 100000 } }
  advanceRings delta (balanceTaken (overExcavation s) t)

/-- A jump is rejected (R97). -/
def rejectJump (mean : Nat) (s : State) : State :=
  raise .advanceJump { s with stroke := { s.stroke with high := mean, jumps := min (s.stroke.jumps + 1) 65535 } }

/-- A reference mean compared with the high-water mark while the account is OPEN (R97). -/
def measure (mean : Nat) (s : State) : State :=
  if s.stroke.state ≠ .opened ∨ mean ≤ s.stroke.high then s
  else if mean - s.stroke.high ≤ s.params.jumpLimit then accountIncrement (mean - s.stroke.high) mean s
  else rejectJump mean s

/-- A sample on an extension channel (R88, R96, R97, R43); `before` is the state before the channel record took it. -/
def extensionSample (i : Fin 16) (value : Nat) (before s : State) : State :=
  let t := cylindersRetaken before s
  if isReference t i then
    let t := if referencesFresh t then measure (referenceMean t) t else t
    if t.cycle = .boring ∧ t.params.strokeLimit ≤ value then endStrokeWith .strokeLimit t else t
  else t

/-! ### Pressure and mass samples (R95, R102) -/

/-- A sample on a group pressure channel (R95). -/
def groupPressureSample (value : Nat) (s : State) : State :=
  if overThrustThreshold s < value then trip .overThrust s else s

/-- A sample of channel 22 (R102). -/
def massSample (c : Nat) (s : State) : State :=
  let d := countDiff c s.mass.prev
  let t := { s with mass := ⟨c, false⟩ }
  if s.mass.rebase ∨ 32767 < d then raise .countRebased t
  else if s.stroke.state = .opened ∨ s.stroke.state = .closed then
    balanceTaken (overExcavation s) { t with stroke := { s.stroke with weighed := satAdd s.stroke.weighed d } }
  else t

/-! ### The retract timer (R91) -/

/-- The retract timer has reached zero: RETRACT_LATE is raised while the cylinder is RETRACTING; the timer goes on
counting below zero. -/
def retractExpired (i : Fin 16) (s : State) : State :=
  raiseIf (derived s i == .retracting) .retractLate (setCylinder i (fun c => { c with timer := c.timer.atZero }) s)

/-- RETRACT_TIMER_EXPIRY: no effect on a timer that is stopped or has already expired (log 2). -/
def execRetractTimerExpiry (i : Fin 16) (s : State) : Result :=
  .next (if s.cylinders[i].timer.counting then retractExpired i s else s)

/-! ### Requests -/

/-- SET_THRUST (R94). -/
def setThrust : Handler := ifConfigured fun args s =>
  let given := fun g : Fin 4 => field args (2 * g.val) 2
  doneOrClamped ((List.finRange 4).any fun g => decide (ceiling s < given g)) []
    (deriveSetpoints { s with quadrants := Vector.ofFn fun g => min (given g) (ceiling s) })

/-- The owner fields of READ_CYLINDER (R105). -/
def Owner.bytes : Owner → List Byte
  | .advance => beBytes 1 0 ++ beBytes 2 0 ++ beBytes 1 0xFF
  | .build ring slot => beBytes 1 1 ++ beBytes 2 ring ++ beBytes 1 slot.val

/-- The 23 result bytes of READ_CYLINDER (R105). -/
def cylinderBytes (s : State) (i : Fin 16) : List Byte :=
  let g := groupOf i
  let cyl := s.cylinders[i]
  beBytes 1 i.val ++ beBytes 1 g.val ++ beBytes 1 (command s i).code ++ beBytes 1 (derived s i).code ++
    cyl.owner.bytes ++ beBytes 2 (extension s i) ++
    beBytes 1 (flagBits [s.channels[extensionChannel i].fresh, cyl.timer.running, isReference s i]) ++
    beInt32 cyl.timer.value ++ beBytes 2 s.outputs[groupOutput g].value ++ beBytes 2 s.quadrants[g] ++
    beBytes 2 (ceiling s) ++ beBytes 2 s.channels[groupChannel g].value

/-- READ_CYLINDER (R105). -/
def readCylinder : Handler := fun args s =>
  match indexArg 16 (field args 0 1) with
  | none => refuse .badArgument s
  | some i => doneWith (cylinderBytes s i) s

/-- The balance ratio as READ_STROKE and READ_BALANCE report it (R17, R104). -/
def reportedRatio (s : State) : Nat :=
  match balanceRatio s with
  | some r => min r 65534
  | none => 0xFFFF

/-- The 37 result bytes of READ_STROKE (section 1.7, R17). -/
def strokeBytes (s : State) : List Byte :=
  let a := s.stroke
  beBytes 1 a.state.code ++ beBytes 2 a.number ++ beBytes 2 (optionalCode a.ringPushed) ++ beBytes 2 a.base ++
    beBytes 2 a.high ++ beBytes 4 a.advance ++ beBytes 4 a.litres ++ beBytes 3 a.remainder ++
    beBytes 4 a.weighed ++ beBytes 4 a.headCounts ++ beBytes 2 a.jumps ++
    beBytes 1 ((a.endCause.map EndCause.code).getD 0) ++ beBytes 2 (reportedRatio s) ++
    beBytes 4 (expectedMass s)

/-- READ_STROKE (R17, R104). -/
def readStroke : Handler := fun _ s => doneWith (strokeBytes s) s

/-- The 23 result bytes of READ_BALANCE (R104). -/
def balanceBytes (s : State) : List Byte :=
  let a := s.stroke
  beBytes 1 a.state.code ++ beBytes 4 a.advance ++ beBytes 4 a.litres ++ beBytes 3 a.remainder ++
    beBytes 4 a.weighed ++ beBytes 4 (expectedMass s) ++ beBytes 2 (reportedRatio s) ++
    beBytes 1 (flagBits [overExcavation s, underExcavation s])

/-- READ_BALANCE (R104). -/
def readBalance : Handler := fun _ s => doneWith (balanceBytes s) s

/-- SET_THRUST. -/
def execSetThrust (r : Request) (s : State) : Result := .next (takeRequest 0x40 8 setThrust r s)

/-- READ_CYLINDER. -/
def execReadCylinder (r : Request) (s : State) : Result := .next (takeRequest 0x41 1 readCylinder r s)

/-- READ_STROKE. -/
def execReadStroke (r : Request) (s : State) : Result := .next (takeRequest 0x42 0 readStroke r s)

/-- READ_BALANCE. -/
def execReadBalance (r : Request) (s : State) : Result := .next (takeRequest 0x43 0 readBalance r s)

end Sys2Proof.Machine
end

