-- ==== Sys2Proof/Machine/Tools.lean ====
section
/-! DEFINITION. The Tool Table's requests (spec/04) and the Duty Unit (spec/05). -/

namespace Sys2Proof.Machine

/-- The cycle states in which SET_LOAD_POINTER and TOOL_AMEND of limits are taken (section 4.3). -/
def notTripped (c : Cycle) : Bool := c != .tripped

/-- The cycle states in which TOOL_LOAD is taken (R62). -/
def loadStates (c : Cycle) : Bool := c == .unconfigured || c == .standstill || c == .intervention

/-- The cycle states in which a duty is amended (R67). -/
def dutyStates (c : Cycle) : Bool := c == .standstill || c == .intervention

/-- The cycle state of tool changes (section 4.5). -/
def atIntervention (c : Cycle) : Bool := c == .intervention

/-- SET_LOAD_POINTER (R61). -/
def setLoadPointer : Handler := inStates notTripped fun args s =>
  match indexArg 64 (field args 0 1) with
  | some i => doneWith [] { s with loadPointer := i }
  | none => refuse .badArgument s

/-! ### Loading -/

/-- The record TOOL_LOAD's arguments describe (R62, R63), none where an argument check fails. A FITTED record's
state is derived under R55. -/
def loadRecord (args : List Byte) : Option ToolFields :=
  let state := field args 0 1
  let serial := field args 5 3
  let fittedAt := field args 8 2
  let duty := field args 10 4
  let watch := field args 14 4
  let wear := field args 18 4
  if state = 0 then some {}
  else match Zone.ofCode (field args 1 1), ToolKind.ofCode (field args 2 1) with
    | some zone, some kind =>
        if 3400 < field args 3 2 ∨ wear < watch then none
        else if state = 1 then
          if serial = 0 ∧ fittedAt = 0 ∧ duty = 0 then
            some { state := .empty, zone := zone, kind := kind, radius := field args 3 2, watch := watch, wear := wear }
          else none
        else if state = 2 then
          if serial = 0 then none
          else some
            { state := wearState duty watch wear, zone := zone, kind := kind, radius := field args 3 2,
              serial := some serial, fittedAt := optionalArg fittedAt, duty := duty, watch := watch,
              wear := wear, lifetime := duty }
        else none
    | _, _ => none

/-- The duplicate search of R64 reads every record but one, in position order; failures found stand. -/
def readOthers (i : Fin 64) (s : State) : State :=
  (List.finRange 64).foldl (fun t j => if j = i then t else readTool j t) s

/-- Some record other than record i holds the serial (R64). -/
def serialHeld (i : Fin 64) (serial : Nat) (s : State) : Bool :=
  (List.finRange 64).any (fun j => j != i && s.tools[j].serial == some serial)

/-- The record is written at the load pointer and the pointer advances (R63). -/
def loadAtPointer (t : ToolFields) (s : State) : State :=
  { putTool s.loadPointer t s with loadPointer := s.loadPointer + 1 }

/-- TOOL_LOAD (R62 to R64). -/
def toolLoad : Handler := inStates loadStates fun args s =>
  match loadRecord args with
  | none => refuse .badArgument s
  | some t =>
      match t.serial with
      | none => doneWith [] (loadAtPointer t s)
      | some serial =>
          let s := readOthers s.loadPointer s
          if serialHeld s.loadPointer serial s then refuse .duplicate s
          else doneWith [] (loadAtPointer t s)

/-! ### Reading and amending -/

/-- The 33 result bytes of TOOL_READ (section 1.7). -/
def toolBytes (i : Fin 64) (t : ToolFields) : List Byte :=
  beBytes 1 i.val ++ beBytes 1 t.state.code ++ beBytes 1 t.zone.code ++ beBytes 1 t.kind.code ++
    beBytes 2 t.radius ++ beBytes 3 (optionalCode t.serial) ++ beBytes 2 (optionalCode t.fittedAt) ++
    beBytes 4 t.duty ++ beBytes 6 t.remainder ++ beBytes 4 t.watch ++ beBytes 4 t.wear ++ beBytes 4 t.lifetime

/-- A tool request that names a position, after its argument checks: the record is read, which verifies it, and
then judged (R60). -/
def onRecord (i : Fin 64) (judge : ToolFields → State → Taken) (s : State) : Taken :=
  let s := readTool i s
  judge s.tools[i].toToolFields s

/-- TOOL_READ (R65). -/
def toolRead : Handler := fun args s =>
  match indexArg 64 (field args 0 1) with
  | none => refuse .badArgument s
  | some i => onRecord i (fun t s => doneWith (toolBytes i t) s) s

/-- The state of a record after a change of duty or limits (R55): derived, unless the record is LOCKED_OUT or has
no tool. -/
def ToolFields.rederived (t : ToolFields) : ToolFields :=
  match t.state with
  | .fitted | .watch | .worn => { t with state := wearState t.duty t.watch t.wear }
  | _ => t

/-- Lifetime duty moved by the difference between the new duty and the old (R57, R67). -/
def movedLifetime (t : ToolFields) (duty : Nat) : Nat :=
  if t.duty ≤ duty then satAdd t.lifetime (duty - t.duty) else t.lifetime - (t.duty - duty)

/-- A record with the parts of TOOL_AMEND written: limits first, duty second, the state derived once (R66, R67). -/
def amended (t : ToolFields) (limits : Option (Nat × Nat)) (duty : Option Nat) : ToolFields :=
  let t := match limits with
    | some (watch, wear) => { t with watch := watch, wear := wear }
    | none => t
  let t := match duty with
    | some d => { t with duty := d, remainder := 0, lifetime := movedLifetime t d }
    | none => t
  t.rederived

/-- The records TOOL_AMEND acts on (R66, R67). -/
def amendable (t : ToolFields) (duty : Bool) : Bool :=
  t.state != .absent && t.state != .suspect && (!duty || t.present)

/-- TOOL_AMEND (R66, R67), for either row. -/
def toolAmend : Handler := fun args s =>
  let selector := field args 1 1
  let withDuty := (args.getD 1 0).getLsbD 1
  let watch := field args 2 4
  let wear := field args 6 4
  let withLimits := selector == 1 || selector == 3
  inStates (if withDuty then dutyStates else notTripped) (fun _ s =>
    match indexArg 64 (field args 0 1) with
    | none => refuse .badArgument s
    | some i =>
        if selector = 0 ∨ 3 < selector ∨ (withLimits ∧ wear < watch) then refuse .badArgument s
        else onRecord i (fun t s =>
          if amendable t withDuty then
            doneWith [] (putTool i
              (amended t (if withLimits then some (watch, wear) else none)
                (if withDuty then some (field args 10 4) else none)) s)
          else refuse .wrongState s) s) args s

/-! ### Changing a tool -/

/-- A request of one position byte in INTERVENTION (R68, R69, R71): the record is read, judged and written. -/
def changeTool (acts : ToolFields → Bool) (change : ToolFields → ToolFields) : Handler :=
  inStates atIntervention fun args s =>
    match indexArg 64 (field args 0 1) with
    | none => refuse .badArgument s
    | some i => onRecord i (fun t s =>
        if acts t then doneWith [] (putTool i (change t) s) else refuse .wrongState s) s

/-- TOOL_LOCK_OUT (R68). -/
def toolLockOut : Handler :=
  changeTool (fun t => t.state == .empty || t.state == .fitted || t.state == .watch || t.state == .worn)
    (fun t => { t with state := .lockedOut })

/-- TOOL_RETIRE (R69). -/
def toolRetire : Handler :=
  changeTool (fun t => t.state == .lockedOut && t.present)
    (fun t => { t with serial := none, fittedAt := none, duty := 0, remainder := 0 })

/-- TOOL_RELEASE (R71). -/
def toolRelease : Handler :=
  changeTool (fun t => t.state == .lockedOut)
    (fun t => { t with state := if t.present then wearState t.duty t.watch t.wear else .empty })

/-- TOOL_FIT (R70). -/
def toolFit : Handler := inStates atIntervention fun args s =>
  let serial := field args 1 3
  match indexArg 64 (field args 0 1) with
  | none => refuse .badArgument s
  | some i =>
      if serial = 0 then refuse .badArgument s
      else onRecord i (fun t s =>
        if t.state = .lockedOut ∧ ¬ t.present then
          let s := readOthers i s
          if serialHeld i serial s then refuse .duplicate s
          else doneWith [] (putTool i
            { t with serial := some serial, fittedAt := optionalArg (field args 4 2), duty := 0, remainder := 0 } s)
        else refuse .wrongState s) s

/-- SET_LOAD_POINTER. -/
def execSetLoadPointer (r : Request) (s : State) : Result := .next (takeRequest 0x30 1 setLoadPointer r s)

/-- TOOL_LOAD. -/
def execToolLoad (r : Request) (s : State) : Result := .next (takeRequest 0x31 22 toolLoad r s)

/-- TOOL_READ. -/
def execToolRead (r : Request) (s : State) : Result := .next (takeRequest 0x32 1 toolRead r s)

/-- TOOL_AMEND whose selector does not choose the duty. -/
def execToolAmendLimits (r : Request) (s : State) : Result := .next (takeRequest 0x33 14 toolAmend r s)

/-- TOOL_AMEND whose selector chooses the duty. -/
def execToolAmendDuty (r : Request) (s : State) : Result := .next (takeRequest 0x33 14 toolAmend r s)

/-- TOOL_LOCK_OUT. -/
def execToolLockOut (r : Request) (s : State) : Result := .next (takeRequest 0x34 1 toolLockOut r s)

/-- TOOL_RETIRE. -/
def execToolRetire (r : Request) (s : State) : Result := .next (takeRequest 0x35 1 toolRetire r s)

/-- TOOL_FIT. -/
def execToolFit (r : Request) (s : State) : Result := .next (takeRequest 0x36 6 toolFit r s)

/-- TOOL_RELEASE. -/
def execToolRelease (r : Request) (s : State) : Result := .next (takeRequest 0x37 1 toolRelease r s)

/-- STORAGE_FAULT (R72): the stored contents of one record no longer match its check code; its state and fields, as
any block has seen them, do not change. -/
def execStorageFault (i : Fin 64) (s : State) : Result :=
  .next { s with tools := s.tools.set i { s.tools[i] with damaged := true } }

/-! ### Duty accrual (spec/05) -/

/-- The divisor of R80. -/
def dutyDivisor : Nat := 4194304000000

/-- The numerator of R80. -/
def dutyNumerator (t : ToolFields) (n groundFactor : Nat) : Nat := t.remainder + t.radius * n * 6434 * groundFactor

/-- A record that takes the duty of `n` counts (R80, R81), its state derived again (R83). -/
def accrued (t : ToolFields) (n groundFactor : Nat) : ToolFields :=
  let q := dutyNumerator t n groundFactor / dutyDivisor
  let whole := t.duty + q
  ToolFields.rederived
    { t with
      duty := min whole max32
      remainder := if whole < max32 then dutyNumerator t n groundFactor % dutyDivisor else 0
      lifetime := satAdd t.lifetime q }

/-- One record's part of an accrual (R80): a SUSPECT record is not read; any other is read, and if it passes and has
a tool present it takes duty. -/
def accrueRecord (n : Nat) (s : State) (i : Fin 64) : State :=
  if s.tools[i].state = .suspect then s
  else if s.tools[i].damaged then failRecord i s
  else if s.tools[i].present then putTool i (accrued s.tools[i].toToolFields n s.params.groundFactor) s
  else s

/-- The accrual over the table in position order (R80). -/
def accrueAll (n : Nat) (s : State) : State := (List.finRange 64).foldl (accrueRecord n) s

/-- The amount of rotation of a sample (R76): the absolute value of the signed difference. -/
def rotationAmount (c p : Nat) : Nat :=
  if 32768 ≤ countDiff c p then 65536 - countDiff c p else countDiff c p

/-- The breach judgment (R79). -/
def judgeBreach (n : Nat) (s : State) : State :=
  if ¬ permitOn s ∧ 16 < n then trip .rotationBreach (raise .rotationBreach s) else s

/-- The rotation handed to the Thrust Controller (R86, R101). -/
def addHeadCounts (n : Nat) (s : State) : State :=
  if s.stroke.state = .opened then
    { s with stroke := { s.stroke with headCounts := satAdd s.stroke.headCounts n } }
  else s

/-- A sample of channel 20 (R75 to R86). -/
def angleSample (c : Nat) (s : State) : State :=
  let n := rotationAmount c s.angle.prev
  if s.angle.rebase ∨ 8192 < n then raise .countRebased { s with angle := ⟨c, false⟩ }
  else
    let t := { s with angle := ⟨c, false⟩ }
    if n = 0 then t else addHeadCounts n (accrueAll n (judgeBreach n t))

end Sys2Proof.Machine
end

