-- ==== Sys2Proof/Machine/FieldPort.lean ====
section
/-! DEFINITION. The Field Port (spec/02, sections 2.1 to 2.3): sample arrivals and their delivery, staleness,
READ_CHANNEL, and the setpoint messages. -/

namespace Sys2Proof.Machine

/-! ### Sample arrivals (R18, R19, R22) -/

/-- The overrun of an expired timer that runs at or below zero becomes the last lapse (R19, step 3). -/
def Channel.lapse (ch : Channel) : Nat :=
  if ch.timer.running && decide (ch.timer.value ≤ 0) then (-ch.timer.value).toNat else ch.lastLapse

/-- A channel record after an arrival of value `v` (R19, steps 1 to 5). -/
def Channel.taken (ch : Channel) (upper staleTime v : Nat) : Channel where
  value := min v upper
  fresh := true
  timer := Timer.load staleTime
  lastLapse := ch.lapse
  clamped := decide (upper < v)

/-- Channel c's record takes a value (R19). -/
def takeSample (c : Fin 30) (v : Nat) (s : State) : State :=
  { s with channels := s.channels.set c (s.channels[c].taken (upperEnd c) s.params.staleTime v) }

/-- The sample is delivered to the channel's owner (R22, channel table): `first` is the mark of the first after
STALE, `before` the state before the record took the sample. -/
def deliver (c : Fin 30) (value : Nat) (first : Bool) (before s : State) : State :=
  if h : c.val < 16 then extensionSample ⟨c.val, h⟩ value before s
  else if c.val < 20 then groupPressureSample value s
  else if c.val = 20 then angleSample value s
  else if c.val = 21 then chamberSample value s
  else if c.val = 22 then massSample value s
  else if c.val = 23 then pulseSample value first s
  else portPressureSample ⟨c.val - 24, by omega⟩ value s

/-- A sample arrival: the record is updated, then the sample delivered with its clamped value (R19). -/
def arrive (c : Fin 30) (v : Nat) (s : State) : State :=
  deliver c (min v (upperEnd c)) (!s.channels[c].fresh) s (takeSample c v s)

/-- SAMPLE_ARRIVAL. -/
def execSampleArrival (c : Fin 30) (value : Word16) (s : State) : Result := .next (arrive c value.toNat s)

/-- A sample message as received (R18): discarded unless its check byte and its channel number are right. -/
def receiveMessage (channel : Byte) (value : Word16) (check : Byte) (s : State) : State :=
  if check = sampleCheck channel value then
    match indexArg 30 channel.toNat with
    | some c => arrive c value.toNat s
    | none => s
  else s

/-- SAMPLE_MESSAGE_DISCARDED: a message that passes both checks is no such row and is taken as an arrival (log 8). -/
def execSampleMessageDiscarded (channel : Byte) (value : Word16) (check : Byte) (s : State) : Result :=
  .next (receiveMessage channel value check s)

/-! ### Staleness (R21) -/

/-- The owner is told that its channel has gone STALE (R22, R75, R102, R150, R151, R166). -/
def tellStale (c : Fin 30) (s : State) : State :=
  if c.val = 20 then { s with angle := { s.angle with rebase := true } }
  else if c.val = 21 then { s with screw := { s.screw with chamberHeld := true } }
  else if c.val = 22 then { s with mass := { s.mass with rebase := true } }
  else if c.val = 23 then
    let t := { s with pulse := { s.pulse with rebase := true } }
    groutSettle (match servingPort t with
      | some p => endShot p .idle t
      | none => t)
  else s

/-- The stale timer of channel c has reached zero (R21). -/
def staleExpired (c : Fin 30) (s : State) : State :=
  tellStale c { s with
    channels := s.channels.set c { s.channels[c] with fresh := false, timer := s.channels[c].timer.atZero } }

/-- STALE_TIMER_EXPIRY: no effect on a timer that is stopped or has already expired (log 2). -/
def execStaleTimerExpiry (c : Fin 30) (s : State) : Result :=
  .next (if s.channels[c].timer.counting then staleExpired c s else s)

/-! ### READ_CHANNEL (R24) -/

/-- The twelve result bytes of READ_CHANNEL (R24). -/
def channelBytes (s : State) (c : Fin 30) : List Byte :=
  let ch := s.channels[c]
  beBytes 1 c.val ++ beBytes 1 (flagBits [ch.fresh, inUse s c, ch.clamped, ch.timer.running]) ++
    beBytes 2 ch.value ++ beInt32 (if ch.timer.running then ch.timer.value else 0) ++ beBytes 4 ch.lastLapse

/-- READ_CHANNEL (R24). -/
def readChannel : Handler := fun args s =>
  match indexArg 30 (field args 0 1) with
  | none => refuse .badArgument s
  | some c => doneWith (channelBytes s c) s

/-- READ_CHANNEL. -/
def execReadChannel (r : Request) (s : State) : Result := .next (takeRequest 0x1A 1 readChannel r s)

/-! ### Setpoint messages (R27) -/

/-- SETPOINT_MESSAGE: a free transmitter with a marked output begins a message; otherwise nothing begins. -/
def execSetpointMessage (s : State) : Result := .next (beginMessage s)

/-- The message in flight has left: the transmitter is free (R27). -/
def endMessage (s : State) : State := { s with sending := none }

/-- SETPOINT_MESSAGE_END. -/
def execSetpointMessageEnd (s : State) : Result := .next (endMessage s)

end Sys2Proof.Machine
end

