-- ==== Sys2Proof/Machine/Parameters.lean ====
section
/-! DEFINITION. SET_PARAM and GET_PARAM (spec/11). -/

namespace Sys2Proof.Machine

/-- The geometry parameters (section 11.1). -/
inductive Geometry where
  | faceArea | voidArea | ringWidth | tailLength | refCylinders | strokeLimit | minHold
  deriving DecidableEq, Repr

/-- The tuning parameters (section 11.1). -/
inductive Tuning where
  | jumpLimit | retractedAt | retractTime | erectorStepTime | blockTime | staleTime
  | pMax | pDerate | holdPressure | groundFactor | density
  | balanceStart | balanceHigh | balanceLow | faceTarget
  | screwMin | screwMax | screwBalanceCeiling | screwStart | screwGain | screwStep
  | groutFactor | pulseWeight | shotVolume | groutRate | pumpMax
  deriving DecidableEq, Repr

/-- What an identifier names. -/
inductive ParamId where
  | geometry (g : Geometry)
  | tuning (t : Tuning)
  | checkCapture
  deriving DecidableEq, Repr

/-- The identifiers of the table of section 11.1. -/
def ParamId.ofCode : Nat → Option ParamId
  | 0x01 => some (.geometry .faceArea) | 0x02 => some (.geometry .voidArea)
  | 0x03 => some (.geometry .ringWidth) | 0x04 => some (.geometry .tailLength)
  | 0x05 => some (.geometry .refCylinders) | 0x06 => some (.geometry .strokeLimit)
  | 0x07 => some (.geometry .minHold)
  | 0x10 => some (.tuning .jumpLimit) | 0x11 => some (.tuning .retractedAt)
  | 0x12 => some (.tuning .retractTime) | 0x13 => some (.tuning .erectorStepTime)
  | 0x14 => some (.tuning .blockTime) | 0x15 => some (.tuning .staleTime)
  | 0x16 => some (.tuning .pMax) | 0x17 => some (.tuning .pDerate)
  | 0x18 => some (.tuning .holdPressure) | 0x19 => some (.tuning .groundFactor)
  | 0x1A => some (.tuning .density) | 0x1B => some (.tuning .balanceStart)
  | 0x1C => some (.tuning .balanceHigh) | 0x1D => some (.tuning .balanceLow)
  | 0x1E => some (.tuning .faceTarget)
  | 0x20 => some (.tuning .screwMin) | 0x21 => some (.tuning .screwMax)
  | 0x22 => some (.tuning .screwBalanceCeiling) | 0x23 => some (.tuning .screwStart)
  | 0x24 => some (.tuning .screwGain) | 0x25 => some (.tuning .screwStep)
  | 0x28 => some (.tuning .groutFactor) | 0x29 => some (.tuning .pulseWeight)
  | 0x2A => some (.tuning .shotVolume) | 0x2B => some (.tuning .groutRate)
  | 0x2C => some (.tuning .pumpMax)
  | 0x40 => some .checkCapture
  | _ => none

/-! ### Geometry parameters (R172) -/

/-- The cylinder states in which a geometry parameter is taken (R172), with the refusal R118 adds. -/
def geometryOpen (g : Geometry) (s : State) : Bool :=
  (s.cycle == .unconfigured || s.cycle == .standstill) &&
    (s.stroke.state == .none || s.stroke.state == .spent) &&
    !((g == .ringWidth || g == .tailLength) && s.rings.any (fun r => r.state.isClosed))

/-- The value bytes of REF_CYLINDERS (section 11.1): one cylinder of each group, group 0 first; none where a byte
names a cylinder outside its group. -/
def refArg (bytes : List Byte) : Option (Vector (Fin 16) 4) :=
  if (List.range 4).all (fun g => (bytes.getD g 0).toNat / 4 == g) then
    some (Vector.ofFn fun g => Fin.ofNat 16 (bytes.getD g.val 0).toNat)
  else none

/-- A value in its range stored, none where the value lies outside it (section 11.1, R172). -/
def storeGeometry (g : Geometry) (bytes : List Byte) (p : Params) : Option Params :=
  let v := beNat bytes
  match g with
  | .faceArea =>
      if 50000 ≤ v ∧ v ≤ 600000 ∧ ¬ (p.voidArea.any fun x => decide (v ≤ x)) then
        some { p with faceArea := some v }
      else none
  | .voidArea =>
      if 1000 ≤ v ∧ v ≤ 100000 ∧ ¬ (p.faceArea.any fun x => decide (x ≤ v)) then
        some { p with voidArea := some v }
      else none
  | .ringWidth => if 8000 ≤ v ∧ v ≤ 20000 then some { p with ringWidth := some v } else none
  | .tailLength => if v ≤ 60000 then some { p with tailLength := some v } else none
  | .refCylinders => (refArg bytes).map fun refs => { p with refCylinders := refs }
  | .strokeLimit => if 10000 ≤ v ∧ v ≤ 24000 then some { p with strokeLimit := v } else none
  | .minHold => if 6 ≤ v ∧ v ≤ 13 then some { p with minHold := v } else none

/-- The four mandatory parameters (section 3.2). -/
def Geometry.mandatory : Geometry → Bool
  | .faceArea => true | .voidArea => true | .ringWidth => true | .tailLength => true
  | .refCylinders => false | .strokeLimit => false | .minHold => false

/-- The bytes of REF_CYLINDERS as a value (section 11.1). -/
def refValue (refs : Vector (Fin 16) 4) : Nat := refs.toList.foldl (fun acc i => acc * 256 + i.val) 0

/-- The value a geometry parameter reads as, none while a mandatory one is not set (R171, R174). -/
def getGeometry (p : Params) : Geometry → Option Nat
  | .faceArea => p.faceArea
  | .voidArea => p.voidArea
  | .ringWidth => p.ringWidth
  | .tailLength => p.tailLength
  | .refCylinders => some (refValue p.refCylinders)
  | .strokeLimit => some p.strokeLimit
  | .minHold => some p.minHold

/-- The result bytes of SET_PARAM (R171). -/
def paramBytes (id v : Nat) : List Byte := beBytes 1 id ++ beBytes 4 v

/-- SET_PARAM of a geometry parameter (R172). -/
def setGeometry (id : Nat) (g : Geometry) (bytes : List Byte) (s : State) : Taken :=
  if !geometryOpen g s then refuse .wrongState s
  else match storeGeometry g bytes s.params with
    | none => refuse .badArgument s
    | some p =>
        let t := { s with params := p }
        doneWith (paramBytes id (beNat bytes)) (if g.mandatory then evalConfigured t else t)

/-! ### Tuning parameters (R173) -/

/-- The range of a tuning parameter (section 11.1, R163, R173). -/
def tuningRange (p : Params) : Tuning → Nat × Nat
  | .jumpLimit => (10, 2000)
  | .retractedAt => (0, 2000)
  | .retractTime => (1000, 300000)
  | .erectorStepTime => (1000, 300000)
  | .blockTime => (1000, 300000)
  | .staleTime => (20, 5000)
  | .pMax => (1000, 45000)
  | .pDerate => (0, p.pMax)
  | .holdPressure => (0, p.pMax)
  | .groundFactor => (100, 4000)
  | .density => (1000, 3000)
  | .balanceStart => (0, 15000)
  | .balanceHigh => (500, 2000)
  | .balanceLow => (500, 2000)
  | .faceTarget => (0, 1000)
  | .screwMin => (0, min 250 (min p.screwBalanceCeiling p.screwMax))
  | .screwMax => (p.screwMin, 250)
  | .screwBalanceCeiling => (p.screwMin, 250)
  | .screwStart => (0, 250)
  | .screwGain => (0, 10000)
  | .screwStep => (1, 50)
  | .groutFactor => (100, 250)
  | .pulseWeight => (10, 1000)
  | .shotVolume => (500, 50000)
  | .groutRate => (0, p.pumpMax)
  | .pumpMax => (0, 4000)

/-- The stored value of a tuning parameter. -/
def getTuning (p : Params) : Tuning → Nat
  | .jumpLimit => p.jumpLimit | .retractedAt => p.retractedAt | .retractTime => p.retractTime
  | .erectorStepTime => p.erectorStepTime | .blockTime => p.blockTime | .staleTime => p.staleTime
  | .pMax => p.pMax | .pDerate => p.pDerate | .holdPressure => p.holdPressure
  | .groundFactor => p.groundFactor | .density => p.density
  | .balanceStart => p.balanceStart | .balanceHigh => p.balanceHigh | .balanceLow => p.balanceLow
  | .faceTarget => p.faceTarget
  | .screwMin => p.screwMin | .screwMax => p.screwMax | .screwBalanceCeiling => p.screwBalanceCeiling
  | .screwStart => p.screwStart | .screwGain => p.screwGain | .screwStep => p.screwStep
  | .groutFactor => p.groutFactor | .pulseWeight => p.pulseWeight | .shotVolume => p.shotVolume
  | .groutRate => p.groutRate | .pumpMax => p.pumpMax

/-- A tuning value stored. -/
def storeTuning (p : Params) (k : Tuning) (v : Nat) : Params :=
  match k with
  | .jumpLimit => { p with jumpLimit := v }
  | .retractedAt => { p with retractedAt := v }
  | .retractTime => { p with retractTime := v }
  | .erectorStepTime => { p with erectorStepTime := v }
  | .blockTime => { p with blockTime := v }
  | .staleTime => { p with staleTime := v }
  | .pMax => { p with pMax := v }
  | .pDerate => { p with pDerate := v }
  | .holdPressure => { p with holdPressure := v }
  | .groundFactor => { p with groundFactor := v }
  | .density => { p with density := v }
  | .balanceStart => { p with balanceStart := v }
  | .balanceHigh => { p with balanceHigh := v }
  | .balanceLow => { p with balanceLow := v }
  | .faceTarget => { p with faceTarget := v }
  | .screwMin => { p with screwMin := v }
  | .screwMax => { p with screwMax := v }
  | .screwBalanceCeiling => { p with screwBalanceCeiling := v }
  | .screwStart => { p with screwStart := v }
  | .screwGain => { p with screwGain := v }
  | .screwStep => { p with screwStep := v }
  | .groutFactor => { p with groutFactor := v }
  | .pulseWeight => { p with pulseWeight := v }
  | .shotVolume => { p with shotVolume := v }
  | .groutRate => { p with groutRate := v }
  | .pumpMax => { p with pumpMax := v }

/-- What a tuning parameter's block does at once on its change (R173): `before` is the state before it was stored. -/
def actOnTuning (k : Tuning) (before s : State) : State :=
  match k with
  | .pMax | .pDerate | .holdPressure => deriveSetpoints s
  | .retractedAt => cylindersRetaken before s
  | .density | .balanceStart | .balanceHigh | .balanceLow => balanceTaken (overExcavation before) s
  | .screwMin | .screwMax | .screwBalanceCeiling => screwRange s
  | .shotVolume => groutSettle (shotVolumeEnd s)
  | .groutRate | .pumpMax => groutSettle s
  | .jumpLimit | .retractTime | .erectorStepTime | .blockTime | .staleTime | .groundFactor | .faceTarget
  | .screwStart | .screwGain | .screwStep | .groutFactor | .pulseWeight => s

/-- SET_PARAM of a tuning parameter (R173): taken in every cycle state, clamped to its range. DESIGN CHOICE (log 25):
the value already held is clamped like any other, so a P_DERATE or HOLD_PRESSURE left above a lowered P_MAX, or a
GROUT_RATE above a lowered PUMP_MAX, is answered DONE_CLAMPED when it is written again. -/
def setTuning (id : Nat) (k : Tuning) (v : Nat) (s : State) : Taken :=
  let stored := clampTo (tuningRange s.params k).1 (tuningRange s.params k).2 v
  doneOrClamped (stored != v) (paramBytes id stored)
    (actOnTuning k s { s with params := storeTuning s.params k stored })

/-! ### The requests -/

/-- SET_PARAM of CHECK_CAPTURE (R175). -/
def emptyCheckCapture (id v : Nat) (s : State) : Taken :=
  if v = 0 then doneWith (paramBytes id 0) { s with checkCaptured := none, checkFailures := 0 }
  else refuse .badArgument s

/-- SET_PARAM (R171), for its three rows. -/
def setParam : Handler := fun args s =>
  let id := field args 0 1
  match ParamId.ofCode id with
  | none => refuse .badArgument s
  | some (.geometry g) => setGeometry id g (args.drop 1) s
  | some (.tuning k) => setTuning id k (field args 1 4) s
  | some .checkCapture => emptyCheckCapture id (field args 1 4) s

/-- The value bytes of GET_PARAM of CHECK_CAPTURE (R175). -/
def captureBytes (s : State) : List Byte :=
  beBytes 1 s.checkCaptured.isSome.toNat ++ beBytes 1 ((s.checkCaptured.map Fin.val).getD 0) ++
    beBytes 1 s.checkFailures ++ beBytes 1 0

/-- The flags byte and value bytes of GET_PARAM (R171, R174, R175). -/
def paramValueBytes (id : ParamId) (s : State) : List Byte :=
  match id with
  | .geometry g =>
      beBytes 1 (flagBits [(getGeometry s.params g).isSome]) ++ beBytes 4 ((getGeometry s.params g).getD 0)
  | .tuning k => beBytes 1 1 ++ beBytes 4 (getTuning s.params k)
  | .checkCapture => beBytes 1 1 ++ captureBytes s

/-- GET_PARAM (R171). -/
def getParam : Handler := fun args s =>
  let id := field args 0 1
  match ParamId.ofCode id with
  | none => refuse .badArgument s
  | some p => doneWith (beBytes 1 id ++ paramValueBytes p s) s

/-- SET_PARAM of a geometry parameter. -/
def execSetParamGeometry (r : Request) (s : State) : Result := .next (takeRequest 0x10 5 setParam r s)

/-- SET_PARAM of a tuning parameter. -/
def execSetParamTuning (r : Request) (s : State) : Result := .next (takeRequest 0x10 5 setParam r s)

/-- SET_PARAM of CHECK_CAPTURE. -/
def execCheckCaptureEmpty (r : Request) (s : State) : Result := .next (takeRequest 0x10 5 setParam r s)

/-- GET_PARAM. -/
def execGetParam (r : Request) (s : State) : Result := .next (takeRequest 0x11 1 getParam r s)

end Sys2Proof.Machine
end

