-- ==== Sys2Proof/Machine/CycleControl.lean ====
section
/-! DEFINITION. The Cycle Controller's requests (spec/03): READ_STATUS, strokes, builds, interventions, CLEAR_TRIP. -/

namespace Sys2Proof.Machine

/-- The 15 result bytes of READ_STATUS (section 1.7, R36). -/
def statusBytes (s : State) : List Byte :=
  beBytes 1 s.cycle.code ++ beBytes 1 ((s.tripCause.map TripCause.code).getD 0) ++
    beBytes 1 (flagBits [s.configured, s.furtherCauses, s.place.mode == .run, s.place.hold]) ++
    beBytes 1 s.stroke.state.code ++ beBytes 2 s.stroke.number ++ beBytes 1 s.place.erector.code ++
    beBytes 2 (((buildingRing s).map Ring.number).getD 0) ++ beBytes 1 (slotCode s.place.current) ++
    beBytes 1 ((s.place.interrupted.map Step.code).getD 0) ++ beInt32 s.place.timer.value

/-- READ_STATUS (R36). -/
def readStatus : Handler := fun _ s => doneWith (statusBytes s) s

/-! ### Strokes (R40 to R42) -/

/-- The register holds a record and none of its records is CLOSED, GROUTING or GROUTED (R40). -/
def onlyPlannedRings (s : State) : Bool := !s.rings.isEmpty && s.rings.all (fun r => !r.state.isClosed)

/-- A new account (R41, NONE or SPENT). -/
def newAccount (s : State) : Stroke where
  state := .opened
  number := nextNumber s.stroke.number
  ringPushed := (newestClosed s).map Ring.number
  base := referenceMean s
  high := referenceMean s

/-- The account as BEGIN_STROKE leaves it (R41). -/
def openedAccount (s : State) : Stroke :=
  match s.stroke.state with
  | .none => newAccount s
  | .spent => newAccount s
  | .closed => { s.stroke with state := .opened, endCause := none }
  | .opened => s.stroke

/-- BEGIN_STROKE taken (R41). -/
def strokeBegun (s : State) : State :=
  changeCycle .boring <| extendAll <| balanceTaken (overExcavation s) { s with stroke := openedAccount s }

/-- BEGIN_STROKE (R40, R41). -/
def beginStroke : Handler := inStates (· == .standstill) fun _ s =>
  if 0 < s.blocking ∨ doorOpen s then refuse .interlock s
  else if onlyPlannedRings s then refuse .sequence s
  else if referenceAtLimit s then refuse .noRoom s
  else doneWith [] (strokeBegun s)

/-- END_STROKE (R42). -/
def endStroke : Handler := fun _ s =>
  if s.cycle = .boring ∨ (s.cycle = .standstill ∧ s.stroke.state = .opened) then
    doneWith [] (endStrokeWith .host s)
  else refuse .wrongState s

/-! ### Ring builds (R44) -/

/-- The account allows a build (R44, cause 1). -/
def roomForRing (s : State) : Bool :=
  match s.stroke.state with
  | .none => true
  | .closed => decide (s.params.ringWidth.getD 0 ≤ s.stroke.advance) || referenceAtLimit s
  | .opened => false
  | .spent => false

/-- The oldest PLANNED record (R44). -/
def oldestPlanned (s : State) : Option Ring := s.rings.find? (fun r => r.state == .planned)

/-- The rings with the oldest PLANNED record BUILDING. -/
def buildFirstPlanned : List Ring → List Ring
  | [] => []
  | r :: rest => if r.state = .planned then { r with state := .building } :: rest else r :: buildFirstPlanned rest

/-- BEGIN_BUILD taken (R44, R125): a CLOSED account is spent, the ring becomes BUILDING, cylinders commanded LOCK are
commanded EXTEND, and the erector stands IDLE. -/
def buildBegun (s : State) : State :=
  let account := if s.stroke.state = .closed then { s.stroke with state := .spent } else s.stroke
  let t := balanceTaken (overExcavation s) { s with stroke := account, rings := buildFirstPlanned s.rings }
  let t := commandWhere (fun i => command s i == .lock) .extend (some .advance) t
  writeOutput 21 ErectorCommand.idle.code <| changeCycle .building
    { t with place := { t.place with erector := .idle, current := none, interrupted := none } }

/-- BEGIN_BUILD (R44). -/
def beginBuild : Handler := inStates (· == .standstill) fun _ s =>
  if !roomForRing s then refuse .noRoom s
  else match oldestPlanned s with
    | none => refuse .notFound s
    | some r =>
        if (newestClosed s).any (fun c => nextNumber c.number != r.number) then refuse .sequence s
        else doneWith [] (buildBegun s)

/-! ### Interventions (R46, R47) -/

/-- ENTER_INTERVENTION (R46). -/
def enterIntervention : Handler := inStates (· == .standstill) fun _ s =>
  if headTurning s then refuse .interlock s
  else doneWith [] (lockAll (changeCycle .intervention s))

/-- STANDSTILL, or UNCONFIGURED while the configured flag is no (R47, R51). -/
def restState (s : State) : Cycle := if s.configured then .standstill else .unconfigured

/-- LEAVE_INTERVENTION (R47). -/
def leaveIntervention : Handler := inStates (· == .intervention) fun _ s =>
  if s.tools.toList.any (fun t => t.state == .lockedOut) then refuse .interlock s
  else doneWith [] (changeCycle (restState s) s)

/-! ### Trips (R51) -/

/-- The cycle after a trip is cleared (R51): BUILDING while a ring is BUILDING. -/
def workState (s : State) : Cycle := if (buildingRing s).isSome then .building else restState s

/-- CLEAR_TRIP taken (R51). -/
def tripCleared (s : State) : State :=
  let t := if s.stroke.state = .opened then endStrokeWith .trip s else s
  changeCycle (workState s) { t with tripCause := none, furtherCauses := false }

/-- CLEAR_TRIP (R51). -/
def clearTrip : Handler := inStates (· == .tripped) fun _ s =>
  if stopAsserted s then refuse .interlock s else doneWith [] (tripCleared s)

/-- READ_STATUS. -/
def execReadStatus (r : Request) (s : State) : Result := .next (takeRequest 0x01 0 readStatus r s)

/-- BEGIN_STROKE. -/
def execBeginStroke (r : Request) (s : State) : Result := .next (takeRequest 0x20 0 beginStroke r s)

/-- END_STROKE. -/
def execEndStroke (r : Request) (s : State) : Result := .next (takeRequest 0x21 0 endStroke r s)

/-- BEGIN_BUILD. -/
def execBeginBuild (r : Request) (s : State) : Result := .next (takeRequest 0x22 0 beginBuild r s)

/-- ENTER_INTERVENTION. -/
def execEnterIntervention (r : Request) (s : State) : Result := .next (takeRequest 0x23 0 enterIntervention r s)

/-- LEAVE_INTERVENTION. -/
def execLeaveIntervention (r : Request) (s : State) : Result := .next (takeRequest 0x24 0 leaveIntervention r s)

/-- CLEAR_TRIP. -/
def execClearTrip (r : Request) (s : State) : Result := .next (takeRequest 0x25 0 clearTrip r s)

end Sys2Proof.Machine
end

