-- ==== Sys2Proof/Machine/Inputs.lean ====
section
/-! DEFINITION. The Input Sense Unit (spec/02, sections 2.4 and 2.5): line changes, SET_SENSE and READ_INPUTS. -/

namespace Sys2Proof.Machine

/-! ### Sense events (R28 to R31) -/

/-- The group of an input (section 2.4). -/
def groupIndex (i : Fin 12) : Fin 3 := ⟨i.val / 4, by omega⟩

/-- A sense event goes to the group mechanism, judged by the mask as it stands (R31). -/
def groupEvent (i : Fin 12) (s : State) : State :=
  if s.inputs[i].mask then
    raise .inputGroupChange { s with groupFlags := s.groupFlags.set (groupIndex i) true }
  else s

/-- A line change raises the sense event of the input's mode (table of R28). -/
def Input.lineEvent (before after : Input) : Bool :=
  match after.mode with
  | .low => after.asserted && !before.asserted
  | .rising => before.level == .low && after.level == .high
  | .falling => before.level == .high && after.level == .low
  | .any => before.level != after.level

/-- A SET_SENSE raises a sense event in the mode LOW alone, when the input becomes asserted (R29). -/
def Input.senseEvent (before after : Input) : Bool :=
  after.mode == .low && after.asserted && !before.asserted

/-- What the block that uses an input does (R30): `event` says whether a sense event was raised, `before` is the
state before the input record changed. -/
def useInput (i : Fin 12) (event : Bool) (before s : State) : State :=
  if i = 0 then
    if stopAsserted s && !stopAsserted before then trip .stop s else s
  else if i = 2 then
    if doorOpen s = doorOpen before then s else evalPermit s
  else if i = 3 then if event then segGripped s else s
  else if i = 4 then if event then atSlot s else s
  else if i = 5 then if event then segBolted s else s
  else if i = 6 then
    if gateOpen s = gateOpen before then s else screwFollow (screwRunning before) s
  else s

/-- An input record takes a new content; the event goes to the group mechanism and to the using block. -/
def takeInput (i : Fin 12) (input : Input) (event : Bool) (s : State) : State :=
  let t := { s with inputs := s.inputs.set i input }
  useInput i event s (if event then groupEvent i t else t)

/-- A new level of a line is taken (R28). -/
def lineChange (i : Fin 12) (level : Level) (s : State) : State :=
  let input := { s.inputs[i] with level := level }
  takeInput i input (Input.lineEvent s.inputs[i] input) s

/-- LINE_CHANGE: the level already held is no change (R28, log 12). -/
def execLineChange (i : Fin 12) (level : Level) (s : State) : Result :=
  .next (if s.inputs[i].level = level then s else lineChange i level s)

/-! ### Requests -/

/-- SET_SENSE (R32). -/
def setSense : Handler := inStates (· != .tripped) fun args s =>
  match indexArg 12 (field args 0 1), SenseMode.ofCode (field args 1 1), indexArg 2 (field args 2 1) with
  | some i, some mode, some mask =>
      let input := { s.inputs[i] with mode := mode, mask := mask == 1 }
      doneWith [] (takeInput i input (Input.senseEvent s.inputs[i] input) s)
  | _, _, _ => refuse .badArgument s

/-- One bit per input, bit i for DI i (R33). -/
def inputBits (f : Input → Bool) (s : State) : Nat := flagBits (s.inputs.toList.map f)

/-- The sense modes, two bits per input, DI0 in the least significant bits (R33). -/
def modeBits (s : State) : Nat := s.inputs.toList.foldr (fun input acc => input.mode.code + 4 * acc) 0

/-- The ten result bytes of READ_INPUTS (R33). -/
def inputBytes (s : State) : List Byte :=
  beBytes 2 (inputBits (fun input => input.level == .high) s) ++ beBytes 2 (inputBits Input.asserted s) ++
    beBytes 1 (flagBits s.groupFlags.toList) ++ beBytes 3 (modeBits s) ++
    beBytes 2 (inputBits (fun input => input.mask) s)

/-- The change flags cleared (R33, R34). -/
def clearGroupFlags (s : State) : State := { s with groupFlags := Vector.replicate 3 false }

/-- READ_INPUTS (R33). -/
def readInputs : Handler := fun _ s => doneWith (inputBytes s) (clearGroupFlags s)

/-- SET_SENSE. -/
def execSetSense (r : Request) (s : State) : Result := .next (takeRequest 0x18 3 setSense r s)

/-- READ_INPUTS. -/
def execReadInputs (r : Request) (s : State) : Result := .next (takeRequest 0x19 0 readInputs r s)

end Sys2Proof.Machine
end

