-- ==== Sys2Proof/Machine/Resets.lean ====
section
/-! DEFINITION. The two resets: CONTROLLER_RESET (R52, R53) and POWER_ON_RESET (R35), with the STOP trip after either
(R48). -/

namespace Sys2Proof.Machine

/-- STOP standing asserted when a reset is complete is a trip cause (R48, R53). -/
def tripIfStop (s : State) : State := if stopAsserted s then trip .stop s else s

/-! ### What a controller reset does in each block -/

/-- The event notices leave the pending set and the error capture is emptied (R11, R15). -/
def clearReports (s : State) : State := { s with latched := 0, capture := {} }

/-- The placement at a controller reset (R140): a placement under way halts, an IDLE erector is commanded IDLE. -/
def haltOnReset (s : State) : State :=
  match s.place.erector with
  | .working st => haltPlacement st s
  | .halted => writeErector .halt s
  | .idle => writeErector .idle s

/-- The rest of R140, in every erector state. -/
def placementReset (s : State) : State :=
  let t := haltOnReset s
  { t with place := { t.place with mode := .single, hold := false, timer := Timer.cancelled } }

/-- Every channel becomes STALE with its stale timer stopped, and every free-running count is to be rebased; the value,
last lapse, clamped flag and previous counts are kept (R25, R75, R102, R151, R161). -/
def channelsReset (s : State) : State :=
  { s with
    channels := Vector.ofFn fun c => { s.channels[c] with fresh := false, timer := Timer.cancelled }
    angle := { s.angle with rebase := true }
    mass := { s.mass with rebase := true }
    pulse := { s.pulse with rebase := true }
    screw := { s.screw with chamberHeld := true } }

/-- The state of a port after a controller reset (R142). -/
def PortState.afterReset : PortState → PortState
  | .serving => .idle
  | .pressureHold => .idle
  | .idle => .idle
  | .blocked => .blocked
  | .outOfService => .outOfService

/-- The grout ports and the pointer at a controller reset (R142, R143). -/
def portsReset (s : State) : State :=
  { s with
    ports := Vector.ofFn fun p =>
      { s.ports[p] with state := s.ports[p].state.afterReset, timer := Timer.cancelled }
    pointer := 0 }

/-- Every cylinder is commanded LOCK, its owner kept, and every retract timer cancelled (R87, R89, log 24). -/
def cylindersReset (s : State) : State :=
  let t := lockAll s
  { t with cylinders := Vector.ofFn fun i => { t.cylinders[i] with timer := Timer.cancelled } }

/-- The trip cause becomes none and further causes no (R51, R52). -/
def forgetTrip (s : State) : State := { s with tripCause := none, furtherCauses := false }

/-- The cycle state a controller reset takes (R52): UNCONFIGURED while the configured flag is no, else BUILDING while a
ring record is BUILDING, else STANDSTILL. -/
def resetState (s : State) : Cycle :=
  if s.configured then (if (buildingRing s).isSome then .building else .standstill) else .unconfigured

/-- A controller reset up to the STOP cause (R52, R53): the blocks' own changes, the cycle's new state told to them, and
every send mark set. -/
def resetWork (s : State) : State :=
  let t := placementReset (cancelReservation (clearReports s))
  let t := clearGroupFlags (cylindersReset (portsReset (channelsReset t)))
  markAll (changeCycle (resetState t) (forgetTrip t))

/-- CONTROLLER_RESET (R52, R53). -/
def controllerReset : Handler := fun _ s => doneWith [] (tripIfStop (resetWork s))

/-- CONTROLLER_RESET. -/
def execControllerReset (r : Request) (s : State) : Result := .next (takeRequest 0x06 0 controllerReset r s)

/-! ### Power-on reset -/

/-- The input records after power-on reset, with the levels of the lines (R34): bit i of `lines` is set while DI i is
HIGH. -/
def inputsAtPowerOn (lines : BitVec 12) : Vector Input 12 :=
  Vector.ofFn fun i => { level := if lines.getLsbD i.val then .high else .low, mode := defaultMode i }

/-- Power-on reset (R35): every block at its initial values, any transaction in progress abandoned (R2), then the STOP
cause of R48. The queue of waiting commands is the model's own and is kept (log 17). -/
def powerOnReset (lines : BitVec 12) (s : State) : State :=
  tripIfStop { State.powerOn (inputsAtPowerOn lines) with pending := s.pending }

/-- POWER_ON_RESET: the bytes received of an abandoned transaction have no effect (R2). -/
def execPowerOnReset (lines : BitVec 12) (_received : List Byte) (s : State) : Result :=
  .next (powerOnReset lines s)

end Sys2Proof.Machine
end

