-- ==== Sys2Proof/Machine/Frames.lean ====
section
/-! DEFINITION. Whole transactions of the Request Link (R1 to R5): the checks on the bytes, the request index with the
owner of each kind, and the rows that are no single request. -/

namespace Sys2Proof.Machine

/-- How the owner of a kind carries its requests out (request index, section 1.6). -/
def ownerOf (kind : Nat) : Handler :=
  match kind with
  | 0x00 => noRequest | 0x01 => readStatus | 0x02 => readNotices | 0x03 => clearNotices
  | 0x04 => setNoticeEnable | 0x05 => readErrorCapture | 0x06 => controllerReset
  | 0x10 => setParam | 0x11 => getParam
  | 0x18 => setSense | 0x19 => readInputs | 0x1A => readChannel
  | 0x20 => beginStroke | 0x21 => endStroke | 0x22 => beginBuild
  | 0x23 => enterIntervention | 0x24 => leaveIntervention | 0x25 => clearTrip
  | 0x30 => setLoadPointer | 0x31 => toolLoad | 0x32 => toolRead | 0x33 => toolAmend
  | 0x34 => toolLockOut | 0x35 => toolRetire | 0x36 => toolFit | 0x37 => toolRelease
  | 0x40 => setThrust | 0x41 => readCylinder | 0x42 => readStroke | 0x43 => readBalance
  | 0x50 => ringPlan | 0x51 => ringCancel | 0x52 => ringRetire | 0x53 => readRing
  | 0x58 => segmentEnqueue | 0x59 => segmentWithdraw | 0x5A => readFeed
  | 0x60 => placeNext | 0x61 => placeRun | 0x62 => erectorHold
  | 0x63 => erectorAbort | 0x64 => erectorResume | 0x65 => erectorReturn
  | 0x70 => setRotation | 0x71 => setPortRequest | 0x72 => portOutOfService | 0x73 => portRestore
  | 0x74 => portClear | 0x75 => groutRate | 0x76 => readPort | 0x77 => readGrout
  | 0x78 => setScrewMode
  | _ => fun _ s => refuse .unknownRequest s

/-- The kind and request of a command that is one request of the index, or one of no kind of it; none for every other
command. -/
def requestOf : Instr → Option (Byte × Request)
  | .powerOnReset _ _ => none
  | .transactionCutShort _ => none
  | .linkCheck _ => none
  | .unknownRequest kind r => some (kind, r)
  | .noRequest r => some (0x00, r)
  | .readStatus r => some (0x01, r)
  | .readNotices r => some (0x02, r)
  | .clearNotices r => some (0x03, r)
  | .setNoticeEnable r => some (0x04, r)
  | .readErrorCapture r => some (0x05, r)
  | .controllerReset r => some (0x06, r)
  | .setParamGeometry r => some (0x10, r)
  | .setParamTuning r => some (0x10, r)
  | .checkCaptureEmpty r => some (0x10, r)
  | .getParam r => some (0x11, r)
  | .setSense r => some (0x18, r)
  | .readInputs r => some (0x19, r)
  | .readChannel r => some (0x1A, r)
  | .beginStroke r => some (0x20, r)
  | .endStroke r => some (0x21, r)
  | .beginBuild r => some (0x22, r)
  | .enterIntervention r => some (0x23, r)
  | .leaveIntervention r => some (0x24, r)
  | .clearTrip r => some (0x25, r)
  | .setLoadPointer r => some (0x30, r)
  | .toolLoad r => some (0x31, r)
  | .toolRead r => some (0x32, r)
  | .toolAmendLimits r => some (0x33, r)
  | .toolAmendDuty r => some (0x33, r)
  | .toolLockOut r => some (0x34, r)
  | .toolRetire r => some (0x35, r)
  | .toolFit r => some (0x36, r)
  | .toolRelease r => some (0x37, r)
  | .storageFault _ => none
  | .setThrust r => some (0x40, r)
  | .readCylinder r => some (0x41, r)
  | .readStroke r => some (0x42, r)
  | .readBalance r => some (0x43, r)
  | .ringPlan r => some (0x50, r)
  | .ringCancel r => some (0x51, r)
  | .ringRetire r => some (0x52, r)
  | .readRing r => some (0x53, r)
  | .segmentEnqueue r => some (0x58, r)
  | .segmentWithdraw r => some (0x59, r)
  | .readFeed r => some (0x5A, r)
  | .placeNext r => some (0x60, r)
  | .placeRun r => some (0x61, r)
  | .erectorHold r => some (0x62, r)
  | .erectorAbort r => some (0x63, r)
  | .erectorResume r => some (0x64, r)
  | .erectorReturn r => some (0x65, r)
  | .setRotation r => some (0x70, r)
  | .setPort r => some (0x71, r)
  | .portOutOfService r => some (0x72, r)
  | .portRestore r => some (0x73, r)
  | .portClear r => some (0x74, r)
  | .groutRate r => some (0x75, r)
  | .readPort r => some (0x76, r)
  | .readGrout r => some (0x77, r)
  | .setScrewModeManual r => some (0x78, r)
  | .setScrewModeAuto r => some (0x78, r)
  | .sampleArrival _ _ => none
  | .sampleMessageDiscarded _ _ _ => none
  | .staleTimerExpiry _ => none
  | .setpointMessage => none
  | .lineChange _ _ => none
  | .retractTimerExpiry _ => none
  | .stepTimerExpiry => none
  | .blockTimerExpiry _ => none
  | .setpointMessageEnd => none

/-- A checked request handed by kind to its owner (R5): a kind outside the index is refused UNKNOWN_REQUEST before
its length is looked at. -/
def takeByKind (kind : Byte) (r : Request) (s : State) : State :=
  takeRequest kind ((indexCount kind).getD r.args.length) (ownerOf kind.toNat) r s

/-- A frame that fails R3 is answered LINK_CHECK with its kind and tag bytes as received, and has no other effect. -/
def failFrame (frame : List Byte) (extra : Nat) (s : State) : State :=
  respond (frame.getD 1 0) ⟨frame.getD 2 0, [], extra⟩ s.link.answer (refuse .linkCheck s)

/-- A selection of any length (R1 to R5): the first 64 bytes form the transaction, fewer take no request. -/
def transact (bytes : List Byte) (s : State) : State :=
  if bytes.length < 64 then cutShort bytes s
  else
    let frame := bytes.take 64
    let extra := bytes.length - 64
    if frameChecks frame then takeByKind (frameRequest frame extra).1 (frameRequest frame extra).2 s
    else failFrame frame extra s

/-- TRANSACTION_CUT_SHORT (R2): 64 bytes or more are no such row and are taken for what they say (log 8). -/
def execTransactionCutShort (bytes : List Byte) (s : State) : Result := .next (transact bytes s)

/-- LINK_CHECK (R3): bytes that pass the checks are no such row and are taken for what they say (log 8). -/
def execLinkCheck (bytes : List Byte) (s : State) : Result := .next (transact bytes s)

/-- UNKNOWN_REQUEST (R5): a kind of the index is no such row and is taken for what it says (log 8). -/
def execUnknownRequest (kind : Byte) (r : Request) (s : State) : Result := .next (takeByKind kind r s)

end Sys2Proof.Machine
end

