-- ==== Sys2Proof/Machine/Dispatch.lean ====
section
/-! DEFINITION. The meaning of each command: one arm per constructor of `Instr`. -/

namespace Sys2Proof.Machine

def exec (i : Instr) (s : State) : Host.Outcome State Fault Refusal :=
  match i with
  | .powerOnReset lines received => Sys2Proof.Machine.execPowerOnReset lines received s
  | .transactionCutShort bytes => Sys2Proof.Machine.execTransactionCutShort bytes s
  | .linkCheck bytes => Sys2Proof.Machine.execLinkCheck bytes s
  | .unknownRequest kind r => Sys2Proof.Machine.execUnknownRequest kind r s
  | .noRequest r => Sys2Proof.Machine.execNoRequest r s
  | .readStatus r => Sys2Proof.Machine.execReadStatus r s
  | .readNotices r => Sys2Proof.Machine.execReadNotices r s
  | .clearNotices r => Sys2Proof.Machine.execClearNotices r s
  | .setNoticeEnable r => Sys2Proof.Machine.execSetNoticeEnable r s
  | .readErrorCapture r => Sys2Proof.Machine.execReadErrorCapture r s
  | .controllerReset r => Sys2Proof.Machine.execControllerReset r s
  | .setParamGeometry r => Sys2Proof.Machine.execSetParamGeometry r s
  | .setParamTuning r => Sys2Proof.Machine.execSetParamTuning r s
  | .checkCaptureEmpty r => Sys2Proof.Machine.execCheckCaptureEmpty r s
  | .getParam r => Sys2Proof.Machine.execGetParam r s
  | .setSense r => Sys2Proof.Machine.execSetSense r s
  | .readInputs r => Sys2Proof.Machine.execReadInputs r s
  | .readChannel r => Sys2Proof.Machine.execReadChannel r s
  | .beginStroke r => Sys2Proof.Machine.execBeginStroke r s
  | .endStroke r => Sys2Proof.Machine.execEndStroke r s
  | .beginBuild r => Sys2Proof.Machine.execBeginBuild r s
  | .enterIntervention r => Sys2Proof.Machine.execEnterIntervention r s
  | .leaveIntervention r => Sys2Proof.Machine.execLeaveIntervention r s
  | .clearTrip r => Sys2Proof.Machine.execClearTrip r s
  | .setLoadPointer r => Sys2Proof.Machine.execSetLoadPointer r s
  | .toolLoad r => Sys2Proof.Machine.execToolLoad r s
  | .toolRead r => Sys2Proof.Machine.execToolRead r s
  | .toolAmendLimits r => Sys2Proof.Machine.execToolAmendLimits r s
  | .toolAmendDuty r => Sys2Proof.Machine.execToolAmendDuty r s
  | .toolLockOut r => Sys2Proof.Machine.execToolLockOut r s
  | .toolRetire r => Sys2Proof.Machine.execToolRetire r s
  | .toolFit r => Sys2Proof.Machine.execToolFit r s
  | .toolRelease r => Sys2Proof.Machine.execToolRelease r s
  | .storageFault position => Sys2Proof.Machine.execStorageFault position s
  | .setThrust r => Sys2Proof.Machine.execSetThrust r s
  | .readCylinder r => Sys2Proof.Machine.execReadCylinder r s
  | .readStroke r => Sys2Proof.Machine.execReadStroke r s
  | .readBalance r => Sys2Proof.Machine.execReadBalance r s
  | .ringPlan r => Sys2Proof.Machine.execRingPlan r s
  | .ringCancel r => Sys2Proof.Machine.execRingCancel r s
  | .ringRetire r => Sys2Proof.Machine.execRingRetire r s
  | .readRing r => Sys2Proof.Machine.execReadRing r s
  | .segmentEnqueue r => Sys2Proof.Machine.execSegmentEnqueue r s
  | .segmentWithdraw r => Sys2Proof.Machine.execSegmentWithdraw r s
  | .readFeed r => Sys2Proof.Machine.execReadFeed r s
  | .placeNext r => Sys2Proof.Machine.execPlaceNext r s
  | .placeRun r => Sys2Proof.Machine.execPlaceRun r s
  | .erectorHold r => Sys2Proof.Machine.execErectorHold r s
  | .erectorAbort r => Sys2Proof.Machine.execErectorAbort r s
  | .erectorResume r => Sys2Proof.Machine.execErectorResume r s
  | .erectorReturn r => Sys2Proof.Machine.execErectorReturn r s
  | .setRotation r => Sys2Proof.Machine.execSetRotation r s
  | .setPort r => Sys2Proof.Machine.execSetPort r s
  | .portOutOfService r => Sys2Proof.Machine.execPortOutOfService r s
  | .portRestore r => Sys2Proof.Machine.execPortRestore r s
  | .portClear r => Sys2Proof.Machine.execPortClear r s
  | .groutRate r => Sys2Proof.Machine.execGroutRate r s
  | .readPort r => Sys2Proof.Machine.execReadPort r s
  | .readGrout r => Sys2Proof.Machine.execReadGrout r s
  | .setScrewModeManual r => Sys2Proof.Machine.execSetScrewModeManual r s
  | .setScrewModeAuto r => Sys2Proof.Machine.execSetScrewModeAuto r s
  | .sampleArrival channel value => Sys2Proof.Machine.execSampleArrival channel value s
  | .sampleMessageDiscarded channel value check => Sys2Proof.Machine.execSampleMessageDiscarded channel value check s
  | .staleTimerExpiry channel => Sys2Proof.Machine.execStaleTimerExpiry channel s
  | .setpointMessage => Sys2Proof.Machine.execSetpointMessage s
  | .lineChange input level => Sys2Proof.Machine.execLineChange input level s
  | .retractTimerExpiry cylinder => Sys2Proof.Machine.execRetractTimerExpiry cylinder s
  | .stepTimerExpiry => Sys2Proof.Machine.execStepTimerExpiry s
  | .blockTimerExpiry port => Sys2Proof.Machine.execBlockTimerExpiry port s
  | .setpointMessageEnd => Sys2Proof.Machine.execSetpointMessageEnd s

end Sys2Proof.Machine
end

