-- ==== Sys2Proof/Machine/Timers.lean ====
section
/-! DEFINITION. One millisecond of the part's own time base (spec/00, Timers): every running timer counts down, and
the timers that reach zero expire. It is what the part does while no command is waiting (log 1). -/

namespace Sys2Proof.Machine

/-- A running timer that stands at zero: it has just reached it. -/
def Timer.due (t : Timer) : Bool := t.running && t.value == 0

/-- The time base moves on and every running timer counts down. -/
def countDown (s : State) : State :=
  { s with
    clock := s.clock + 1
    channels := Vector.ofFn fun c => { s.channels[c] with timer := s.channels[c].timer.pass }
    cylinders := Vector.ofFn fun i => { s.cylinders[i] with timer := s.cylinders[i].timer.pass }
    place := { s.place with timer := s.place.timer.pass }
    ports := Vector.ofFn fun p => { s.ports[p] with timer := s.ports[p].timer.pass } }

/-- The retract timers at zero expire (R91). -/
def expireRetracts (s : State) : State :=
  (List.finRange 16).foldl (fun t i => if t.cylinders[i].timer.due then retractExpired i t else t) s

/-- The step timer at zero expires (R134). -/
def expireStep (s : State) : State := if s.place.timer.due then stepExpired s else s

/-- The stale timers at zero expire (R21). -/
def expireStales (s : State) : State :=
  (List.finRange 30).foldl (fun t c => if t.channels[c].timer.due then staleExpired c t else t) s

/-- The block timer at zero of the SERVING port expires (R149). -/
def expireBlocks (s : State) : State :=
  (List.finRange 6).foldl
    (fun t p => if t.ports[p].state = .serving ∧ t.ports[p].timer.due then blockExpired p t else t) s

/-- One millisecond passes. The spec gives no order for timers that reach zero together; it matters for channel 23
against a block timer alone, and `Config.staleFirst` leaves it open (log 3). -/
def passMillisecond (s : State) : State :=
  let t := expireStep (expireRetracts (countDown s))
  if Config.staleFirst s.clock then expireBlocks (expireStales t) else expireStales (expireBlocks t)

/-- The part with no command waiting: a free transmitter begins a message where one is due (R27), and a millisecond
passes. DESIGN CHOICE (log 1). -/
def idle (s : State) : State := passMillisecond (beginMessage s)

end Sys2Proof.Machine
end

