-- ==== Sys2Proof/Machine/Step.lean ====
section
/-! DEFINITION. The step: the command at the front of the queue is taken, or the part idles. -/

namespace Sys2Proof.Machine

/-- The queue with a command at its front. -/
def State.withFront (s : State) (c : Instr) : State := { s with pending := c :: s.pending }

/-- One step: the first waiting command runs on the state with the queue's rest; with none waiting the part idles. -/
def step (s : State) : Host.Outcome State Fault Refusal :=
  match s.pending with
  | [] => .next (idle s)
  | c :: rest => exec c { s with pending := rest }

/-- The command a table word spells put at the front of the queue; no row gives bits, so no word spells one
(log 18). -/
def State.withFetchWord (s : State) (nbits w : Nat) : State :=
  match decodeTableWord nbits w with
  | some c => s.withFront c
  | none => s

end Sys2Proof.Machine
end

