-- ==== Sys2Proof/Safety.lean ====
section
/-! DEFINITION. What holds of the part in every state a run reaches: the laws the spec states about its records, each a
predicate on one state. A run is safe while they hold; no step stops. -/

namespace Sys2Proof.Machine

/-- R8, section 1.3: only event notices latch. -/
def LatchLaw (s : State) : Prop := s.latched &&& ~~~eventSet = 0

/-- R152: modulo 2^32 the pulses counted equal those credited to the six ports plus the unattributed count. -/
def PulseLaw (s : State) : Prop :=
  s.totalPulses = ((List.finRange 6).map fun p => s.ports[p].credited).sum + s.unattributed

/-- Section 3.1: in BORING the stroke account is OPEN. -/
def StrokeLaw (s : State) : Prop := s.cycle = .boring → s.stroke.state = .opened

/-- R100: while the account is OPEN or CLOSED its volume is the face area swept by its advance, no part lost. -/
def VolumeLaw (s : State) : Prop :=
  s.stroke.state = .opened ∨ s.stroke.state = .closed →
    s.stroke.remainder < 100000 ∧
      s.stroke.litres * 100000 + s.stroke.remainder = s.params.faceArea.getD 0 * s.stroke.advance

/-- R116 for one record: the exposure lies within the ring width, the target is captured VOID_AREA times captured
GROUT_FACTOR times exposure; while the record takes advance its exposure is what its advance gives; before closure
both are 0. -/
def Ring.Exposed (tailLength ringWidth : Nat) (r : Ring) : Prop :=
  r.advance ≤ max32 ∧ r.exposure ≤ ringWidth ∧
    r.target = r.voidArea.getD 0 * r.groutFactor.getD 0 * r.exposure ∧
    (r.state = .closed ∨ r.state = .grouting → r.exposure = exposureOf tailLength ringWidth r.advance) ∧
    (r.state = .planned ∨ r.state = .building → r.exposure = 0)

/-- R116 for every ring record. -/
def ExposureLaw (s : State) : Prop :=
  ∀ r ∈ s.rings, r.Exposed (s.params.tailLength.getD 0) (s.params.ringWidth.getD 0)

/-- R55, R57, R80 and R81 for one record: the bounds of duty, lifetime duty, remainder and limits, and the state that
the tool, the duty and the limits give. -/
def ToolFields.Sound (t : ToolFields) : Prop :=
  t.duty ≤ t.lifetime ∧ t.lifetime ≤ max32 ∧ t.remainder < dutyDivisor ∧ t.watch ≤ t.wear ∧
    (t.state = .fitted ∨ t.state = .watch ∨ t.state = .worn →
      t.present = true ∧ t.state = wearState t.duty t.watch t.wear) ∧
    (t.state = .absent ∨ t.state = .empty ∨ t.state = .suspect → t.present = false)

/-- R55 and R57 for every tool record. -/
def DutyLaw (s : State) : Prop := ∀ i : Fin 64, s.tools[i].toToolFields.Sound

/-- R64: no two tool records hold the same serial. -/
def SerialLaw (s : State) : Prop :=
  ∀ i j : Fin 64, i ≠ j → s.tools[i].serial.isSome → s.tools[i].serial ≠ s.tools[j].serial

/-- R37, R58 and R59: the summary counts, the gauge-worn flag and the configured flag follow the records and the
parameters. -/
def TableLaw (s : State) : Prop :=
  s.blocking = countBlocking s.tools ∧ s.positions = countPositions s.tools ∧
    s.gaugeWorn = anyGaugeWorn s.tools ∧ s.configured = configuredDue s

/-- R38: the permit is ON exactly while the cycle is BORING, LOCK_DOOR is not asserted and no tool record is EMPTY,
LOCKED_OUT or SUSPECT. -/
def PermitLaw (s : State) : Prop :=
  s.outputs[(0 : Fin 25)].value =
    if s.cycle = .boring ∧ doorOpen s = false ∧ ∀ i : Fin 64, s.tools[i].state.blocks = false then 1 else 0

/-- R92, R93: each group setpoint is what the cycle state calls for, and at most the ceiling. -/
def SetpointLaw (s : State) : Prop :=
  ∀ g : Fin 4, s.outputs[groupOutput g].value = groupSetpoint s g ∧ s.outputs[groupOutput g].value ≤ ceiling s

/-- R162, R163: the screw setpoint is 0 while the screw is stopped and otherwise lies within SCREW_MIN to the ceiling;
that range is never empty. -/
def ScrewLaw (s : State) : Prop :=
  s.params.screwMin ≤ s.params.screwMax ∧ s.params.screwMin ≤ s.params.screwBalanceCeiling ∧
    (screwRunning s = false → screwSetpoint s = 0) ∧
    (screwRunning s = true → s.params.screwMin ≤ screwSetpoint s ∧ screwSetpoint s ≤ screwCeiling s)

/-- R145, R150 and section 9.1: at most one port is SERVING and only while grouting is allowed; the valve names it and
the pump runs at the pump rate, and with none SERVING the valve is NONE and the pump rate 0. -/
def GroutLaw (s : State) : Prop :=
  (∀ p q : Fin 6, s.ports[p].state = .serving → s.ports[q].state = .serving → p = q) ∧
    (∀ p : Fin 6, s.ports[p].state = .serving → groutAllowed s = true ∧
      s.outputs[(23 : Fin 25)].value = p.val ∧ s.outputs[(24 : Fin 25)].value = pumpRate s) ∧
    ((∀ p : Fin 6, s.ports[p].state ≠ .serving) →
      s.outputs[(23 : Fin 25)].value = 255 ∧ s.outputs[(24 : Fin 25)].value = 0)

/-- A placement is under way (section 8.1). -/
def Erector.underWay : Erector → Bool
  | .idle => false | .working _ => true | .halted => false

/-- R90, R125: in BUILDING the retract count never exceeds 16 less MIN_HOLD; in any other cycle state no cylinder is
commanded RETRACT and no placement is under way. -/
def HoldLaw (s : State) : Prop :=
  (s.cycle = .building → retractCount s ≤ 16 - s.params.minHold) ∧
    (s.cycle ≠ .building → retractCount s = 0 ∧ s.place.erector.underWay = false)

/-- R107, R44, R37: at most one record is BUILDING, only in BUILDING or TRIPPED, and the account is then not OPEN; in
BUILDING there is one; the part is configured while a record is BUILDING and in STANDSTILL, BORING and BUILDING. -/
def BuildLaw (s : State) : Prop :=
  s.rings.countP (fun r => r.state == .building) ≤ 1 ∧
    (s.cycle = .building → 0 < s.rings.countP (fun r => r.state == .building)) ∧
    (0 < s.rings.countP (fun r => r.state == .building) →
      (s.cycle = .building ∨ s.cycle = .tripped) ∧ s.stroke.state ≠ .opened ∧ s.configured = true) ∧
    (s.cycle = .standstill ∨ s.cycle = .boring ∨ s.cycle = .building → s.configured = true)

/-- R106: the register holds at most eight records, oldest first, with numbers 1 to 65 535; each record's number is the
next after the number of the record before it, 1 after 65 535. -/
def RegisterLaw (s : State) : Prop :=
  s.rings.length ≤ 8 ∧ (∀ r ∈ s.rings, 1 ≤ r.number ∧ r.number ≤ 65535) ∧
    ∀ older x y newer, s.rings = older ++ x :: y :: newer → y.number = if x.number = 65535 then 1 else x.number + 1

/-- R108, R113 to R115: each ring's order list names each ordinary slot once; a slot holds an identity exactly while it is
not OPEN; the slots of a PLANNED ring are OPEN and those of a ring past its closure PLACED; the key of a ring being built
is not PLACED, and is OPEN until every ordinary slot is PLACED. -/
def SlotLaw (s : State) : Prop :=
  ∀ r ∈ s.rings, r.order.toList.Nodup ∧
    (∀ slot : Slot, r.slots[slot].state = .vacant ↔ r.slots[slot].segment = none) ∧
    (r.state = .planned → ∀ slot : Slot, r.slots[slot].state = .vacant) ∧
    (r.state = .closed ∨ r.state = .grouting ∨ r.state = .grouted → ∀ slot : Slot, r.slots[slot].state = .placed) ∧
    (r.state = .building → r.slots[(6 : Slot)].state ≠ .placed) ∧
    (r.slots[(6 : Slot)].state ≠ .vacant → ∀ n : Fin 6, r.slots[n.castSucc].state = .placed)

/-- The identities in the queue and in the slot records of the register. -/
def heldIdentities (s : State) : List Nat :=
  s.feed.map Segment.id ++ s.rings.flatMap fun r => r.slots.toList.filterMap SlotRecord.segment

/-- R119, R120, R122: the queue holds at most eight entries, no identity appears twice across the queue and the slot
records, and exactly one entry is reserved while the erector is PICKING, none in any other state. -/
def FeedLaw (s : State) : Prop :=
  s.feed.length ≤ 8 ∧ (heldIdentities s).Nodup ∧
    s.feed.countP (fun e => e.reserved) = if s.place.erector = .working .picking then 1 else 0

/-- Section 11.1, R163, R173: every parameter lies in its range, each reference cylinder in its group. -/
def Params.InRange (p : Params) : Prop :=
  (∀ v, p.faceArea = some v → 50000 ≤ v ∧ v ≤ 600000) ∧ (∀ v, p.voidArea = some v → 1000 ≤ v ∧ v ≤ 100000) ∧
    (∀ v w, p.faceArea = some v → p.voidArea = some w → w < v) ∧
    (∀ v, p.ringWidth = some v → 8000 ≤ v ∧ v ≤ 20000) ∧ (∀ v, p.tailLength = some v → v ≤ 60000) ∧
    (∀ g : Fin 4, groupOf p.refCylinders[g] = g) ∧ (10000 ≤ p.strokeLimit ∧ p.strokeLimit ≤ 24000) ∧
    (6 ≤ p.minHold ∧ p.minHold ≤ 13) ∧ (10 ≤ p.jumpLimit ∧ p.jumpLimit ≤ 2000) ∧ p.retractedAt ≤ 2000 ∧
    (1000 ≤ p.retractTime ∧ p.retractTime ≤ 300000) ∧
    (1000 ≤ p.erectorStepTime ∧ p.erectorStepTime ≤ 300000) ∧ (1000 ≤ p.blockTime ∧ p.blockTime ≤ 300000) ∧
    (20 ≤ p.staleTime ∧ p.staleTime ≤ 5000) ∧ (1000 ≤ p.pMax ∧ p.pMax ≤ 45000) ∧ p.pDerate ≤ 45000 ∧
    p.holdPressure ≤ 45000 ∧ (100 ≤ p.groundFactor ∧ p.groundFactor ≤ 4000) ∧
    (1000 ≤ p.density ∧ p.density ≤ 3000) ∧ p.balanceStart ≤ 15000 ∧
    (500 ≤ p.balanceHigh ∧ p.balanceHigh ≤ 2000) ∧ (500 ≤ p.balanceLow ∧ p.balanceLow ≤ 2000) ∧
    p.faceTarget ≤ 1000 ∧ p.screwMin ≤ p.screwMax ∧ p.screwMin ≤ p.screwBalanceCeiling ∧ p.screwMax ≤ 250 ∧
    p.screwBalanceCeiling ≤ 250 ∧ p.screwStart ≤ 250 ∧ p.screwGain ≤ 10000 ∧
    (1 ≤ p.screwStep ∧ p.screwStep ≤ 50) ∧ (100 ≤ p.groutFactor ∧ p.groutFactor ≤ 250) ∧
    (10 ≤ p.pulseWeight ∧ p.pulseWeight ≤ 1000) ∧ (500 ≤ p.shotVolume ∧ p.shotVolume ≤ 50000) ∧
    p.groutRate ≤ 4000 ∧ p.pumpMax ≤ 4000

/-- Section 11.1: the parameters held lie in their ranges. -/
def ParamLaw (s : State) : Prop := s.params.InRange

/-- R25, R19: a channel's value lies within its range, and its stale timer runs while it is FRESH. -/
def ChannelLaw (s : State) : Prop :=
  ∀ c : Fin 30, s.channels[c].value ≤ upperEnd c ∧ (s.channels[c].fresh = true → s.channels[c].timer.running = true)

/-! ### Relations the statements use -/

/-- R62 and R63: the arguments of TOOL_LOAD pass its checks, and `x` is the record they describe. -/
def Loads (args : List Byte) (x : ToolFields) : Prop :=
  (field args 0 1 = 0 ∧ x = {}) ∨
  ∃ zone kind, Zone.ofCode (field args 1 1) = some zone ∧ ToolKind.ofCode (field args 2 1) = some kind ∧
    field args 3 2 ≤ 3400 ∧ field args 14 4 ≤ field args 18 4 ∧
    ((field args 0 1 = 1 ∧ field args 5 3 = 0 ∧ field args 8 2 = 0 ∧ field args 10 4 = 0 ∧
        x = { state := .empty, zone := zone, kind := kind, radius := field args 3 2, watch := field args 14 4,
              wear := field args 18 4 }) ∨
     (field args 0 1 = 2 ∧ field args 5 3 ≠ 0 ∧
        x = { state := wearState (field args 10 4) (field args 14 4) (field args 18 4), zone := zone, kind := kind,
              radius := field args 3 2, serial := some (field args 5 3),
              fittedAt := if field args 8 2 = 0 then none else some (field args 8 2), duty := field args 10 4,
              watch := field args 14 4, wear := field args 18 4, lifetime := field args 10 4 }))

/-- Every cylinder is commanded LOCK and keeps its owner (R89), its retract timer frozen (R91). -/
def AllLocked (s t : State) : Prop := ∀ i : Fin 16, command t i = .lock ∧
  t.cylinders[i] = { s.cylinders[i] with timer := { s.cylinders[i].timer with running := false } }

/-- R172 and section 11.1: the value bytes after the identifier lie in the range of geometry parameter `g` where `p` is
held, and `p'` is `p` with the value stored. -/
def GeometryTakes (g : Geometry) (args : List Byte) (p p' : Params) : Prop :=
  match g with
  | .faceArea => 50000 ≤ field args 1 4 ∧ field args 1 4 ≤ 600000 ∧
      (∀ w, p.voidArea = some w → w < field args 1 4) ∧ p' = { p with faceArea := some (field args 1 4) }
  | .voidArea => 1000 ≤ field args 1 4 ∧ field args 1 4 ≤ 100000 ∧
      (∀ w, p.faceArea = some w → field args 1 4 < w) ∧ p' = { p with voidArea := some (field args 1 4) }
  | .ringWidth => 8000 ≤ field args 1 4 ∧ field args 1 4 ≤ 20000 ∧ p' = { p with ringWidth := some (field args 1 4) }
  | .tailLength => field args 1 4 ≤ 60000 ∧ p' = { p with tailLength := some (field args 1 4) }
  | .refCylinders => (∀ k : Fin 4, field args (1 + k.val) 1 / 4 = k.val) ∧
      (∀ k : Fin 4, p'.refCylinders[k].val = field args (1 + k.val) 1) ∧ p' = { p with refCylinders := p'.refCylinders }
  | .strokeLimit => 10000 ≤ field args 1 4 ∧ field args 1 4 ≤ 24000 ∧ p' = { p with strokeLimit := field args 1 4 }
  | .minHold => 6 ≤ field args 1 4 ∧ field args 1 4 ≤ 13 ∧ p' = { p with minHold := field args 1 4 }

/-- R44, cause 1: the account leaves room for a ring. -/
def RoomForRing (s : State) : Prop :=
  s.stroke.state = .none ∨ (s.stroke.state = .closed ∧
    (s.params.ringWidth.getD 0 ≤ s.stroke.advance ∨ referenceAtLimit s = true))

/-- R73: a read of record i has found the record damaged. In BORING the part trips; elsewhere, where the record was a
position already, nothing changes that R73 does not name. -/
def FailureFound (i : Fin 64) (s u : State) : Prop :=
  u.tools = s.tools.set i (Tool.fresh { state := .suspect }) ∧ u.checkCaptured = some (s.checkCaptured.getD i) ∧
    u.checkFailures = min (s.checkFailures + 1) 255 ∧
    u.latched.getLsbD Notice.recordCheckFailed.number = true ∧ u.loadPointer = s.loadPointer ∧
    u.blocking = countBlocking u.tools ∧ u.positions = countPositions u.tools ∧
    (s.cycle = .boring → u.cycle = .tripped ∧ u.tripCause = some .recordCheck ∧ AllLocked s u) ∧
    (s.cycle ≠ .boring → s.tools[i].state ≠ .absent → u = { s with
      tools := u.tools, checkCaptured := u.checkCaptured, checkFailures := u.checkFailures
      latched := s.latched ||| Notice.recordCheckFailed.bit, blocking := u.blocking, positions := u.positions
      gaugeWorn := u.gaugeWorn, outputs := u.outputs })

/-- R80, R81, R83: a record with a tool, `x` before the duty of `n` counts, is `y` after it. -/
def TakesDuty (n groundFactor : Nat) (x y : ToolFields) : Prop :=
  let w := x.remainder + x.radius * n * 6434 * groundFactor
  y = { x with state := y.state, duty := y.duty, remainder := y.remainder, lifetime := y.lifetime } ∧
    y.duty = min (x.duty + w / 4194304000000) 4294967295 ∧
    y.lifetime = min (x.lifetime + w / 4194304000000) 4294967295 ∧
    y.remainder = (if x.duty + w / 4194304000000 < 4294967295 then w % 4194304000000 else 0) ∧
    y.state = (if x.state = .fitted ∨ x.state = .watch ∨ x.state = .worn then wearState y.duty x.watch x.wear
      else x.state)

/-- No stored record but record i is damaged. -/
def OthersSound (i : Fin 64) (s : State) : Prop := ∀ j : Fin 64, j ≠ i → s.tools[j].damaged = false

/-- No record but record i holds the serial. -/
def SerialFree (i : Fin 64) (serial : Nat) (s : State) : Prop := ∀ j : Fin 64, j ≠ i → s.tools[j].serial ≠ some serial

/-- Each group setpoint stands at `v g`. -/
def GroupsAt (s : State) (v : Fin 4 → Nat) : Prop := ∀ g : Fin 4, s.outputs[groupOutput g].value = v g

/-- Every cylinder's command, output 5 + index, is the one it was. -/
def CommandsKept (s t : State) : Prop := ∀ i : Fin 16, t.outputs[cylinderOutput i] = s.outputs[cylinderOutput i]

/-- HOLD_PRESSURE clamped to the ceiling (R93). -/
def heldPressure (s : State) : Nat := min s.params.holdPressure (ceiling s)

/-- The account at the opening of a stroke (R41). -/
def AccountState.opensAnew : AccountState → Bool
  | .none => true | .spent => true | .opened => false | .closed => false

/-- R146: entry `e` of the rotation table names the IDLE port `p`, and no entry from the pointer up to it, in the
table's order, names an IDLE port. -/
def FirstIdle (s : State) (e : Fin 16) (p : Fin 6) : Prop :=
  s.rotation[e] = some p ∧ s.ports[p].state = .idle ∧
    ∀ e' : Fin 16, (e' - s.pointer).val < (e - s.pointer).val → ∀ q, s.rotation[e'] = some q → s.ports[q].state ≠ .idle

/-- Every output but the named ones is as it was. -/
def OutputsKeptBut (changed : List Nat) (s t : State) : Prop :=
  ∀ o : Fin 25, o.val ∉ changed → t.outputs[o] = s.outputs[o]

/-- The notices latched in `t` are those latched in `s` and those for which `raised` holds, no other (R8). -/
def NoticesRaised (raised : Notice → Prop) (s t : State) : Prop :=
  ∀ n : Notice, t.latched.getLsbD n.number = true ↔ s.latched.getLsbD n.number = true ∨ raised n

/-- The words of the cycle, the thrust groups, the screw and the grout, outputs 0 to 4 and 22 to 24, are as they were: a
placement writes the cylinders' words and the erector's alone (R26, section 8.1). -/
def PlacementOutputsOnly (s t : State) : Prop :=
  ∀ o : Fin 25, o.val < 5 ∨ 21 < o.val → t.outputs[o] = s.outputs[o]

/-- R59, R93: where the gauge-worn flag has changed, the group setpoints are taken again; where it has not, they are as
they were. -/
def GroupsFollow (s t : State) : Prop :=
  (t.gaugeWorn = s.gaugeWorn → ∀ g : Fin 4, t.outputs[groupOutput g] = s.outputs[groupOutput g]) ∧
  (t.gaugeWorn ≠ s.gaugeWorn → GroupsAt t fun g =>
    match t.cycle with
    | .boring => min t.quadrants[g] (ceiling t)
    | .standstill | .building => heldPressure t
    | .unconfigured | .intervention | .tripped => 0)

/-- The rings are `older`, the oldest BUILDING record `r`, then `newer`. -/
def BuildsAt (s : State) (older : List Ring) (r : Ring) (newer : List Ring) : Prop :=
  s.rings = older ++ r :: newer ∧ (∀ y ∈ older, y.state ≠ .building) ∧ r.state = .building

/-- The cylinders of `cyls` are commanded `c` with owner BUILD of ring and slot, every other one as before (R89, R90).
R91: the retract timer is loaded with RETRACT_TIME when the command becomes RETRACT and runs, but stands there where the
cylinder is RETRACTED at once; it is kept where RETRACT stays, and frozen by EXTEND and LOCK. -/
def SpanCommanded (cyls : List (Fin 16)) (c : Command) (ring : Nat) (slot : Slot) (s t : State) : Prop :=
  ∀ i : Fin 16, if i ∈ cyls then command t i = c ∧ t.cylinders[i].owner = .build ring slot ∧
      t.cylinders[i].timer =
        (if c ≠ .retract then { s.cylinders[i].timer with running := false }
          else if command s i = .retract then s.cylinders[i].timer
          else ⟨s.params.retractTime, decide (s.params.retractedAt < extension s i)⟩)
    else t.outputs[cylinderOutput i] = s.outputs[cylinderOutput i] ∧ t.cylinders[i] = s.cylinders[i]

/-- R88: the cylinder is commanded RETRACT and its extension is at or below RETRACTED_AT. -/
def standsRetracted (s : State) (i : Fin 16) : Bool :=
  command s i == .retract && decide (extension s i ≤ s.params.retractedAt)

/-- A placement works on a slot of the BUILDING ring, its current slot, and `P` holds of the two. -/
def WorksOn (s : State) (P : Ring → Slot → Prop) : Prop :=
  ∃ older x newer slot, BuildsAt s older x newer ∧ s.place.current = some slot ∧ P x slot

/-- Section 8.1 (its two tables), R125, R127, R134: outside BUILDING the erector is IDLE, or HALTED in TRIPPED; unless it
is IDLE a ring is BUILDING; an interrupted step is held exactly in HALTED; the step timer runs exactly in the four steps
R134 names; a slot ON_ERECTOR is the current slot of the BUILDING ring; only span cylinders of the current slot,
owned by its build, stand commanded RETRACT; and the erector command, output 21, the current slot and the span's
commands and owners are what the table gives for the erector state. -/
def PlaceLaw (s : State) : Prop :=
  (s.cycle ≠ .building → s.place.erector = .idle ∨ (s.cycle = .tripped ∧ s.place.erector = .halted)) ∧
    (s.place.erector ≠ .idle → ∃ older x newer, BuildsAt s older x newer) ∧
    (s.place.interrupted.isSome = true ↔ s.place.erector = .halted) ∧
    (s.place.timer.running = true ↔
      s.place.erector = .working .picking ∨ s.place.erector = .working .clearing ∨
        s.place.erector = .working .positioning ∨ s.place.erector = .working .seating) ∧
    (∀ r ∈ s.rings, ∀ slot : Slot, r.slots[slot].state = .onErector →
      r.state = .building ∧ s.place.current = some slot) ∧
    (∀ i : Fin 16, command s i = .retract → WorksOn s fun x slot =>
      i ∈ span x.key slot ∧ s.cylinders[i].owner = .build x.number slot) ∧
    let out := s.outputs[(21 : Fin 25)].value
    let next := WorksOn s fun x slot => x.nextSlot = some slot
    let held := fun c : Command => WorksOn s fun x slot => x.slots[slot].state = .onErector ∧
      ∀ i ∈ span x.key slot, command s i = c ∧ s.cylinders[i].owner = .build x.number slot
    match s.place.erector with
    | .idle => s.place.current = none ∧ (out = 0 ∨ out = 3)
    | .working .awaitSegment => out = 0 ∧ next
    | .working .picking => out = 1 ∧ next
    | .working .clearing => out = 1 ∧ held .retract
    | .working .positioning => held .retract ∧ WorksOn s fun x slot => out = 16 + (spanFirst x.key slot).val
    | .working .seating => out = 2 ∧ held .extend
    | .halted => out = 3 ∧
        if s.place.interrupted = some .awaitSegment ∨ s.place.interrupted = some .picking then s.place.current = none
        else WorksOn s fun x slot => x.slots[slot].state = .onErector

/-- R91: the retract timer of a cylinder that becomes RETRACTED stops with its value frozen; nothing else of a cylinder
changes. -/
def TimersStopped (s t : State) : Prop :=
  ∀ i : Fin 16, t.cylinders[i] =
    if standsRetracted s i = false ∧ standsRetracted t i = true then
      { s.cylinders[i] with timer := { s.cylinders[i].timer with running := false } }
    else s.cylinders[i]

/-- R130: some cylinder with owner BUILD enters or leaves RETRACTED, and is reported to the Placement Controller. -/
def RetractionReported (s t : State) : Prop :=
  ∃ i ring slot, s.cylinders[i].owner = .build ring slot ∧ standsRetracted s i ≠ standsRetracted t i

/-- R130: a report in CLEARING that finds the whole span of the current slot RETRACTED ends it: POSITIONING, the step
timer loaded, the erector sent to the span's first cylinder. Without one the placement and its output are as they
were. -/
def ClearingFollows (s t : State) : Prop :=
  (∀ older x newer slot, BuildsAt s older x newer → s.place.current = some slot →
    s.place.erector = .working .clearing → RetractionReported s t →
    (∀ i ∈ span x.key slot, standsRetracted t i = true) →
    t.place = { s.place with erector := .working .positioning, timer := ⟨s.params.erectorStepTime, true⟩ } ∧
      t.outputs[(21 : Fin 25)].value = 16 + (spanFirst x.key slot).val) ∧
  (s.place.erector ≠ .working .clearing ∨ ¬ RetractionReported s t ∨
      (∀ older x newer slot, BuildsAt s older x newer → s.place.current = some slot →
        ∃ i ∈ span x.key slot, standsRetracted t i = false) →
    t.place = s.place ∧ t.outputs[(21 : Fin 25)] = s.outputs[(21 : Fin 25)])

/-- The ports, the pointer, the valve and the pump rate of `t` are those the Grout Controller gives when it takes its
state again in `s` (R144 to R146, R150). -/
def GroutFollows (s t : State) : Prop :=
  t.ports = (groutSettle s).ports ∧ t.pointer = (groutSettle s).pointer ∧
    t.outputs[(23 : Fin 25)] = (groutSettle s).outputs[(23 : Fin 25)] ∧
    t.outputs[(24 : Fin 25)] = (groutSettle s).outputs[(24 : Fin 25)]

/-- R167, R169: where its range is taken again, the setpoint of a running screw is clamped to it, in MANUAL from the
manual speed; elsewhere it is as it was. -/
def ScrewRanged (taken : Bool) (s t : State) : Prop :=
  t.outputs[(22 : Fin 25)].value =
    if taken = true ∧ screwRunning s = true then
      screwClamp t (match s.screw.mode with | .auto => s.outputs[(22 : Fin 25)].value | .manual => s.screw.manual)
    else s.outputs[(22 : Fin 25)].value

/-- No two ports are SERVING (section 9.1). -/
def OneServing (s : State) : Prop :=
  ∀ p q : Fin 6, s.ports[p].state = .serving → s.ports[q].state = .serving → p = q

/-- R139, R136: what a trip does to the placement: one under way stops as an abort stops it, the reservation of one before
its grip cancelled; an IDLE erector is commanded HALT; a HALTED one is as it was. -/
def PlacementTripped (s t : State) : Prop :=
  (∀ st, s.place.erector = .working st →
    t.place = { s.place with
      erector := .halted, interrupted := some st, timer := { s.place.timer with running := false }
      current := if st = .awaitSegment ∨ st = .picking then none else s.place.current } ∧
    t.feed = (if st = .awaitSegment ∨ st = .picking then s.feed.map (fun e => { e with reserved := false })
      else s.feed) ∧
    t.outputs[(21 : Fin 25)].value = 3) ∧
  (s.place.erector = .idle → t.place = s.place ∧ t.feed = s.feed ∧ t.outputs[(21 : Fin 25)].value = 3) ∧
  (s.place.erector = .halted → t.place = s.place ∧ t.feed = s.feed ∧
    t.outputs[(21 : Fin 25)] = s.outputs[(21 : Fin 25)])

/-- R49, R50, R89, R93, R139, R150, R162: a cause takes the cycle to TRIPPED and every output to its safe value. -/
def TripTaken (cause : TripCause) (s t : State) : Prop :=
  t.cycle = .tripped ∧ t.tripCause = some cause ∧ t.furtherCauses = s.furtherCauses ∧
    t.outputs[(0 : Fin 25)].value = 0 ∧ GroupsAt t (fun _ => 0) ∧ AllLocked s t ∧
    t.outputs[(22 : Fin 25)].value = 0 ∧ PlacementTripped s t ∧
    (OneServing s → t.pointer = s.pointer ∧ t.outputs[(23 : Fin 25)].value = 255 ∧
      t.outputs[(24 : Fin 25)].value = 0 ∧ ∀ p : Fin 6, t.ports[p] = if s.ports[p].state = .serving then
        { s.ports[p] with state := .idle, timer := { s.ports[p].timer with running := false } } else s.ports[p])

/-- R30: what the blocks do when the record of input `i`, one that is not the erector's, has changed between `s` and `t`;
`reached` says that a sense event of it went to the group mechanism (R31). STOP becoming asserted trips (R48 to R50),
the permit follows the door (R38), the screw the gate (R162, R164); nothing else changes. -/
def InputActs (i : Fin 12) (reached : Prop) (s t : State) : Prop :=
  let stopping := i = 0 ∧ stopAsserted s = false ∧ stopAsserted t = true
  (stopping → s.cycle ≠ .tripped → TripTaken .stop s t ∧
    NoticesRaised (fun n => (n = .inputGroupChange ∧ reached) ∨
      (n = .buildAborted ∧ s.place.erector.underWay = true)) s t ∧
    t = { s with
      inputs := t.inputs, groupFlags := t.groupFlags, latched := t.latched, cycle := t.cycle
      tripCause := t.tripCause, outputs := t.outputs, cylinders := t.cylinders, ports := t.ports, place := t.place
      feed := t.feed }) ∧
  (¬ (stopping ∧ s.cycle ≠ .tripped) → NoticesRaised (fun n => n = .inputGroupChange ∧ reached) s t) ∧
  (stopping → s.cycle = .tripped → t = { s with
    inputs := t.inputs, groupFlags := t.groupFlags, latched := t.latched, furtherCauses := true }) ∧
  ((i = 0 ∧ ¬ stopping) ∨ i = 1 ∨ 6 < i → t = { s with
    inputs := t.inputs, groupFlags := t.groupFlags, latched := t.latched }) ∧
  (i = 2 ∨ i = 6 → t = { s with
    inputs := t.inputs, groupFlags := t.groupFlags, latched := t.latched, outputs := t.outputs }) ∧
  (i = 2 → OutputsKeptBut [0] s t ∧ (doorOpen t = doorOpen s → t.outputs = s.outputs) ∧
    (doorOpen t ≠ doorOpen s → t.outputs[(0 : Fin 25)].value =
      if s.cycle = .boring ∧ doorOpen t = false ∧ s.blocking = 0 then 1 else 0)) ∧
  (i = 6 → OutputsKeptBut [22] s t ∧ (gateOpen t = gateOpen s → t.outputs = s.outputs) ∧
    (gateOpen s = true → gateOpen t = false → t.outputs[(22 : Fin 25)].value = 0) ∧
    (gateOpen s = false → gateOpen t = true → t.outputs[(22 : Fin 25)].value =
      if s.cycle = .boring then
        screwClamp s (match s.screw.mode with | .auto => s.params.screwStart | .manual => s.screw.manual)
      else 0))

/-- The table of section 11.1: each identifier and the parameter it names. -/
def paramIds : List (Nat × ParamId) :=
  [(0x01, .geometry .faceArea), (0x02, .geometry .voidArea), (0x03, .geometry .ringWidth),
   (0x04, .geometry .tailLength), (0x05, .geometry .refCylinders), (0x06, .geometry .strokeLimit),
   (0x07, .geometry .minHold)] ++
  [(0x10, .tuning .jumpLimit), (0x11, .tuning .retractedAt), (0x12, .tuning .retractTime),
   (0x13, .tuning .erectorStepTime), (0x14, .tuning .blockTime), (0x15, .tuning .staleTime), (0x16, .tuning .pMax),
   (0x17, .tuning .pDerate), (0x18, .tuning .holdPressure), (0x19, .tuning .groundFactor), (0x1A, .tuning .density),
   (0x1B, .tuning .balanceStart), (0x1C, .tuning .balanceHigh), (0x1D, .tuning .balanceLow),
   (0x1E, .tuning .faceTarget)] ++
  [(0x20, .tuning .screwMin), (0x21, .tuning .screwMax), (0x22, .tuning .screwBalanceCeiling),
   (0x23, .tuning .screwStart), (0x24, .tuning .screwGain), (0x25, .tuning .screwStep), (0x28, .tuning .groutFactor),
   (0x29, .tuning .pulseWeight), (0x2A, .tuning .shotVolume), (0x2B, .tuning .groutRate), (0x2C, .tuning .pumpMax),
   (0x40, .checkCapture)]

/-- R173: what the part does at once when tuning parameter `k` has been stored as `v`, from `s` to `u`: the group
setpoints (R93), CLEARING and the retract timers (R91, R130), the balance and the screw (R103, R163), the shot (R147)
and the pump (R144) are taken again; any other parameter changes nothing beside itself. -/
def TuningActs (k : Tuning) (v : Nat) (s u : State) : Prop :=
  match k with
  | .pMax | .pDerate | .holdPressure =>
      u = { s with params := u.params, outputs := u.outputs } ∧ OutputsKeptBut [1, 2, 3, 4] s u ∧
        (s.cycle = .boring → GroupsAt u (fun g => min s.quadrants[g] (ceiling u))) ∧
        (s.cycle = .standstill ∨ s.cycle = .building → GroupsAt u (fun _ => heldPressure u)) ∧
        (s.cycle = .unconfigured ∨ s.cycle = .intervention ∨ s.cycle = .tripped → GroupsAt u (fun _ => 0))
  | .retractedAt =>
      u = { s with params := u.params, outputs := u.outputs, cylinders := u.cylinders, place := u.place } ∧
        OutputsKeptBut [21] s u ∧ TimersStopped s u ∧ ClearingFollows s u
  | .density | .balanceStart | .balanceHigh | .balanceLow =>
      u = { s with params := u.params, outputs := u.outputs } ∧ OutputsKeptBut [22] s u ∧
        ScrewRanged (overExcavation u != overExcavation s) s u
  | .screwMin | .screwMax | .screwBalanceCeiling =>
      u = { s with params := u.params, outputs := u.outputs } ∧ OutputsKeptBut [22] s u ∧ ScrewRanged true s u
  | .shotVolume =>
      OneServing s → ∃ w, u = groutSettle w ∧ w = { s with params := u.params, ports := w.ports } ∧
        ∀ p : Fin 6, w.ports[p] =
          if s.ports[p].state = .serving ∧ groutAllowed s = true ∧ v ≤ s.ports[p].shot then
            { s.ports[p] with state := .idle, timer := { s.ports[p].timer with running := false } }
          else s.ports[p]
  | .groutRate | .pumpMax => u = groutSettle { s with params := u.params }
  | .jumpLimit | .retractTime | .erectorStepTime | .blockTime | .staleTime | .groundFactor | .faceTarget
  | .screwStart | .screwGain | .screwStep | .groutFactor | .pulseWeight => u = { s with params := u.params }

/-- The match of R122 for a slot of ring `r`: PICKING with the oldest fitting entry reserved and the step timer loaded, or
AWAIT_SEGMENT with one more starvation and the timer as it was (R128). -/
def Matched (r : Ring) (slot : Slot) (s t : State) : Prop :=
  t.place.current = some slot ∧
    (∀ before e after, s.feed = before ++ e :: after → e.kind = slot.kind ∧ e.type = r.type →
      (∀ f ∈ before, ¬ (f.kind = slot.kind ∧ f.type = r.type)) →
      t.feed = before ++ { e with reserved := true } :: after ∧ t.place.erector = .working .picking ∧
        t.place.timer = ⟨s.params.erectorStepTime, true⟩ ∧ t.outputs[(21 : Fin 25)].value = 1 ∧
        t.starvation = s.starvation) ∧
    ((∀ f ∈ s.feed, ¬ (f.kind = slot.kind ∧ f.type = r.type)) →
      t.feed = s.feed ∧ t.place.erector = .working .awaitSegment ∧ t.place.timer = s.place.timer ∧
        t.outputs[(21 : Fin 25)].value = 0 ∧ t.starvation = min (s.starvation + 1) 65535)

end Sys2Proof.Machine
end

