-- ==== Sys2Proof/Certificates/Slice0/Obligations.lean ====
section
/-! DEFINITION. The statements about the model, each a closed proposition. Where a statement gives the whole next state of
a command it does so by `t = { s with f := t.f, … }`: every field it does not name is as it was. -/

open Sys2Proof Sys2Proof.Machine

/-! ### The step -/

/-- The command at the front of the queue runs on the state with the queue's rest, and step answers its outcome. -/
def Obligations.StepRunsFrontCommand : Prop :=
  ∀ (c : Instr) (rest : List Instr) (s : State),
    step { s with pending := c :: rest } = exec c { s with pending := rest }

/-- Every command answers a next state, whatever the state and its operands (R5). That no command touches the queue of
the commands that wait, POWER_ON_RESET included, is the model's choice (log 1, log 17). -/
def Obligations.CommandsAnswerAndKeepQueue : Prop :=
  ∀ (c : Instr) (s : State), ∃ t, exec c s = .next t ∧ t.pending = s.pending

/-- With no command waiting a millisecond passes (the model's choice, log 1): the time base moves by one, a free
transmitter begins the message of the lowest-numbered marked output (R27), and every running timer counts down by one
(spec/00 Timers). A timer that reaches zero acts as its expiry does: a channel becomes STALE and its owner starts anew
(R21, R22), RETRACT_LATE is raised where the cylinder is still RETRACTING (R91), ERECTOR_STEP_LATE (R134), and a SERVING
port becomes BLOCKED with PORT_BLOCKED (R149, R146); nothing else changes. Where channel 23 and the block timer reach
zero together the order is open (R150, log 3). -/
def Obligations.IdleMillisecondAgesTimers : Prop :=
  ∀ s : State, s.pending = [] → ∃ t, step s = .next t ∧ t.clock = s.clock + 1 ∧
    (∀ c : Fin 30, t.channels[c] =
      { s.channels[c] with
        timer := s.channels[c].timer.pass
        fresh := s.channels[c].fresh && !(s.channels[c].timer.running && s.channels[c].timer.value == 1) }) ∧
    (∀ i : Fin 16, t.cylinders[i] = { s.cylinders[i] with timer := s.cylinders[i].timer.pass }) ∧
    t.place = { s.place with timer := s.place.timer.pass } ∧
    t = { s with
      clock := t.clock, channels := t.channels, cylinders := t.cylinders, place := t.place, ports := t.ports
      outputs := t.outputs, sending := t.sending, latched := t.latched, pointer := t.pointer, angle := t.angle
      mass := t.mass, pulse := t.pulse, screw := t.screw } ∧
    (∀ o : Fin 25, s.sending = none → s.outputs[o].mark = true →
      (∀ o' : Fin 25, o'.val < o.val → s.outputs[o'].mark = false) →
      t.sending = some ⟨o, s.outputs[o].value⟩ ∧ OutputsKeptBut [o.val, 23, 24] s t ∧
        (o.val < 23 → t.outputs[o] = ⟨s.outputs[o].value, false⟩)) ∧
    (s.sending ≠ none ∨ (∀ o : Fin 25, s.outputs[o].mark = false) →
      t.sending = s.sending ∧ OutputsKeptBut [23, 24] s t) ∧
    let zero := fun x : Timer => x.running = true ∧ x.value = 1
    let stale := fun c : Fin 30 => zero s.channels[c].timer
    let blocks := fun p : Fin 6 => s.ports[p].state = .serving ∧ zero s.ports[p].timer
    t.angle.prev = s.angle.prev ∧ (t.angle.rebase = true ↔ s.angle.rebase = true ∨ stale 20) ∧
    t.mass.prev = s.mass.prev ∧ (t.mass.rebase = true ↔ s.mass.rebase = true ∨ stale 22) ∧
    t.pulse.prev = s.pulse.prev ∧ (t.pulse.rebase = true ↔ s.pulse.rebase = true ∨ stale 23) ∧
    t.screw = { s.screw with chamberHeld := t.screw.chamberHeld } ∧
    (t.screw.chamberHeld = true ↔ s.screw.chamberHeld = true ∨ stale 21) ∧
    (¬ stale 23 ∨ (∀ p, ¬ blocks p) → NoticesRaised (fun n =>
      (n = .retractLate ∧ ∃ i : Fin 16, zero s.cylinders[i].timer ∧ command s i = .retract ∧
        s.params.retractedAt < extension s i) ∨
      (n = .erectorStepLate ∧ zero s.place.timer) ∨ (n = .portBlocked ∧ ∃ p, blocks p)) s t) ∧
    (¬ stale 23 → (∀ p, ¬ blocks p) → t.pointer = s.pointer ∧
      t.outputs[(23 : Fin 25)].value = s.outputs[(23 : Fin 25)].value ∧
      t.outputs[(24 : Fin 25)].value = s.outputs[(24 : Fin 25)].value ∧
      ∀ p : Fin 6, t.ports[p] = { s.ports[p] with timer := s.ports[p].timer.pass }) ∧
    (∀ p, ¬ stale 23 → blocks p → OneServing s → 0 < s.params.blockTime → ∃ u w : State, w = groutSettle u ∧
      u = { s with ports := u.ports } ∧
      (∀ q : Fin 6, u.ports[q] = if q = p then { s.ports[p] with state := .blocked, timer := ⟨0, true⟩ }
        else { s.ports[q] with timer := s.ports[q].timer.pass }) ∧
      t.ports = w.ports ∧ t.pointer = w.pointer ∧
      t.outputs[(23 : Fin 25)].value = w.outputs[(23 : Fin 25)].value ∧
      t.outputs[(24 : Fin 25)].value = w.outputs[(24 : Fin 25)].value) ∧
    (stale 23 → (∀ p, ¬ blocks p) → OneServing s → t.pointer = s.pointer ∧
      t.outputs[(23 : Fin 25)].value = 255 ∧ t.outputs[(24 : Fin 25)].value = 0 ∧
      ∀ p : Fin 6, t.ports[p] = if s.ports[p].state = .serving then
        { s.ports[p] with state := .idle, timer := { s.ports[p].timer.pass with running := false } }
      else { s.ports[p] with timer := s.ports[p].timer.pass }) ∧
    (∀ p, stale 23 → blocks p → OneServing s → 0 < s.params.blockTime →
      t.outputs[(23 : Fin 25)].value = 255 ∧ t.outputs[(24 : Fin 25)].value = 0 ∧
      (t.ports[p].state = .idle ∨
        (t.ports[p].state = .blocked ∧ t.latched.getLsbD Notice.portBlocked.number = true)))

/-! ### Resets -/

/-- What power-on reset leaves, as the rules give it (R2, R11, R15, R25, R26, R30, R34, R35, R54, R75, R87, R94, R99,
R106, R119, R125, R142, R143, R151, R160, R161, R174). A power-on reset from any state gives the values of R35 and its
fellows with the levels of the lines, and takes the trip cause STOP where DI0 stands LOW (R2, R34, R35, R48). The
model's choices in it: no message in flight (log 11), the time base at 0 (log 4), no bytes shifted out (log 7), the
queue kept (log 17). -/
def Obligations.PowerOnReset : Prop :=
  let mode := fun i : Fin 12 =>
    if i = 0 then SenseMode.low else if 2 ≤ i.val ∧ i.val ≤ 6 then SenseMode.rising else SenseMode.any
  (let s := State.reset
  s.link.answer = ⟨0x00, 0x00, .done, []⟩ ∧ pendingSet s = 0 ∧ s.enabled = BitVec.allOnes 24 ∧
    s.capture = ⟨none, 0⟩ ∧ (∀ c : Fin 30, s.channels[c] = ⟨0, false, ⟨0, false⟩, 0, false⟩) ∧
    (∀ o : Fin 25, s.outputs[o] = ⟨if o = 23 then 255 else 0, true⟩) ∧ s.sending = none ∧
    (∀ i : Fin 12, s.inputs[i].mode = mode i ∧ s.inputs[i].mask = false) ∧
    (∀ g : Fin 3, s.groupFlags[g] = false) ∧ s.cycle = .unconfigured ∧ s.tripCause = none ∧
    s.furtherCauses = false ∧ s.configured = false ∧
    (∀ i : Fin 64, s.tools[i].toToolFields = ⟨.absent, .centre, .disc, 0, none, none, 0, 0, 0, 0, 0⟩ ∧
      s.tools[i].damaged = false) ∧ s.loadPointer = 0 ∧
    s.checkCaptured = none ∧ s.checkFailures = 0 ∧ s.angle = ⟨0, true⟩ ∧ s.mass = ⟨0, true⟩ ∧
    s.pulse = ⟨0, true⟩ ∧ (∀ i : Fin 16, s.cylinders[i] = ⟨⟨0, false⟩, .advance⟩ ∧ command s i = .lock) ∧
    (∀ g : Fin 4, s.quadrants[g] = 0) ∧
    s.stroke = ⟨.none, 0, none, 0, 0, 0, 0, 0, 0, 0, 0, none⟩ ∧ s.rings = [] ∧ s.feed = [] ∧ s.starvation = 0 ∧
    s.place = ⟨.idle, .single, false, none, none, ⟨0, false⟩⟩ ∧
    (∀ p : Fin 6, s.ports[p] = ⟨.idle, 400, 30, 0, 0, 0, ⟨0, false⟩⟩) ∧
    (∀ e : Fin 16, s.rotation[e] = none) ∧ s.pointer = 0 ∧ s.totalPulses = 0 ∧ s.unattributed = 0 ∧
    s.surplus = 0 ∧ s.rebases = 0 ∧ s.screw = ⟨.auto, 0, true⟩ ∧ s.params = {
      faceArea := none, voidArea := none, ringWidth := none, tailLength := none, refCylinders := #v[0, 4, 8, 12]
      strokeLimit := 22000, minHold := 10, jumpLimit := 500, retractedAt := 500, retractTime := 20000
      erectorStepTime := 90000, blockTime := 15000, staleTime := 500, pMax := 30000, pDerate := 22000
      holdPressure := 8000, groundFactor := 1000, density := 2000, balanceStart := 2000, balanceHigh := 1150
      balanceLow := 850, faceTarget := 200, screwMin := 20, screwMax := 200, screwBalanceCeiling := 120
      screwStart := 60, screwGain := 400, screwStep := 10, groutFactor := 130, pulseWeight := 50
      shotVolume := 2000, groutRate := 1200, pumpMax := 2400 }) ∧
  (∀ (lines : BitVec 12) (received : List Byte) (s : State), ∃ t,
    exec (.powerOnReset lines received) s = .next t ∧
    (∀ i : Fin 12, t.inputs[i] = ⟨if lines.getLsbD i.val then .high else .low, mode i, false⟩) ∧
    t = { State.reset with
      inputs := t.inputs, cycle := t.cycle, tripCause := t.tripCause, outputs := t.outputs
      pending := s.pending } ∧
    (lines.getLsbD 0 = true → t.cycle = .unconfigured ∧ t.tripCause = none ∧ t.outputs = State.reset.outputs) ∧
    (lines.getLsbD 0 = false → t.cycle = .tripped ∧ t.tripCause = some .stop ∧
      (∀ o : Fin 25, t.outputs[o] = if o = 21 then ⟨3, true⟩ else State.reset.outputs[o])))

/-- A controller reset (R52, R53, R11, R15, R25, R34, R87, R119, R140, R142, R143, R161): what it keeps, what it brings
to rest, the placement it halts with its interrupted step and current slot, the state it leaves the cycle in, and every
send mark set; with STOP asserted the cycle trips at once. The model's choices and inferences in it: the message in
flight is kept (log 11), the time base is kept (log 4), and a frozen retract timer is cancelled too (log 24). -/
def Obligations.ControllerReset : Prop :=
  ∀ (r : Request) (s : State), r.args = [] → ∃ u,
    exec (.controllerReset r) s = .next (respond 0x06 r s.link.answer ⟨u, .done, []⟩) ∧
    u = { s with
      latched := u.latched, capture := {}, channels := u.channels, outputs := u.outputs
      groupFlags := Vector.replicate 3 false, cycle := u.cycle, tripCause := u.tripCause, furtherCauses := false
      angle := ⟨s.angle.prev, true⟩, cylinders := u.cylinders, mass := ⟨s.mass.prev, true⟩, feed := u.feed
      place := u.place, ports := u.ports, pointer := 0, pulse := ⟨s.pulse.prev, true⟩
      screw := ⟨s.screw.mode, s.screw.manual, true⟩ } ∧
    (∀ c : Fin 30, u.channels[c] = { s.channels[c] with fresh := false, timer := ⟨0, false⟩ }) ∧
    u.feed = s.feed.map (fun e => { e with reserved := false }) ∧
    (∀ i : Fin 16, command u i = .lock ∧ u.cylinders[i] = { s.cylinders[i] with timer := ⟨0, false⟩ }) ∧
    (∀ p : Fin 6, u.ports[p] = { s.ports[p] with
      state := if s.ports[p].state = .serving ∨ s.ports[p].state = .pressureHold then .idle else s.ports[p].state
      timer := ⟨0, false⟩ }) ∧
    (∀ st, s.place.erector = .working st → u.place.erector = .halted ∧ u.place.interrupted = some st ∧
      u.place.current = (if st = .awaitSegment ∨ st = .picking then none else s.place.current) ∧
      u.latched = Notice.buildAborted.bit) ∧
    (s.place.erector.underWay = false → u.place.erector = s.place.erector ∧
      u.place.interrupted = s.place.interrupted ∧ u.place.current = s.place.current ∧ u.latched = 0) ∧
    u.outputs[(21 : Fin 25)].value = (if s.place.erector = .idle ∧ stopAsserted s = false then 0 else 3) ∧
    u.place.mode = .single ∧ u.place.hold = false ∧ u.place.timer = ⟨0, false⟩ ∧
    (∀ o : Fin 25, u.outputs[o].mark = true) ∧ u.outputs[(0 : Fin 25)].value = 0 ∧
    u.outputs[(22 : Fin 25)].value = 0 ∧ u.outputs[(23 : Fin 25)].value = 255 ∧
    u.outputs[(24 : Fin 25)].value = 0 ∧
    (stopAsserted s = false → u.tripCause = none ∧
      u.cycle = (if s.configured = false then .unconfigured
        else if s.rings.any (fun r => r.state == .building) then .building else .standstill) ∧
      GroupsAt u (fun _ => if u.cycle = .unconfigured then 0 else heldPressure s)) ∧
    (stopAsserted s = true → u.cycle = .tripped ∧ u.tripCause = some .stop ∧ GroupsAt u (fun _ => 0))

/-! ### The Request Link -/

/-- A request frame passes the checks of R3 and carries its kind, tag and arguments, whatever the padding (request frame
of section 1.7): no bit of a frame is dropped. -/
def Obligations.RequestFrameRoundTrip : Prop :=
  ∀ (kind tag : Byte) (args pad : List Byte) (extra : Nat), args.length ≤ 56 →
    frameChecks (requestFrame kind tag args ++ pad) = true ∧
      frameRequest (requestFrame kind tag args ++ pad) extra = (kind, ⟨tag, args, extra⟩)

/-- A command that is one request does exactly what the transaction of its frame does, bytes clocked after the 64th
included (R1, R2, R3, R5 and the request index of section 1.6). The transaction is given here as the operand of the row
LINK_CHECK; that such a row, when its frame passes the checks, is taken for the request in it is the model's choice (log
8). -/
def Obligations.FramedRequestRunsItsCommand : Prop :=
  ∀ (c : Instr) (kind : Byte) (r : Request) (pad : List Byte) (s : State), requestOf c = some (kind, r) →
    r.args.length ≤ 56 → (requestFrame kind r.tag r.args ++ pad).length = 64 + r.extra →
    exec (.linkCheck (requestFrame kind r.tag r.args ++ pad)) s = exec c s

/-- A transaction of 64 bytes or more whose frame fails a check of R3 changes no block: its answer is LINK_CHECK of
length 0 with the kind and tag bytes as received, and the error capture is not touched. A transaction cut short takes no
request and keeps the answer buffer (R2). Of both, the bytes shifted out are the answer held before (R1). The Request
Port's own causes come first (R5, R6): a kind outside the index is refused UNKNOWN_REQUEST whatever its length, and a
request of the index with another number of argument bytes than the index gives BAD_LENGTH, whatever the state; neither
changes any block. -/
def Obligations.FailedRequestsOnlyAnswer : Prop :=
  (∀ (bytes : List Byte) (s : State), 64 ≤ bytes.length → frameChecks (bytes.take 64) = false →
    exec (.linkCheck bytes) s = .next { s with link :=
      { answer := ⟨bytes.getD 1 0, bytes.getD 2 0, .linkCheck, []⟩, shifted := s.link.answer.wire bytes.length } }) ∧
  (∀ (bytes : List Byte) (s : State), bytes.length < 64 →
    exec (.transactionCutShort bytes) s = .next { s with link :=
      { answer := s.link.answer, shifted := s.link.answer.wire bytes.length } }) ∧
  (∀ (kind : Byte) (r : Request) (s : State), r.args.length ≤ 56 → indexCount kind = none →
    exec (.unknownRequest kind r) s = .next (respond kind r s.link.answer ⟨s, .unknownRequest, []⟩)) ∧
  (∀ (c : Instr) (kind : Byte) (n : Nat) (r : Request) (s : State), requestOf c = some (kind, r) →
    indexCount kind = some n → r.args.length ≤ 56 → r.args.length ≠ n →
    exec c s = .next (respond kind r s.link.answer ⟨s, .badLength, []⟩))

/-- A request its owner refuses makes none of its changes (R5): beside the answer and the error capture the state is as
it was. Left out are the tool requests that read records, whose findings stand (R74). -/
def Obligations.RefusalsChangeNothing : Prop :=
  ∀ (c : Instr) (kind : Byte) (r : Request) (s t : State), requestOf c = some (kind, r) →
    kind ∉ [0x31#8, 0x32#8, 0x33#8, 0x34#8, 0x35#8, 0x36#8, 0x37#8] → exec c s = .next t →
    t.link.answer.status.refused = true → t = { s with link := t.link, capture := t.capture }

/-- What every answer records (R1, R5, R14, R16): the kind and tag are echoed, the answer held before is shifted out
followed by 0x00 bytes, a refused answer carries no results, and only a refused status reaches the error capture, whole
into an empty one and as a count, at most 255, into a full one. READ_ERROR_CAPTURE and CONTROLLER_RESET empty the
capture themselves. READ_ERROR_CAPTURE returns the capture in ten bytes and empties it (R15); refused for its length it
neither reads nor empties it. -/
def Obligations.ErrorsCaptured : Prop :=
  (∀ (r : Request) (s : State), r.args = [] → s.capture.first = none →
    exec (.readErrorCapture r) s =
      .next (respond 0x05 r s.link.answer ⟨{ s with capture := {} }, .done, List.replicate 10 0x00⟩)) ∧
  (∀ (r : Request) (f : Captured) (s : State), r.args = [] → s.capture.first = some f →
    exec (.readErrorCapture r) s = .next (respond 0x05 r s.link.answer ⟨{ s with capture := {} }, .done,
      [0x01, f.kind, f.tag, BitVec.ofNat 8 f.status.code, BitVec.ofNat 8 f.length, f.arg0, f.arg1, f.arg2, f.arg3,
        BitVec.ofNat 8 s.capture.count]⟩)) ∧
  (∀ (r : Request) (s : State), r.args ≠ [] → r.args.length ≤ 56 →
    exec (.readErrorCapture r) s = .next (respond 0x05 r s.link.answer ⟨s, .badLength, []⟩)) ∧
  (∀ (c : Instr) (kind : Byte) (r : Request) (s : State), requestOf c = some (kind, r) →
    kind ≠ 0x05 → kind ≠ 0x06 → ∃ t, exec c s = .next t ∧ t.link.answer.kind = kind ∧ t.link.answer.tag = r.tag ∧
      t.link.shifted = s.link.answer.wire (64 + r.extra) ∧
      (t.link.answer.status.refused = true → t.link.answer.results = [] ∧
        t.capture = (match s.capture.first with
          | none => { s.capture with first := some ⟨kind, r.tag, t.link.answer.status, r.args.length,
              r.args.getD 0 0, r.args.getD 1 0, r.args.getD 2 0, r.args.getD 3 0⟩ }
          | some _ => { s.capture with count := min (s.capture.count + 1) 255 })) ∧
      (t.link.answer.status.refused = false → t.capture = s.capture))

/-! ### Notices -/

/-- CLEAR_NOTICES takes each event notice named out of the pending set, leaves the condition notices to their
conditions, and returns the pending set that remains; SET_NOTICE_ENABLE replaces the enable set. Neither changes
anything else, in any cycle state (R10). -/
def Obligations.ClearAndEnableNotices : Prop :=
  (∀ (r : Request) (s : State), r.args.length = 3 → ∃ u,
    exec (.clearNotices r) s = .next (respond 0x03 r s.link.answer ⟨u, .done, beBytes 3 (pendingSet u).toNat⟩) ∧
    u = { s with latched := u.latched } ∧ conditionSet u = conditionSet s ∧
    (∀ n : Notice, (pendingSet u).getLsbD n.number =
      if eventSet.getLsbD n.number then
        (pendingSet s).getLsbD n.number && !(BitVec.ofNat 24 (field r.args 0 3)).getLsbD n.number
      else condition s n)) ∧
  (∀ (r : Request) (s : State), r.args.length = 3 →
    exec (.setNoticeEnable r) s = .next (respond 0x04 r s.link.answer
      ⟨{ s with enabled := BitVec.ofNat 24 (field r.args 0 3) }, .done, []⟩))

/-- The pending set, notice by notice (R8, R9), and what follows from it: ATTN is asserted exactly while some notice is
both pending and enabled (R12), and the most urgent notice is the lowest-numbered such one, 0xFF where there is none
(R13). A channel is in use while its owner has the state of the table of R23, and OVER_EXCAVATION and UNDER_EXCAVATION
hold while the balance ratio is computed and beyond its bound (R103); when grouting is allowed (R144) stands in
GroutSettles. -/
def Obligations.PendingSetAndAttention : Prop :=
  (∀ (s : State) (n : Notice), (pendingSet s).getLsbD n.number =
    match n with
    | .tripped => s.cycle == .tripped
    | .channelStale => (List.finRange 30).any fun c => !s.channels[c].fresh && inUse s c
    | .segmentStarved => s.place.erector == .working .awaitSegment
    | .thrustDerated => s.gaugeWorn
    | .groutNoPort => groutAllowed s && (List.finRange 6).all fun p => s.ports[p].state != .serving
    | .overExcavation => overExcavation s
    | .underExcavation => underExcavation s
    | _ => s.latched.getLsbD n.number) ∧
  (∀ s : State, attn s = true ↔
    ∃ n : Notice, (pendingSet s).getLsbD n.number = true ∧ s.enabled.getLsbD n.number = true) ∧
  (∀ (s : State) (n : Notice), mostUrgent s = n.number ↔
    ((pendingSet s).getLsbD n.number = true ∧ s.enabled.getLsbD n.number = true ∧
      ∀ m : Notice, m.number < n.number →
        ¬ ((pendingSet s).getLsbD m.number = true ∧ s.enabled.getLsbD m.number = true))) ∧
  (∀ s : State, (∀ n : Notice, ¬ ((pendingSet s).getLsbD n.number = true ∧ s.enabled.getLsbD n.number = true)) →
    mostUrgent s = 0xFF) ∧
  (∀ s : State,
    (∀ i : Fin 16, inUse s (extensionChannel i) = true ↔
      s.cycle = .building ∨ (s.stroke.state = .opened ∧ ∃ g : Fin 4, s.params.refCylinders[g] = i)) ∧
    (∀ g : Fin 4, inUse s (groupChannel g) = true ↔
      s.cycle = .standstill ∨ s.cycle = .boring ∨ s.cycle = .building) ∧
    (inUse s 20 = true ↔ s.cycle ≠ .unconfigured) ∧ (inUse s 21 = true ↔ s.cycle = .boring) ∧
    (inUse s 22 = true ↔ s.stroke.state = .opened ∨ s.stroke.state = .closed) ∧
    (inUse s 23 = true ↔ groutAllowed s = true) ∧
    (∀ p : Fin 6, inUse s (portChannel p) = true ↔
      s.ports[p].state = .serving ∨ s.ports[p].state = .pressureHold)) ∧
  (∀ (mass : Nat) (s : State),
    mass = (s.stroke.litres * 100000 + s.stroke.remainder) * s.params.density / 100000000 →
    (overExcavation s = true ↔ s.stroke.state ≠ .none ∧ s.params.balanceStart ≤ s.stroke.advance ∧ 0 < mass ∧
      s.params.balanceHigh < s.stroke.weighed * 1000 / mass) ∧
    (underExcavation s = true ↔ s.stroke.state ≠ .none ∧ s.params.balanceStart ≤ s.stroke.advance ∧ 0 < mass ∧
      s.stroke.weighed * 1000 / mass < s.params.balanceLow))

/-! ### Requests that read -/

/-- NO_REQUEST (R4), READ_NOTICES (R13), READ_CHANNEL (R24), READ_INPUTS (R33), READ_FEED (R124), READ_PORT (R158) and
READ_GROUT (R159): the bytes each returns; beside the answer only READ_INPUTS changes anything, the change flags. In
UNCONFIGURED the last three are refused NOT_CONFIGURED (R6), and a port number above 5 is refused BAD_ARGUMENT (section
9.6). -/
def Obligations.ReadsAnswer : Prop :=
  (∀ (r : Request) (s : State), r.args = [] →
    exec (.noRequest r) s = .next (respond 0x00 r s.link.answer ⟨s, .done, []⟩)) ∧
  (∀ (r : Request) (s : State), r.args ≠ [] → r.args.length ≤ 56 →
    exec (.noRequest r) s = .next (respond 0x00 r s.link.answer ⟨s, .badLength, []⟩)) ∧
  (∀ (r : Request) (s : State), r.args = [] →
    exec (.readNotices r) s = .next (respond 0x02 r s.link.answer ⟨s, .done,
      beBytes 3 (pendingSet s).toNat ++ beBytes 3 s.enabled.toNat ++ beBytes 1 (mostUrgent s)⟩)) ∧
  (∀ (r : Request) (b : Byte) (c : Fin 30) (s : State), r.args = [b] → b.toNat = c.val →
    exec (.readChannel r) s = .next (respond 0x1A r s.link.answer ⟨s, .done,
      beBytes 1 c.val ++
        beBytes 1 (flagBits [s.channels[c].fresh, inUse s c, s.channels[c].clamped, s.channels[c].timer.running]) ++
        beBytes 2 s.channels[c].value ++
        beInt32 (if s.channels[c].timer.running then s.channels[c].timer.value else 0) ++
        beBytes 4 s.channels[c].lastLapse⟩)) ∧
  (∀ (r : Request) (b : Byte) (s : State), r.args = [b] → 30 ≤ b.toNat →
    exec (.readChannel r) s = .next (respond 0x1A r s.link.answer ⟨s, .badArgument, []⟩)) ∧
  (∀ (r : Request) (s : State), r.args = [] →
    exec (.readInputs r) s = .next (respond 0x19 r s.link.answer
      ⟨{ s with groupFlags := Vector.replicate 3 false }, .done,
        beBytes 2 (flagBits (s.inputs.toList.map fun i => i.level == .high)) ++
          beBytes 2 (flagBits (s.inputs.toList.map Input.asserted)) ++ beBytes 1 (flagBits s.groupFlags.toList) ++
          beBytes 3 (s.inputs.toList.foldr (fun i acc => i.mode.code + 4 * acc) 0) ++
          beBytes 2 (flagBits (s.inputs.toList.map Input.mask))⟩)) ∧
  (∀ (r : Request) (s : State), r.args = [] → s.cycle ≠ .unconfigured →
    exec (.readFeed r) s = .next (respond 0x5A r s.link.answer ⟨s, .done,
      beBytes 1 s.feed.length ++ beBytes 2 s.starvation ++
        (s.feed.flatMap (fun e => beBytes 3 e.id ++ beBytes 1 e.kind.code ++ beBytes 1 e.type.code ++
          beBytes 1 (flagBits [e.reserved])) ++ List.replicate (48 - 6 * s.feed.length) 0x00)⟩)) ∧
  (∀ (r : Request) (b : Byte) (p : Fin 6) (s : State), r.args = [b] → b.toNat = p.val → s.cycle ≠ .unconfigured →
    exec (.readPort r) s = .next (respond 0x76 r s.link.answer ⟨s, .done,
      beBytes 1 p.val ++ beBytes 1 s.ports[p].state.code ++ beBytes 2 s.ports[p].limit ++
        beBytes 2 s.ports[p].hysteresis ++ beBytes 2 s.ports[p].lastPressure ++
        beBytes 4 s.ports[p].credited.toNat ++ beBytes 4 s.ports[p].shot ++ beInt32 s.ports[p].timer.value ++
        beBytes 1 (flagBits [s.ports[p].timer.running, s.channels[portChannel p].fresh,
          s.rotation.toList.contains (some p)])⟩)) ∧
  (∀ (r : Request) (s : State), r.args = [] → s.cycle ≠ .unconfigured →
    exec (.readGrout r) s = .next (respond 0x77 r s.link.answer ⟨s, .done,
      beBytes 1 s.pointer.val ++ s.rotation.toList.map (fun e => BitVec.ofNat 8 ((e.map Fin.val).getD 255)) ++
        [BitVec.ofNat 8 (((servingPort s).map Fin.val).getD 255)] ++ beBytes 2 s.outputs[(24 : Fin 25)].value ++
        beBytes 6 (deficit s) ++ beBytes 4 s.totalPulses.toNat ++ beBytes 4 s.unattributed.toNat ++
        beBytes 4 s.surplus ++ beBytes 2 s.rebases ++
        beBytes 2 (((s.rings.find? (fun r => r.state == .grouting)).map Ring.number).getD 0) ++
        beBytes 1 (flagBits [groutAllowed s, groutNoPort s, s.channels[(23 : Fin 30)].fresh])⟩)) ∧
  (∀ (r : Request) (b : Byte) (s : State), r.args = [b] → 5 < b.toNat → s.cycle ≠ .unconfigured →
    exec (.readPort r) s = .next (respond 0x76 r s.link.answer ⟨s, .badArgument, []⟩)) ∧
  (∀ (r : Request) (s : State), s.cycle = .unconfigured →
    (r.args = [] → exec (.readFeed r) s = .next (respond 0x5A r s.link.answer ⟨s, .notConfigured, []⟩)) ∧
    (r.args.length = 1 → exec (.readPort r) s = .next (respond 0x76 r s.link.answer ⟨s, .notConfigured, []⟩)) ∧
    (r.args = [] → exec (.readGrout r) s = .next (respond 0x77 r s.link.answer ⟨s, .notConfigured, []⟩)))

/-- READ_STATUS (R36), READ_STROKE (R17), READ_BALANCE (R104), READ_CYLINDER (R105) and READ_RING (R111) are taken in
every cycle state and change nothing beside the answer: every byte each returns, as section 1.7 and R105 lay them out,
and their refusals of an index above 15, of ring number 0 and of a number no record holds. The expected mass and the
balance ratio reported are those of R103. -/
def Obligations.CycleAndRecordReads : Prop :=
  (∀ (r : Request) (s : State), r.args = [] →
    exec (.readStatus r) s = .next (respond 0x01 r s.link.answer ⟨s, .done,
      beBytes 1 s.cycle.code ++ beBytes 1 ((s.tripCause.map TripCause.code).getD 0) ++
        beBytes 1 (flagBits [s.configured, s.furtherCauses, s.place.mode == .run, s.place.hold]) ++
        beBytes 1 s.stroke.state.code ++ beBytes 2 s.stroke.number ++ beBytes 1 s.place.erector.code ++
        beBytes 2 (((s.rings.find? (fun r => r.state == .building)).map Ring.number).getD 0) ++
        beBytes 1 ((s.place.current.map Fin.val).getD 0xFF) ++
        beBytes 1 ((s.place.interrupted.map Step.code).getD 0) ++ beInt32 s.place.timer.value⟩)) ∧
  (∀ (r : Request) (s : State), r.args = [] →
    exec (.readStroke r) s = .next (respond 0x42 r s.link.answer ⟨s, .done,
      beBytes 1 s.stroke.state.code ++ beBytes 2 s.stroke.number ++ beBytes 2 (s.stroke.ringPushed.getD 0) ++
        beBytes 2 s.stroke.base ++ beBytes 2 s.stroke.high ++ beBytes 4 s.stroke.advance ++
        beBytes 4 s.stroke.litres ++ beBytes 3 s.stroke.remainder ++ beBytes 4 s.stroke.weighed ++
        beBytes 4 s.stroke.headCounts ++ beBytes 2 s.stroke.jumps ++
        beBytes 1 ((s.stroke.endCause.map EndCause.code).getD 0) ++
        beBytes 2 (((balanceRatio s).map (fun q => min q 65534)).getD 0xFFFF) ++ beBytes 4 (expectedMass s)⟩)) ∧
  (∀ (r : Request) (s : State), r.args = [] →
    exec (.readBalance r) s = .next (respond 0x43 r s.link.answer ⟨s, .done,
      beBytes 1 s.stroke.state.code ++ beBytes 4 s.stroke.advance ++ beBytes 4 s.stroke.litres ++
        beBytes 3 s.stroke.remainder ++ beBytes 4 s.stroke.weighed ++ beBytes 4 (expectedMass s) ++
        beBytes 2 (((balanceRatio s).map (fun q => min q 65534)).getD 0xFFFF) ++
        beBytes 1 (flagBits [overExcavation s, underExcavation s])⟩)) ∧
  (∀ (r : Request) (b : Byte) (i : Fin 16) (g : Fin 4) (s : State), r.args = [b] → b.toNat = i.val →
    g.val = i.val / 4 → exec (.readCylinder r) s = .next (respond 0x41 r s.link.answer ⟨s, .done,
      beBytes 1 i.val ++ beBytes 1 g.val ++
        beBytes 1 (match command s i with | .lock => 0 | .extend => 1 | .retract => 2) ++
        beBytes 1 (match command s i with
          | .extend => if s.cycle = .boring then 0 else 1
          | .retract => if s.params.retractedAt < s.channels[extensionChannel i].value then 2 else 3
          | .lock => 4) ++
        (match s.cylinders[i].owner with
          | .advance => [0x00, 0x00, 0x00, 0xFF]
          | .build ring slot => [0x01] ++ beBytes 2 ring ++ beBytes 1 slot.val) ++
        beBytes 2 s.channels[extensionChannel i].value ++
        beBytes 1 (flagBits [s.channels[extensionChannel i].fresh, s.cylinders[i].timer.running,
          s.params.refCylinders.toList.contains i]) ++
        beInt32 s.cylinders[i].timer.value ++ beBytes 2 s.outputs[groupOutput g].value ++ beBytes 2 s.quadrants[g] ++
        beBytes 2 (if s.gaugeWorn then min s.params.pDerate s.params.pMax else s.params.pMax) ++
        beBytes 2 s.channels[groupChannel g].value⟩)) ∧
  (∀ (r : Request) (b : Byte) (s : State), r.args = [b] → 16 ≤ b.toNat →
    exec (.readCylinder r) s = .next (respond 0x41 r s.link.answer ⟨s, .badArgument, []⟩)) ∧
  (∀ (r : Request) (older newer : List Ring) (x : Ring) (s : State), r.args.length = 2 → field r.args 0 2 ≠ 0 →
    s.rings = older ++ x :: newer → (∀ y ∈ older, y.number ≠ field r.args 0 2) → x.number = field r.args 0 2 →
    exec (.readRing r) s = .next (respond 0x53 r s.link.answer ⟨s, .done,
      beBytes 2 x.number ++ beBytes 1 x.type.code ++ beBytes 1 x.key.val ++ beBytes 1 x.state.code ++
        beBytes 1 (16 * x.order[0].val + x.order[1].val) ++ beBytes 1 (16 * x.order[2].val + x.order[3].val) ++
        beBytes 1 (16 * x.order[4].val + x.order[5].val) ++
        ((List.finRange 7).map fun slot : Slot =>
          beBytes 1 (match x.slots[slot].state with | .vacant => 0 | .onErector => 1 | .placed => 2) ++
            beBytes 3 (x.slots[slot].segment.getD 0)).flatten ++
        beBytes 4 x.advance ++ beBytes 2 x.exposure ++ beBytes 3 (x.voidArea.getD 0) ++
        beBytes 1 (x.groutFactor.getD 0) ++ beBytes 5 x.target ++ beBytes 4 x.delivered⟩)) ∧
  (∀ (r : Request) (s : State), r.args.length = 2 → field r.args 0 2 = 0 →
    exec (.readRing r) s = .next (respond 0x53 r s.link.answer ⟨s, .badArgument, []⟩)) ∧
  (∀ (r : Request) (s : State), r.args.length = 2 → field r.args 0 2 ≠ 0 →
    (∀ x ∈ s.rings, x.number ≠ field r.args 0 2) →
    exec (.readRing r) s = .next (respond 0x53 r s.link.answer ⟨s, .notFound, []⟩)) ∧
  (∀ s : State,
    expectedMass s = (s.stroke.litres * 100000 + s.stroke.remainder) * s.params.density / 100000000 ∧
    ∀ q : Nat, balanceRatio s = some q ↔ s.stroke.state ≠ .none ∧ s.params.balanceStart ≤ s.stroke.advance ∧
      0 < expectedMass s ∧ q = s.stroke.weighed * 1000 / expectedMass s)

/-! ### The machine cycle -/

/-- BEGIN_STROKE (R40, R41): the first cause that holds refuses it; otherwise the account is opened or reopened, the
cycle is BORING, every cylinder is commanded EXTEND with owner ADVANCE, the group setpoints come from the quadrants, the
permit is ON and the screw starts where the gate is open. -/
def Obligations.StrokeBegins : Prop :=
  (∀ (r : Request) (s : State), r.args = [] → s.cycle ≠ .standstill →
    exec (.beginStroke r) s = .next (respond 0x20 r s.link.answer ⟨s, .wrongState, []⟩)) ∧
  (∀ (r : Request) (s : State), r.args = [] → s.cycle = .standstill → 0 < s.blocking ∨ doorOpen s = true →
    exec (.beginStroke r) s = .next (respond 0x20 r s.link.answer ⟨s, .interlock, []⟩)) ∧
  (∀ (r : Request) (s : State), r.args = [] → s.cycle = .standstill → s.blocking = 0 → doorOpen s = false →
    s.rings ≠ [] → (∀ x ∈ s.rings, x.state = .planned ∨ x.state = .building) →
    exec (.beginStroke r) s = .next (respond 0x20 r s.link.answer ⟨s, .sequence, []⟩)) ∧
  (∀ (r : Request) (s : State), r.args = [] → s.cycle = .standstill → s.blocking = 0 → doorOpen s = false →
    s.rings = [] ∨ (∃ x ∈ s.rings, x.state.isClosed = true) → referenceAtLimit s = true →
    exec (.beginStroke r) s = .next (respond 0x20 r s.link.answer ⟨s, .noRoom, []⟩)) ∧
  (∀ (r : Request) (s : State), r.args = [] → s.cycle = .standstill → s.blocking = 0 → doorOpen s = false →
    s.rings = [] ∨ (∃ x ∈ s.rings, x.state.isClosed = true) → referenceAtLimit s = false → ∃ u,
    exec (.beginStroke r) s = .next (respond 0x20 r s.link.answer ⟨u, .done, []⟩) ∧
    u = { s with
      cycle := .boring, stroke := u.stroke, outputs := u.outputs, cylinders := u.cylinders, ports := u.ports
      pointer := u.pointer } ∧
    (s.stroke.state.opensAnew = true → u.stroke =
      { state := .opened, number := if s.stroke.number = 65535 then 1 else s.stroke.number + 1
        ringPushed := (newestClosed s).map Ring.number, base := referenceMean s, high := referenceMean s }) ∧
    (s.stroke.state = .closed → u.stroke = { s.stroke with state := .opened, endCause := none }) ∧
    (s.stroke.state = .opened → u.stroke = s.stroke) ∧
    u.outputs[(0 : Fin 25)].value = 1 ∧ GroupsAt u (fun g => min s.quadrants[g] (ceiling s)) ∧
    (∀ i : Fin 16, command u i = .extend ∧ u.cylinders[i].owner = .advance) ∧
    GroutFollows { s with cycle := .boring } u ∧ u.outputs[(21 : Fin 25)] = s.outputs[(21 : Fin 25)] ∧
    u.outputs[(22 : Fin 25)].value = if gateOpen s then
        screwClamp u (match s.screw.mode with | .auto => s.params.screwStart | .manual => s.screw.manual)
      else 0)

/-- END_STROKE (R42): in BORING, or in STANDSTILL with the account OPEN, the account closes with cause HOST and
STROKE_ENDED is raised; from BORING the cycle becomes STANDSTILL, the permit goes OFF, the group setpoints take
HOLD_PRESSURE within the ceiling and the screw stops, while the cylinder commands stand. Otherwise WRONG_STATE. -/
def Obligations.StrokeEnds : Prop :=
  (∀ (r : Request) (s : State), r.args = [] →
    s.cycle = .boring ∨ (s.cycle = .standstill ∧ s.stroke.state = .opened) → ∃ u,
    exec (.endStroke r) s = .next (respond 0x21 r s.link.answer ⟨u, .done, []⟩) ∧
    u = { s with
      cycle := .standstill, stroke := { s.stroke with state := .closed, endCause := some .host }
      latched := s.latched ||| Notice.strokeEnded.bit, outputs := u.outputs, ports := u.ports
      pointer := u.pointer } ∧
    CommandsKept s u ∧ u.outputs[(21 : Fin 25)] = s.outputs[(21 : Fin 25)] ∧
    (s.cycle = .boring → u.outputs[(0 : Fin 25)].value = 0 ∧ GroupsAt u (fun _ => heldPressure s) ∧
      u.outputs[(22 : Fin 25)].value = 0 ∧ GroutFollows { s with cycle := .standstill } u) ∧
    (s.cycle = .standstill → u.outputs = s.outputs ∧ u.ports = s.ports ∧ u.pointer = s.pointer)) ∧
  (∀ (r : Request) (s : State), r.args = [] →
    ¬ (s.cycle = .boring ∨ (s.cycle = .standstill ∧ s.stroke.state = .opened)) →
    exec (.endStroke r) s = .next (respond 0x21 r s.link.answer ⟨s, .wrongState, []⟩))

/-- BEGIN_BUILD (R44, R125, R89): with room, a PLANNED record and the number in sequence, a CLOSED account is SPENT, the
oldest PLANNED record is BUILDING, the cycle is BUILDING, cylinders commanded LOCK are commanded EXTEND with owner
ADVANCE, the group setpoints hold, and the erector stands IDLE. Outside STANDSTILL it is refused WRONG_STATE; in it,
without room NO_ROOM, with room but no PLANNED record NOT_FOUND, and with both but out of sequence SEQUENCE. That 1 is
the number after 65 535 here too is an inference from R106 (log 15). -/
def Obligations.BuildBegins : Prop :=
  (∀ (r : Request) (s : State) (older newer : List Ring) (x : Ring), r.args = [] → s.cycle = .standstill →
    RoomForRing s → s.rings = older ++ x :: newer → (∀ y ∈ older, y.state ≠ .planned) → x.state = .planned →
    (∀ y, newestClosed s = some y → (if y.number = 65535 then 1 else y.number + 1) = x.number) → ∃ u,
    exec (.beginBuild r) s = .next (respond 0x22 r s.link.answer ⟨u, .done, []⟩) ∧
    u = { s with
      cycle := .building, stroke := u.stroke, rings := older ++ { x with state := .building } :: newer
      place := { s.place with erector := .idle, current := none, interrupted := none }
      outputs := u.outputs, cylinders := u.cylinders, ports := u.ports, pointer := u.pointer } ∧
    u.stroke = (if s.stroke.state = .closed then { s.stroke with state := .spent } else s.stroke) ∧
    (∀ i : Fin 16, command s i = .lock → command u i = .extend ∧ u.cylinders[i].owner = .advance) ∧
    (∀ i : Fin 16, command s i ≠ .lock →
      u.outputs[cylinderOutput i] = s.outputs[cylinderOutput i] ∧ u.cylinders[i] = s.cylinders[i]) ∧
    GroutFollows { s with cycle := .building } u ∧ GroupsAt u (fun _ => heldPressure s) ∧
    u.outputs[(0 : Fin 25)].value = 0 ∧ u.outputs[(21 : Fin 25)].value = 0 ∧ u.outputs[(22 : Fin 25)].value = 0) ∧
  (∀ (r : Request) (s : State), r.args = [] → s.cycle = .standstill →
    s.stroke.state = .opened ∨ s.stroke.state = .spent ∨ (s.stroke.state = .closed ∧
      s.stroke.advance < s.params.ringWidth.getD 0 ∧ referenceAtLimit s = false) →
    exec (.beginBuild r) s = .next (respond 0x22 r s.link.answer ⟨s, .noRoom, []⟩)) ∧
  (∀ (r : Request) (s : State), r.args = [] → s.cycle = .standstill → RoomForRing s →
    (∀ y ∈ s.rings, y.state ≠ .planned) →
    exec (.beginBuild r) s = .next (respond 0x22 r s.link.answer ⟨s, .notFound, []⟩)) ∧
  (∀ (r : Request) (s : State) (older newer : List Ring) (x y : Ring), r.args = [] → s.cycle = .standstill →
    RoomForRing s → s.rings = older ++ x :: newer → (∀ z ∈ older, z.state ≠ .planned) → x.state = .planned →
    newestClosed s = some y → (if y.number = 65535 then 1 else y.number + 1) ≠ x.number →
    exec (.beginBuild r) s = .next (respond 0x22 r s.link.answer ⟨s, .sequence, []⟩)) ∧
  (∀ (r : Request) (s : State), r.args = [] → s.cycle ≠ .standstill →
    exec (.beginBuild r) s = .next (respond 0x22 r s.link.answer ⟨s, .wrongState, []⟩))

/-- ENTER_INTERVENTION and LEAVE_INTERVENTION (R46, R47): the first locks every cylinder and takes the group setpoints
to 0, and is refused INTERLOCK while the head turns; the second returns to STANDSTILL or UNCONFIGURED by the configured
flag with the cylinders still LOCK, and is refused INTERLOCK while any tool record is LOCKED_OUT. In any other cycle
state each is refused WRONG_STATE. -/
def Obligations.Interventions : Prop :=
  (∀ (r : Request) (s : State), r.args = [] → s.cycle = .standstill → headTurning s = false → ∃ u,
    exec (.enterIntervention r) s = .next (respond 0x23 r s.link.answer ⟨u, .done, []⟩) ∧
    u = { s with
      cycle := .intervention, outputs := u.outputs, cylinders := u.cylinders, ports := u.ports
      pointer := u.pointer } ∧
    AllLocked s u ∧ GroupsAt u (fun _ => 0) ∧ u.outputs[(0 : Fin 25)].value = 0 ∧
    u.outputs[(22 : Fin 25)].value = 0 ∧ GroutFollows { s with cycle := .intervention } u) ∧
  (∀ (r : Request) (s : State), r.args = [] → s.cycle = .standstill → headTurning s = true →
    exec (.enterIntervention r) s = .next (respond 0x23 r s.link.answer ⟨s, .interlock, []⟩)) ∧
  (∀ (r : Request) (s : State), r.args = [] → s.cycle = .intervention →
    (∀ i : Fin 64, s.tools[i].state ≠ .lockedOut) → ∃ u,
    exec (.leaveIntervention r) s = .next (respond 0x24 r s.link.answer ⟨u, .done, []⟩) ∧
    u = { s with
      cycle := if s.configured then .standstill else .unconfigured, outputs := u.outputs, ports := u.ports
      pointer := u.pointer } ∧
    CommandsKept s u ∧ GroupsAt u (fun _ => if s.configured then heldPressure s else 0) ∧
    GroutFollows { s with cycle := u.cycle } u) ∧
  (∀ (r : Request) (i : Fin 64) (s : State), r.args = [] → s.cycle = .intervention → s.tools[i].state = .lockedOut →
    exec (.leaveIntervention r) s = .next (respond 0x24 r s.link.answer ⟨s, .interlock, []⟩)) ∧
  (∀ (r : Request) (s : State), r.args = [] →
    (s.cycle ≠ .standstill →
      exec (.enterIntervention r) s = .next (respond 0x23 r s.link.answer ⟨s, .wrongState, []⟩)) ∧
    (s.cycle ≠ .intervention →
      exec (.leaveIntervention r) s = .next (respond 0x24 r s.link.answer ⟨s, .wrongState, []⟩)))

/-- OVER_THRUST (R48, R49, R50, R95, R139): a group pressure sample above P_MAX plus a tenth of it, after clamping,
trips the cycle and takes every output to its safe value; in TRIPPED it sets further causes alone; at or below the
threshold it changes the channel record alone. -/
def Obligations.OverThrustTrips : Prop :=
  (∀ (c : Fin 30) (v : Word16) (s : State), 16 ≤ c.val → c.val ≤ 19 →
    s.params.pMax + s.params.pMax / 10 < min v.toNat 45000 → s.cycle ≠ .tripped → GroutLaw s → ∃ t,
    exec (.sampleArrival c v) s = .next t ∧
    t = { s with
      channels := t.channels, cycle := .tripped, tripCause := some .overThrust, outputs := t.outputs
      cylinders := t.cylinders, ports := t.ports, latched := t.latched, feed := t.feed, place := t.place } ∧
    t.outputs[(0 : Fin 25)].value = 0 ∧ GroupsAt t (fun _ => 0) ∧ AllLocked s t ∧
    t.outputs[(22 : Fin 25)].value = 0 ∧ t.outputs[(23 : Fin 25)].value = 255 ∧
    t.outputs[(24 : Fin 25)].value = 0 ∧
    (∀ p : Fin 6, t.ports[p].state = if s.ports[p].state = .serving then .idle else s.ports[p].state) ∧
    (∀ st, s.place.erector = .working st → t.place.erector = .halted ∧ t.place.interrupted = some st ∧
      t.place.timer = { s.place.timer with running := false } ∧ t.outputs[(21 : Fin 25)].value = 3 ∧
      t.latched = s.latched ||| Notice.buildAborted.bit) ∧
    (s.place.erector = .idle → t.place = s.place ∧ t.feed = s.feed ∧ t.latched = s.latched ∧
      t.outputs[(21 : Fin 25)].value = 3) ∧
    (s.place.erector = .halted → t.place = s.place ∧ t.feed = s.feed ∧ t.latched = s.latched ∧
      t.outputs[(21 : Fin 25)] = s.outputs[(21 : Fin 25)])) ∧
  (∀ (c : Fin 30) (v : Word16) (s : State), 16 ≤ c.val → c.val ≤ 19 →
    s.params.pMax + s.params.pMax / 10 < min v.toNat 45000 → s.cycle = .tripped → ∃ t,
    exec (.sampleArrival c v) s = .next t ∧ t = { s with channels := t.channels, furtherCauses := true }) ∧
  (∀ (c : Fin 30) (v : Word16) (s : State), 16 ≤ c.val → c.val ≤ 19 →
    min v.toNat 45000 ≤ s.params.pMax + s.params.pMax / 10 → ∃ t,
    exec (.sampleArrival c v) s = .next t ∧ t = { s with channels := t.channels })

/-- CLEAR_TRIP (R51): refused INTERLOCK while STOP is asserted; taken, an OPEN account closes with cause TRIP, the
causes are forgotten, the cycle returns to BUILDING, STANDSTILL or UNCONFIGURED, the cylinders stay LOCK as they were
commanded and a halted placement stays HALTED. -/
def Obligations.TripCleared : Prop :=
  (∀ (r : Request) (s : State), r.args = [] → s.cycle = .tripped → stopAsserted s = true →
    exec (.clearTrip r) s = .next (respond 0x25 r s.link.answer ⟨s, .interlock, []⟩)) ∧
  (∀ (r : Request) (s : State), r.args = [] → s.cycle ≠ .tripped →
    exec (.clearTrip r) s = .next (respond 0x25 r s.link.answer ⟨s, .wrongState, []⟩)) ∧
  (∀ (r : Request) (s : State), r.args = [] → s.cycle = .tripped → stopAsserted s = false → ∃ u,
    exec (.clearTrip r) s = .next (respond 0x25 r s.link.answer ⟨u, .done, []⟩) ∧
    u = { s with
      cycle := u.cycle, tripCause := none, furtherCauses := false, stroke := u.stroke, latched := u.latched
      outputs := u.outputs, ports := u.ports, pointer := u.pointer } ∧
    u.cycle = (if s.rings.any (fun x => x.state == .building) then .building
      else if s.configured then .standstill else .unconfigured) ∧
    (s.stroke.state = .opened → u.stroke = { s.stroke with state := .closed, endCause := some .trip } ∧
      u.latched = s.latched ||| Notice.strokeEnded.bit) ∧
    (s.stroke.state ≠ .opened → u.stroke = s.stroke ∧ u.latched = s.latched) ∧
    CommandsKept s u ∧ u.outputs[(21 : Fin 25)] = s.outputs[(21 : Fin 25)] ∧
    GroupsAt u (fun _ => if u.cycle = .unconfigured then 0 else heldPressure s) ∧
    GroutFollows { s with cycle := u.cycle } u ∧ u.outputs[(0 : Fin 25)].value = 0 ∧
    u.outputs[(22 : Fin 25)].value = 0)

/-! ### Parameters -/

/-- SET_PARAM (R171, R172, R173, R175), for every row that carries it: an unknown identifier is refused BAD_ARGUMENT; a
geometry parameter is refused WRONG_STATE outside UNCONFIGURED and STANDSTILL or while the account is OPEN or CLOSED,
RING_WIDTH and TAIL_LENGTH also while a closed ring is held (R118); elsewhere a value in its range is stored and any
other refused BAD_ARGUMENT, and the configured flag follows a mandatory parameter (R37, R174). That the state is judged
before the value is an inference (log 21). A tuning value is taken in every cycle state, stored at the nearest end of
its range (section 11.1, R163) where it lies outside it, and answered DONE_CLAMPED exactly there; that this holds of a
value already held too is the model's choice (log 25). What a tuning parameter changes beside itself it changes at once
(R91, R93, R103, R130, R144, R147). CHECK_CAPTURE is emptied by 0 alone. -/
def Obligations.SetParameters : Prop :=
  ∀ (c : Request → Instr), c = .setParamGeometry ∨ c = .setParamTuning ∨ c = .checkCaptureEmpty →
  (∀ (r : Request) (s : State), r.args.length = 5 → ParamId.ofCode (field r.args 0 1) = none →
    exec (c r) s = .next (respond 0x10 r s.link.answer ⟨s, .badArgument, []⟩)) ∧
  (∀ (r : Request) (g : Geometry) (s : State), r.args.length = 5 →
    ParamId.ofCode (field r.args 0 1) = some (.geometry g) →
    (s.cycle ≠ .unconfigured ∧ s.cycle ≠ .standstill) ∨ s.stroke.state = .opened ∨ s.stroke.state = .closed ∨
      ((g = .ringWidth ∨ g = .tailLength) ∧ ∃ x ∈ s.rings, x.state.isClosed = true) →
    exec (c r) s = .next (respond 0x10 r s.link.answer ⟨s, .wrongState, []⟩)) ∧
  (∀ (r : Request) (g : Geometry) (s : State), r.args.length = 5 →
    ParamId.ofCode (field r.args 0 1) = some (.geometry g) → s.cycle = .unconfigured ∨ s.cycle = .standstill →
    s.stroke.state = .none ∨ s.stroke.state = .spent →
    (g = .ringWidth ∨ g = .tailLength → ∀ x ∈ s.rings, x.state.isClosed = false) →
    ((∀ p, ¬ GeometryTakes g r.args s.params p) →
      exec (c r) s = .next (respond 0x10 r s.link.answer ⟨s, .badArgument, []⟩)) ∧
    (∀ p, GeometryTakes g r.args s.params p → ∃ u,
      exec (c r) s = .next (respond 0x10 r s.link.answer ⟨u, .done, r.args⟩) ∧
      u = { s with
        params := p, configured := u.configured, cycle := u.cycle, outputs := u.outputs, cylinders := u.cylinders
        ports := u.ports, pointer := u.pointer } ∧
      (g = .refCylinders ∨ g = .strokeLimit ∨ g = .minHold → u = { s with params := p }) ∧
      (g = .faceArea ∨ g = .voidArea ∨ g = .ringWidth ∨ g = .tailLength →
        u.configured = (p.faceArea.isSome && p.voidArea.isSome && p.ringWidth.isSome && p.tailLength.isSome &&
          decide (0 < s.positions)) ∧
        (u.configured = s.configured → u = { s with params := p }) ∧
        (s.configured = false → u.configured = true →
          (s.cycle = .unconfigured → u.cycle = .standstill ∧ GroupsAt u (fun _ => heldPressure s) ∧
            CommandsKept s u ∧ u.cylinders = s.cylinders ∧
            GroutFollows { s with params := p, cycle := .standstill } u) ∧
          (s.cycle = .standstill → u = { s with params := p, configured := true }))))) ∧
  (∀ (r : Request) (k : Tuning) (s : State), r.args.length = 5 →
    ParamId.ofCode (field r.args 0 1) = some (.tuning k) → ∃ u v,
    exec (c r) s = .next (respond 0x10 r s.link.answer
      ⟨u, if v = field r.args 1 4 then .done else .doneClamped, r.args.take 1 ++ beBytes 4 v⟩) ∧
    getTuning u.params k = v ∧ (∀ k' : Tuning, k' ≠ k → getTuning u.params k' = getTuning s.params k') ∧
    (∀ g : Geometry, getGeometry u.params g = getGeometry s.params g) ∧
    ((tuningRange s.params k).1 ≤ (tuningRange s.params k).2 →
      v = if field r.args 1 4 < (tuningRange s.params k).1 then (tuningRange s.params k).1
        else if (tuningRange s.params k).2 < field r.args 1 4 then (tuningRange s.params k).2
        else field r.args 1 4) ∧
    u.cycle = s.cycle ∧ u.stroke = s.stroke ∧ u.rings = s.rings ∧ u.tools = s.tools ∧ u.feed = s.feed ∧
    TuningActs k v s u) ∧
  (∀ (p : Params) (k : Tuning), tuningRange p k = match k with
    | .jumpLimit => (10, 2000) | .retractedAt => (0, 2000) | .retractTime => (1000, 300000)
    | .erectorStepTime => (1000, 300000) | .blockTime => (1000, 300000) | .staleTime => (20, 5000)
    | .pMax => (1000, 45000) | .pDerate => (0, p.pMax) | .holdPressure => (0, p.pMax)
    | .groundFactor => (100, 4000) | .density => (1000, 3000) | .balanceStart => (0, 15000)
    | .balanceHigh => (500, 2000) | .balanceLow => (500, 2000) | .faceTarget => (0, 1000)
    | .screwMin => (0, min 250 (min p.screwMax p.screwBalanceCeiling)) | .screwMax => (p.screwMin, 250)
    | .screwBalanceCeiling => (p.screwMin, 250) | .screwStart => (0, 250) | .screwGain => (0, 10000)
    | .screwStep => (1, 50) | .groutFactor => (100, 250) | .pulseWeight => (10, 1000)
    | .shotVolume => (500, 50000) | .groutRate => (0, p.pumpMax) | .pumpMax => (0, 4000)) ∧
  (∀ (r : Request) (s : State), r.args.length = 5 → field r.args 0 1 = 0x40 →
    exec (c r) s = .next (respond 0x10 r s.link.answer
      (if field r.args 1 4 = 0 then
        ⟨{ s with checkCaptured := none, checkFailures := 0 }, .done, [0x40, 0x00, 0x00, 0x00, 0x00]⟩
      else ⟨s, .badArgument, []⟩)))

/-- What SET_PARAM answers as stored is what GET_PARAM returns next, with its flag saying that a value is held; a taken
mandatory parameter is marked set (R171, R174, R175). In every state GET_PARAM returns, for each identifier of the table
of section 11.1, the value held with the flag 1, and for a mandatory parameter that has not been set the flag 0 and the
value 0; it changes nothing. -/
def Obligations.ParametersReadBack : Prop :=
  (∀ (c : Request → Instr) (r r' : Request) (s : State),
    c = .setParamGeometry ∨ c = .setParamTuning ∨ c = .checkCaptureEmpty → r.args.length = 5 →
    r'.args = r.args.take 1 → ∃ t, exec (c r) s = .next t ∧
      (t.link.answer.status.refused = false → ∃ results, t.link.answer.results = r'.args ++ results ∧
        exec (.getParam r') t = .next (respond 0x11 r' t.link.answer ⟨t, .done, r'.args ++ [0x01] ++ results⟩))) ∧
  (∀ (r : Request) (s : State), r.args.length = 1 → ParamId.ofCode (field r.args 0 1) = none →
    exec (.getParam r) s = .next (respond 0x11 r s.link.answer ⟨s, .badArgument, []⟩)) ∧
  (∀ (id : Nat) (p : ParamId), ParamId.ofCode id = some p ↔ (id, p) ∈ paramIds) ∧
  (∀ (r : Request) (b : Byte) (p : ParamId) (s : State), r.args = [b] → (b.toNat, p) ∈ paramIds →
    let returns := fun bytes : List Byte =>
      exec (.getParam r) s = .next (respond 0x11 r s.link.answer ⟨s, .done, b :: bytes⟩)
    let holds := fun v : Nat => returns (0x01 :: beBytes 4 v)
    let mandatory := fun v : Option Nat =>
      (∀ n, v = some n → holds n) ∧ (v = none → returns [0x00, 0x00, 0x00, 0x00, 0x00])
    match p with
    | .geometry .faceArea => mandatory s.params.faceArea
    | .geometry .voidArea => mandatory s.params.voidArea
    | .geometry .ringWidth => mandatory s.params.ringWidth
    | .geometry .tailLength => mandatory s.params.tailLength
    | .geometry .refCylinders => returns (0x01 :: s.params.refCylinders.toList.map fun i => BitVec.ofNat 8 i.val)
    | .geometry .strokeLimit => holds s.params.strokeLimit
    | .geometry .minHold => holds s.params.minHold
    | .tuning k => holds (match k with
        | .jumpLimit => s.params.jumpLimit | .retractedAt => s.params.retractedAt
        | .retractTime => s.params.retractTime | .erectorStepTime => s.params.erectorStepTime
        | .blockTime => s.params.blockTime | .staleTime => s.params.staleTime | .pMax => s.params.pMax
        | .pDerate => s.params.pDerate | .holdPressure => s.params.holdPressure
        | .groundFactor => s.params.groundFactor | .density => s.params.density
        | .balanceStart => s.params.balanceStart | .balanceHigh => s.params.balanceHigh
        | .balanceLow => s.params.balanceLow | .faceTarget => s.params.faceTarget | .screwMin => s.params.screwMin
        | .screwMax => s.params.screwMax | .screwBalanceCeiling => s.params.screwBalanceCeiling
        | .screwStart => s.params.screwStart | .screwGain => s.params.screwGain
        | .screwStep => s.params.screwStep | .groutFactor => s.params.groutFactor
        | .pulseWeight => s.params.pulseWeight | .shotVolume => s.params.shotVolume
        | .groutRate => s.params.groutRate | .pumpMax => s.params.pumpMax)
    | .checkCapture => returns [0x01, if s.checkCaptured.isSome then 0x01 else 0x00,
        BitVec.ofNat 8 ((s.checkCaptured.map Fin.val).getD 0), BitVec.ofNat 8 s.checkFailures, 0x00]) ∧
  (∀ (r : Request) (s : State), r.args = [0x40] →
    exec (.getParam r) s = .next (respond 0x11 r s.link.answer ⟨s, .done,
      [0x40, 0x01, if s.checkCaptured.isSome then 0x01 else 0x00,
        BitVec.ofNat 8 ((s.checkCaptured.map Fin.val).getD 0), BitVec.ofNat 8 s.checkFailures, 0x00]⟩))

/-! ### The tool table -/

/-- SET_LOAD_POINTER sets the load pointer to a position 0 to 63 and nothing else; it reads no record (R61). TOOL_LOAD
(R62, R63, R64): arguments that pass the checks are written at the load pointer with a fresh check code, the pointer
advances modulo 64, and the summary follows; where the record enters or leaves ABSENT the configured flag is judged
again, and the cycle follows it between UNCONFIGURED and STANDSTILL (R37); a serial another sound record holds is
refused DUPLICATE; the entry into WATCH or WORN raises its notice (R56; that a tool loaded over another in the same
state is no entry is an inference, log 16); the duplicate search turns a damaged record SUSPECT; bad arguments and other
cycle states are refused. -/
def Obligations.ToolsLoaded : Prop :=
  (∀ (r : Request) (b : Byte) (i : Fin 64) (s : State), r.args = [b] → b.toNat = i.val → s.cycle ≠ .tripped →
    exec (.setLoadPointer r) s = .next (respond 0x30 r s.link.answer ⟨{ s with loadPointer := i }, .done, []⟩)) ∧
  (∀ (r : Request) (b : Byte) (s : State), r.args = [b] → 64 ≤ b.toNat → s.cycle ≠ .tripped →
    exec (.setLoadPointer r) s = .next (respond 0x30 r s.link.answer ⟨s, .badArgument, []⟩)) ∧
  (∀ (r : Request) (b : Byte) (s : State), r.args = [b] → s.cycle = .tripped →
    exec (.setLoadPointer r) s = .next (respond 0x30 r s.link.answer ⟨s, .wrongState, []⟩)) ∧
  (∀ (r : Request) (x : ToolFields) (s : State), r.args.length = 22 → loadStates s.cycle = true → Loads r.args x →
    (∀ serial, x.serial = some serial → OthersSound s.loadPointer s ∧ SerialFree s.loadPointer serial s) → ∃ u,
    exec (.toolLoad r) s = .next (respond 0x31 r s.link.answer ⟨u, .done, []⟩) ∧
    u.tools = s.tools.set s.loadPointer (Tool.fresh x) ∧ u.loadPointer.val = (s.loadPointer.val + 1) % 64 ∧
    u.blocking = countBlocking u.tools ∧ u.positions = countPositions u.tools ∧ u.gaugeWorn = anyGaugeWorn u.tools ∧
    u = { s with
      tools := u.tools, loadPointer := u.loadPointer, latched := u.latched, blocking := u.blocking
      positions := u.positions, gaugeWorn := u.gaugeWorn, configured := u.configured, cycle := u.cycle
      outputs := u.outputs, cylinders := u.cylinders, ports := u.ports, pointer := u.pointer } ∧
    u.configured = (if (s.tools[s.loadPointer].state = .absent ↔ x.state = .absent) then s.configured
      else s.params.faceArea.isSome && s.params.voidArea.isSome && s.params.ringWidth.isSome &&
        s.params.tailLength.isSome && decide (0 < u.positions)) ∧
    u.cycle = (if s.configured = false ∧ u.configured = true ∧ s.cycle = .unconfigured then .standstill
      else if s.configured = true ∧ u.configured = false ∧ s.cycle = .standstill then .unconfigured else s.cycle) ∧
    (u.cycle = .unconfigured → s.cycle = .standstill → AllLocked s u) ∧
    (¬ (u.cycle = .unconfigured ∧ s.cycle = .standstill) → CommandsKept s u ∧ u.cylinders = s.cylinders) ∧
    (u.cycle ≠ s.cycle → GroupsAt u (fun _ => if u.cycle = .standstill then heldPressure u else 0) ∧
      GroutFollows { s with cycle := u.cycle } u) ∧
    (u.cycle = s.cycle → u.ports = s.ports ∧ u.pointer = s.pointer ∧ OutputsKeptBut [0, 1, 2, 3, 4] s u ∧
      GroupsFollow s u ∧ (if s.tools[s.loadPointer].state.blocks = x.state.blocks then
          u.outputs[(0 : Fin 25)] = s.outputs[(0 : Fin 25)]
        else u.outputs[(0 : Fin 25)].value = 0)) ∧
    (u.cycle ≠ s.cycle → u.outputs[(0 : Fin 25)].value = 0 ∧ u.outputs[(22 : Fin 25)].value = 0 ∧
      u.outputs[(21 : Fin 25)] = s.outputs[(21 : Fin 25)]) ∧
    u.latched = (if x.state = .worn ∧ s.tools[s.loadPointer].state ≠ .worn then s.latched ||| Notice.toolWorn.bit
      else if x.state = .watch ∧ s.tools[s.loadPointer].state ≠ .watch ∧ s.tools[s.loadPointer].state ≠ .worn then
        s.latched ||| Notice.toolWatch.bit
      else s.latched)) ∧
  (∀ (r : Request) (x : ToolFields) (serial : Nat) (j : Fin 64) (s : State), r.args.length = 22 →
    loadStates s.cycle = true → Loads r.args x → x.serial = some serial → OthersSound s.loadPointer s →
    j ≠ s.loadPointer → s.tools[j].serial = some serial →
    exec (.toolLoad r) s = .next (respond 0x31 r s.link.answer ⟨s, .duplicate, []⟩)) ∧
  (∀ (r : Request) (x : ToolFields) (j : Fin 64) (s : State), r.args.length = 22 → loadStates s.cycle = true →
    Loads r.args x → x.serial.isSome = true → j ≠ s.loadPointer → ∃ t, exec (.toolLoad r) s = .next t ∧
    t.tools[j] = if s.tools[j].damaged then Tool.fresh { state := .suspect } else s.tools[j]) ∧
  (∀ (r : Request) (s : State), r.args.length = 22 → loadStates s.cycle = true → (∀ x, ¬ Loads r.args x) →
    exec (.toolLoad r) s = .next (respond 0x31 r s.link.answer ⟨s, .badArgument, []⟩)) ∧
  (∀ (r : Request) (s : State), r.args.length = 22 → loadStates s.cycle = false →
    exec (.toolLoad r) s = .next (respond 0x31 r s.link.answer ⟨s, .wrongState, []⟩))

/-- A storage fault changes no field of any record; the next read of the record finds it (R72, R73, R74): the record
becomes SUSPECT with every other field at its initial value, the check capture and RECORD_CHECK_FAILED record it, and
BORING trips with RECORD_CHECK. The reads are those of TOOL_READ, which returns a sound record's fields and changes
nothing (R65); of a request that names the record, which is then refused WRONG_STATE (R60); of the duplicate search of
TOOL_FIT over the other records, a damaged one of which holds no serial (R64, R70); and of an accrual, which finds every
damaged record that is not SUSPECT and gives each sound one with a tool its duty (R80, R81, R83). Of several failures
found at once the first is captured and each is counted (R73), and only the first trips (R74). -/
def Obligations.StorageFaultFoundByReading : Prop :=
  (∀ (i : Fin 64) (s : State), exec (.storageFault i) s =
    .next { s with tools := s.tools.set i { s.tools[i] with damaged := true } }) ∧
  (∀ (r : Request) (b : Byte) (i : Fin 64) (s : State), r.args = [b] → b.toNat = i.val →
    s.tools[i].damaged = true → ∃ u,
    exec (.toolRead r) s = .next (respond 0x32 r s.link.answer
      ⟨u, .done, beBytes 1 i.val ++ [0x06] ++ List.replicate 31 0x00⟩) ∧ FailureFound i s u) ∧
  (∀ (r : Request) (b : Byte) (i : Fin 64) (s : State), r.args = [b] → b.toNat = i.val →
    s.tools[i].damaged = false →
    exec (.toolRead r) s = .next (respond 0x32 r s.link.answer ⟨s, .done,
      beBytes 1 i.val ++ beBytes 1 s.tools[i].state.code ++ beBytes 1 s.tools[i].zone.code ++
        beBytes 1 s.tools[i].kind.code ++ beBytes 2 s.tools[i].radius ++ beBytes 3 (s.tools[i].serial.getD 0) ++
        beBytes 2 (s.tools[i].fittedAt.getD 0) ++ beBytes 4 s.tools[i].duty ++ beBytes 6 s.tools[i].remainder ++
        beBytes 4 s.tools[i].watch ++ beBytes 4 s.tools[i].wear ++ beBytes 4 s.tools[i].lifetime⟩)) ∧
  (∀ (r : Request) (b : Byte) (s : State), r.args = [b] → 64 ≤ b.toNat →
    exec (.toolRead r) s = .next (respond 0x32 r s.link.answer ⟨s, .badArgument, []⟩)) ∧
  (∀ (c : Request → Instr) (kind : Byte) (r : Request) (b : Byte) (i : Fin 64) (s : State),
    (c = .toolLockOut ∧ kind = 0x34) ∨ (c = .toolRetire ∧ kind = 0x35) ∨ (c = .toolRelease ∧ kind = 0x37) →
    r.args = [b] → b.toNat = i.val → s.cycle = .intervention → s.tools[i].damaged = true → ∃ u,
    exec (c r) s = .next (respond kind r s.link.answer ⟨u, .wrongState, []⟩) ∧ FailureFound i s u) ∧
  (∀ (c : Request → Instr) (r : Request) (i : Fin 64) (sel : Nat) (s : State),
    c = .toolAmendLimits ∨ c = .toolAmendDuty → r.args.length = 14 → field r.args 0 1 = i.val →
    field r.args 1 1 = sel → sel = 1 ∨ sel = 2 ∨ sel = 3 → (sel = 1 → s.cycle ≠ .tripped) →
    (sel ≠ 1 → s.cycle = .standstill ∨ s.cycle = .intervention) →
    (sel ≠ 2 → field r.args 2 4 ≤ field r.args 6 4) → s.tools[i].damaged = true → ∃ u,
    exec (c r) s = .next (respond 0x33 r s.link.answer ⟨u, .wrongState, []⟩) ∧ FailureFound i s u) ∧
  (∀ (r : Request) (i : Fin 64) (s : State), r.args.length = 6 → field r.args 0 1 = i.val →
    field r.args 1 3 ≠ 0 → s.cycle = .intervention →
    (s.tools[i].damaged = true → ∃ u,
      exec (.toolFit r) s = .next (respond 0x36 r s.link.answer ⟨u, .wrongState, []⟩) ∧ FailureFound i s u) ∧
    (s.tools[i].damaged = false → s.tools[i].state = .lockedOut → s.tools[i].serial = none → ∃ u held,
      held = (List.finRange 64).any (fun j =>
        j != i && !s.tools[j].damaged && s.tools[j].serial == some (field r.args 1 3)) ∧
      exec (.toolFit r) s = .next (respond 0x36 r s.link.answer ⟨u, if held then .duplicate else .done, []⟩) ∧
      (∀ j : Fin 64, j ≠ i →
        u.tools[j] = if s.tools[j].damaged then Tool.fresh { state := .suspect } else s.tools[j]) ∧
      u.tools[i] = (if held then s.tools[i] else Tool.fresh { s.tools[i].toToolFields with
        serial := some (field r.args 1 3)
        fittedAt := if field r.args 4 2 = 0 then none else some (field r.args 4 2), duty := 0, remainder := 0 }) ∧
      (∀ j : Fin 64, j ≠ i → s.tools[j].damaged = true → (∀ k : Fin 64, k ≠ i → k < j → s.tools[k].damaged = false) →
        u.checkCaptured = some (s.checkCaptured.getD j) ∧
        u.latched.getLsbD Notice.recordCheckFailed.number = true ∧
        u.checkFailures =
          min (s.checkFailures + (List.finRange 64).countP (fun k => k != i && s.tools[k].damaged)) 255) ∧
      u.cycle = s.cycle ∧ u.tripCause = s.tripCause)) ∧
  (∀ (v : Word16) (n : Nat) (s : State), s.angle.rebase = false → s.angle.prev < 65536 → 0 < n → n ≤ 8192 →
    v.toNat = (s.angle.prev + n) % 65536 ∨ (v.toNat + n) % 65536 = s.angle.prev → ∃ t,
    exec (.sampleArrival 20 v) s = .next t ∧
    (∀ i : Fin 64, s.tools[i].state = .suspect → t.tools[i] = s.tools[i]) ∧
    (∀ i : Fin 64, s.tools[i].state ≠ .suspect → s.tools[i].damaged = true →
      t.tools[i] = Tool.fresh { state := .suspect }) ∧
    (∀ i : Fin 64, s.tools[i].state ≠ .suspect → s.tools[i].damaged = false →
      (s.tools[i].serial = none → t.tools[i] = s.tools[i]) ∧
      (s.tools[i].serial.isSome = true → ∃ y, t.tools[i] = Tool.fresh y ∧
        TakesDuty n s.params.groundFactor s.tools[i].toToolFields y)) ∧
    (∀ i : Fin 64, s.tools[i].state ≠ .suspect → s.tools[i].damaged = true →
      (∀ j : Fin 64, j < i → s.tools[j].state = .suspect ∨ s.tools[j].damaged = false) →
      t.checkCaptured = some (s.checkCaptured.getD i) ∧
      t.latched.getLsbD Notice.recordCheckFailed.number = true ∧
      t.checkFailures = min (s.checkFailures +
        (List.finRange 64).countP (fun k => s.tools[k].state != .suspect && s.tools[k].damaged)) 255 ∧
      t.blocking = countBlocking t.tools ∧ t.positions = countPositions t.tools ∧
      (s.cycle = .boring → s.outputs[(0 : Fin 25)].value = 1 ∨ n ≤ 16 → t.cycle = .tripped ∧
        t.tripCause = some .recordCheck ∧ t.furtherCauses = s.furtherCauses ∧ AllLocked s t ∧
        t.outputs[(0 : Fin 25)].value = 0 ∧ GroupsAt t (fun _ => 0)) ∧
      (s.cycle = .tripped → s.outputs[(0 : Fin 25)].value = 1 ∨ n ≤ 16 → t.cycle = .tripped ∧
        t.tripCause = s.tripCause ∧ t.furtherCauses = s.furtherCauses)))

/-- TOOL_AMEND (R66, R67, R55, R57), under either of its rows: selector 1 writes the limits, 2 the duty, 3 both; the
duty clears the remainder and moves the lifetime duty by the same difference; the state is derived again from what is
then stored, and of the outputs only the group setpoints may change, with the gauge-worn flag (R59, R93). Refused are a
watch limit above the wear limit, a position above 63 and a selector outside 1 to 3 with BAD_ARGUMENT; TRIPPED, a duty
outside STANDSTILL and INTERVENTION, an ABSENT or SUSPECT record, and a duty where no tool is present with
WRONG_STATE. -/
def Obligations.ToolAmended : Prop :=
  ∀ (c : Request → Instr), c = .toolAmendLimits ∨ c = .toolAmendDuty →
  (∀ (r : Request) (i : Fin 64) (sel : Nat) (s : State), r.args.length = 14 → field r.args 0 1 = i.val →
    field r.args 1 1 = sel → sel = 1 ∨ sel = 2 ∨ sel = 3 → s.tools[i].damaged = false →
    s.tools[i].state ≠ .absent → s.tools[i].state ≠ .suspect →
    (sel = 1 → s.cycle ≠ .tripped) →
    (sel ≠ 1 → (s.cycle = .standstill ∨ s.cycle = .intervention) ∧ s.tools[i].serial.isSome = true) →
    (sel ≠ 2 → field r.args 2 4 ≤ field r.args 6 4) → ∃ u x,
    exec (c r) s = .next (respond 0x33 r s.link.answer ⟨u, .done, []⟩) ∧
    u.tools = s.tools.set i (Tool.fresh x) ∧
    x = { s.tools[i].toToolFields with
      state := x.state, duty := x.duty, remainder := x.remainder, watch := x.watch, wear := x.wear
      lifetime := x.lifetime } ∧
    (x.watch, x.wear) =
      (if sel = 2 then (s.tools[i].watch, s.tools[i].wear) else (field r.args 2 4, field r.args 6 4)) ∧
    (sel = 1 → x.duty = s.tools[i].duty ∧ x.remainder = s.tools[i].remainder ∧ x.lifetime = s.tools[i].lifetime) ∧
    (sel ≠ 1 → x.duty = field r.args 10 4 ∧ x.remainder = 0 ∧
      x.lifetime = (if s.tools[i].duty ≤ field r.args 10 4 then
          min (s.tools[i].lifetime + (field r.args 10 4 - s.tools[i].duty)) 4294967295
        else s.tools[i].lifetime - (s.tools[i].duty - field r.args 10 4))) ∧
    x.state = (if s.tools[i].state = .lockedOut ∨ s.tools[i].state = .empty then s.tools[i].state
      else wearState x.duty x.watch x.wear) ∧
    u.latched = (if x.state = .worn ∧ s.tools[i].state ≠ .worn then s.latched ||| Notice.toolWorn.bit
      else if x.state = .watch ∧ s.tools[i].state = .fitted then s.latched ||| Notice.toolWatch.bit
      else s.latched) ∧
    u.gaugeWorn = anyGaugeWorn u.tools ∧
    u = { s with
      tools := u.tools, latched := u.latched, blocking := countBlocking u.tools
      positions := countPositions u.tools, gaugeWorn := u.gaugeWorn, outputs := u.outputs } ∧
    OutputsKeptBut [1, 2, 3, 4] s u ∧ GroupsFollow s u) ∧
  (∀ (r : Request) (sel : Nat) (s : State), r.args.length = 14 → field r.args 0 1 < 64 → field r.args 1 1 = sel →
    sel = 1 ∨ sel = 3 → (sel = 1 → s.cycle ≠ .tripped) → (sel = 3 → s.cycle = .standstill ∨ s.cycle = .intervention) →
    field r.args 6 4 < field r.args 2 4 →
    exec (c r) s = .next (respond 0x33 r s.link.answer ⟨s, .badArgument, []⟩)) ∧
  (∀ (r : Request) (i : Fin 64) (sel : Nat) (s : State), r.args.length = 14 → field r.args 0 1 = i.val →
    field r.args 1 1 = sel → sel = 1 ∨ sel = 2 ∨ sel = 3 → (sel = 1 → s.cycle ≠ .tripped) →
    (sel ≠ 1 → s.cycle = .standstill ∨ s.cycle = .intervention) → (sel ≠ 2 → field r.args 2 4 ≤ field r.args 6 4) →
    s.tools[i].damaged = false →
    s.tools[i].state = .absent ∨ s.tools[i].state = .suspect ∨ (sel ≠ 1 ∧ s.tools[i].serial = none) →
    exec (c r) s = .next (respond 0x33 r s.link.answer ⟨s, .wrongState, []⟩)) ∧
  (∀ (r : Request) (s : State), r.args.length = 14 → field r.args 1 1 = 2 ∨ field r.args 1 1 = 3 →
    s.cycle ≠ .standstill → s.cycle ≠ .intervention →
    exec (c r) s = .next (respond 0x33 r s.link.answer ⟨s, .wrongState, []⟩)) ∧
  (∀ (r : Request) (s : State), r.args.length = 14 → s.cycle = .standstill ∨ s.cycle = .intervention →
    64 ≤ field r.args 0 1 ∨ field r.args 1 1 = 0 ∨ 3 < field r.args 1 1 →
    exec (c r) s = .next (respond 0x33 r s.link.answer ⟨s, .badArgument, []⟩)) ∧
  (∀ (r : Request) (s : State), r.args.length = 14 → s.cycle = .tripped →
    exec (c r) s = .next (respond 0x33 r s.link.answer ⟨s, .wrongState, []⟩))

/-- TOOL_LOCK_OUT, TOOL_RETIRE, TOOL_FIT and TOOL_RELEASE (R68 to R71) on a sound record in INTERVENTION: what each
writes, its notice, and the summary; of the outputs the permit follows a record that comes to withhold it or ceases to
(R38), the group setpoints the gauge-worn flag (R59, R93), and no other changes. In another cycle state, and on a record
whose state is none the request acts on, each is refused WRONG_STATE; a position above 63 and a serial 0 are refused
BAD_ARGUMENT. -/
def Obligations.ToolChanged : Prop :=
  let writes := fun (kind : Byte) (r : Request) (i : Fin 64) (x : ToolFields) (s t : State) => ∃ u,
    t = respond kind r s.link.answer ⟨u, .done, []⟩ ∧ u.tools = s.tools.set i (Tool.fresh x) ∧
      u.latched = (if x.state = .worn ∧ s.tools[i].state ≠ .worn then s.latched ||| Notice.toolWorn.bit
        else if x.state = .watch ∧ s.tools[i].state = .lockedOut then s.latched ||| Notice.toolWatch.bit
        else s.latched) ∧
      u.gaugeWorn = anyGaugeWorn u.tools ∧
      u = { s with
        tools := u.tools, latched := u.latched, blocking := countBlocking u.tools
        positions := countPositions u.tools, gaugeWorn := u.gaugeWorn, outputs := u.outputs } ∧
      OutputsKeptBut [0, 1, 2, 3, 4] s u ∧ GroupsFollow s u ∧
      (if s.tools[i].state.blocks = x.state.blocks then u.outputs[(0 : Fin 25)] = s.outputs[(0 : Fin 25)]
        else u.outputs[(0 : Fin 25)].value = 0)
  (∀ (r : Request) (b : Byte) (i : Fin 64) (s : State), r.args = [b] → b.toNat = i.val → s.cycle = .intervention →
    s.tools[i].damaged = false →
    (s.tools[i].state = .empty ∨ s.tools[i].state = .fitted ∨ s.tools[i].state = .watch ∨ s.tools[i].state = .worn →
      ∃ t, exec (.toolLockOut r) s = .next t ∧
        writes 0x34 r i { s.tools[i].toToolFields with state := .lockedOut } s t) ∧
    (s.tools[i].state = .lockedOut → s.tools[i].serial.isSome = true →
      ∃ t, exec (.toolRetire r) s = .next t ∧
        writes 0x35 r i
          { s.tools[i].toToolFields with serial := none, fittedAt := none, duty := 0, remainder := 0 } s t) ∧
    (s.tools[i].state = .lockedOut →
      ∃ t, exec (.toolRelease r) s = .next t ∧
        writes 0x37 r i
          { s.tools[i].toToolFields with
            state := if s.tools[i].serial.isSome then
                (if s.tools[i].wear ≤ s.tools[i].duty then .worn
                  else if s.tools[i].watch ≤ s.tools[i].duty then .watch else .fitted)
              else .empty } s t)) ∧
  (∀ (r : Request) (i : Fin 64) (s : State), r.args.length = 6 → field r.args 0 1 = i.val →
    field r.args 1 3 ≠ 0 → s.cycle = .intervention → (∀ j : Fin 64, s.tools[j].damaged = false) →
    s.tools[i].state = .lockedOut → s.tools[i].serial = none →
    (SerialFree i (field r.args 1 3) s → ∃ t, exec (.toolFit r) s = .next t ∧
      writes 0x36 r i
        { s.tools[i].toToolFields with
          serial := some (field r.args 1 3)
          fittedAt := if field r.args 4 2 = 0 then none else some (field r.args 4 2), duty := 0, remainder := 0 } s t) ∧
    (¬ SerialFree i (field r.args 1 3) s →
      exec (.toolFit r) s = .next (respond 0x36 r s.link.answer ⟨s, .duplicate, []⟩))) ∧
  (∀ (r : Request) (b : Byte) (i : Fin 64) (s : State), r.args = [b] → b.toNat = i.val → s.cycle = .intervention →
    s.tools[i].damaged = false →
    (s.tools[i].state = .absent ∨ s.tools[i].state = .lockedOut ∨ s.tools[i].state = .suspect →
      exec (.toolLockOut r) s = .next (respond 0x34 r s.link.answer ⟨s, .wrongState, []⟩)) ∧
    (s.tools[i].state ≠ .lockedOut ∨ s.tools[i].serial = none →
      exec (.toolRetire r) s = .next (respond 0x35 r s.link.answer ⟨s, .wrongState, []⟩)) ∧
    (s.tools[i].state ≠ .lockedOut →
      exec (.toolRelease r) s = .next (respond 0x37 r s.link.answer ⟨s, .wrongState, []⟩))) ∧
  (∀ (r : Request) (i : Fin 64) (s : State), r.args.length = 6 → field r.args 0 1 = i.val →
    field r.args 1 3 ≠ 0 → s.cycle = .intervention → s.tools[i].damaged = false →
    s.tools[i].state ≠ .lockedOut ∨ s.tools[i].serial.isSome = true →
    exec (.toolFit r) s = .next (respond 0x36 r s.link.answer ⟨s, .wrongState, []⟩)) ∧
  (∀ (r : Request) (s : State), s.cycle = .intervention →
    (r.args.length = 1 → 63 < field r.args 0 1 →
      exec (.toolLockOut r) s = .next (respond 0x34 r s.link.answer ⟨s, .badArgument, []⟩) ∧
      exec (.toolRetire r) s = .next (respond 0x35 r s.link.answer ⟨s, .badArgument, []⟩) ∧
      exec (.toolRelease r) s = .next (respond 0x37 r s.link.answer ⟨s, .badArgument, []⟩)) ∧
    (r.args.length = 6 → 63 < field r.args 0 1 ∨ field r.args 1 3 = 0 →
      exec (.toolFit r) s = .next (respond 0x36 r s.link.answer ⟨s, .badArgument, []⟩))) ∧
  (∀ (r : Request) (s : State), s.cycle ≠ .intervention →
    (r.args.length = 1 →
      exec (.toolLockOut r) s = .next (respond 0x34 r s.link.answer ⟨s, .wrongState, []⟩) ∧
      exec (.toolRetire r) s = .next (respond 0x35 r s.link.answer ⟨s, .wrongState, []⟩) ∧
      exec (.toolRelease r) s = .next (respond 0x37 r s.link.answer ⟨s, .wrongState, []⟩)) ∧
    (r.args.length = 6 → exec (.toolFit r) s = .next (respond 0x36 r s.link.answer ⟨s, .wrongState, []⟩)))

/-! ### Duty accrual -/

/-- A sample of channel 20 that moves the angle by n counts, 1 to 8192, either way (R76, R79, R80, R81, R83, R86): every
record with a tool that is not SUSPECT takes the duty of n counts, saturating, its state derived again; the open account
takes the counts; with the permit off and n above 16 the part trips with ROTATION_BREACH, and not otherwise. A record
that enters WATCH or WORN raises its notice (R56), and the group setpoints follow the gauge-worn flag (R59, R93). A
record found damaged (R73) is left to StorageFaultFoundByReading. -/
def Obligations.DutyAccrues : Prop :=
  (∀ (v : Word16) (n : Nat) (s : State), s.angle.rebase = false → s.angle.prev < 65536 → 0 < n → n ≤ 8192 →
    v.toNat = (s.angle.prev + n) % 65536 ∨ (v.toNat + n) % 65536 = s.angle.prev →
    (∀ i : Fin 64, s.tools[i].state ≠ .suspect → s.tools[i].damaged = false) → ∃ t,
    exec (.sampleArrival 20 v) s = .next t ∧ t.angle = ⟨v.toNat, false⟩ ∧
    (∀ i : Fin 64, s.tools[i].state = .suspect ∨ s.tools[i].serial = none → t.tools[i] = s.tools[i]) ∧
    (∀ (i : Fin 64) (w q : Nat), s.tools[i].state ≠ .suspect → s.tools[i].serial.isSome = true →
      w = s.tools[i].remainder + s.tools[i].radius * n * 6434 * s.params.groundFactor →
      q = w / 4194304000000 → ∃ x, t.tools[i] = Tool.fresh x ∧
      x = { s.tools[i].toToolFields with
        state := x.state, duty := x.duty, remainder := x.remainder, lifetime := x.lifetime } ∧
      x.duty = min (s.tools[i].duty + q) 4294967295 ∧ x.lifetime = min (s.tools[i].lifetime + q) 4294967295 ∧
      x.remainder = (if s.tools[i].duty + q < 4294967295 then w % 4194304000000 else 0) ∧
      x.state = (if s.tools[i].state = .fitted ∨ s.tools[i].state = .watch ∨ s.tools[i].state = .worn then
          wearState x.duty s.tools[i].watch s.tools[i].wear
        else s.tools[i].state)) ∧
    t.stroke = (if s.stroke.state = .opened then
        { s.stroke with headCounts := min (s.stroke.headCounts + n) 4294967295 }
      else s.stroke) ∧
    NoticesRaised (fun m =>
      (m = .toolWorn ∧ ∃ i : Fin 64, s.tools[i].state ≠ .worn ∧ t.tools[i].state = .worn) ∨
      (m = .toolWatch ∧ ∃ i : Fin 64, s.tools[i].state ≠ .watch ∧ s.tools[i].state ≠ .worn ∧
        t.tools[i].state = .watch) ∨
      (m = .rotationBreach ∧ s.outputs[(0 : Fin 25)].value ≠ 1 ∧ 16 < n) ∨
      (m = .buildAborted ∧ s.outputs[(0 : Fin 25)].value ≠ 1 ∧ 16 < n ∧ s.cycle ≠ .tripped ∧
        s.place.erector.underWay = true)) s t ∧
    (s.outputs[(0 : Fin 25)].value = 1 ∨ n ≤ 16 ∨ s.cycle = .tripped → OutputsKeptBut [1, 2, 3, 4] s t ∧
      (DutyLaw s → s.gaugeWorn = anyGaugeWorn s.tools → GroupsFollow s t)) ∧
    (s.outputs[(0 : Fin 25)].value = 1 ∨ n ≤ 16 → t = { s with
      channels := t.channels, tools := t.tools, angle := t.angle, latched := t.latched, stroke := t.stroke
      blocking := t.blocking, positions := t.positions, gaugeWorn := t.gaugeWorn, outputs := t.outputs }) ∧
    (s.outputs[(0 : Fin 25)].value ≠ 1 → 16 < n →
      (s.cycle ≠ .tripped → TripTaken .rotationBreach s t ∧ t = { s with
        channels := t.channels, tools := t.tools, angle := t.angle, latched := t.latched, stroke := t.stroke
        blocking := t.blocking, positions := t.positions, gaugeWorn := t.gaugeWorn, outputs := t.outputs
        cycle := t.cycle, tripCause := t.tripCause, cylinders := t.cylinders, ports := t.ports, place := t.place
        feed := t.feed }) ∧
      (s.cycle = .tripped → t = { s with
        channels := t.channels, tools := t.tools, angle := t.angle, latched := t.latched, stroke := t.stroke
        blocking := t.blocking, positions := t.positions, gaugeWorn := t.gaugeWorn, outputs := t.outputs
        furtherCauses := true }))) ∧
  (∀ (v : Word16) (s : State), s.angle.prev < 65536 → s.angle.rebase = true ∨
      (8192 < (v.toNat + 65536 - s.angle.prev) % 65536 ∧ (v.toNat + 65536 - s.angle.prev) % 65536 < 57344) → ∃ t,
    exec (.sampleArrival 20 v) s = .next t ∧
    t = { s with
      channels := t.channels, angle := ⟨v.toNat, false⟩, latched := s.latched ||| Notice.countRebased.bit })

/-- A sample of channel 20 that repeats the last value and is not a rebase changes the channel's own record alone
(R78). -/
def Obligations.RepeatedAngleSample : Prop :=
  ∀ (v : Word16) (s : State), s.angle = ⟨v.toNat, false⟩ → ∃ t,
    exec (.sampleArrival 20 v) s = .next t ∧ t = { s with channels := t.channels } ∧
    ∀ c : Fin 30, c ≠ 20 → t.channels[c] = s.channels[c]

/-! ### Thrust and the stroke account -/

/-- SET_THRUST (R94, R93): each quadrant value is stored at most at the ceiling of R92, DONE_CLAMPED says that one was
above it, and the group setpoints follow the cycle state; refused NOT_CONFIGURED in UNCONFIGURED. A sample of the belt
scale, channel 22 (R102): taken as a new starting point where it is due or the difference is above 32 767, with
COUNT_REBASED; otherwise the difference joins the mass weighed of an OPEN or CLOSED account, and where that changes
OVER_EXCAVATION a running screw takes its range again (R103, R163). -/
def Obligations.ThrustSetAndMassWeighed : Prop :=
  (∀ (r : Request) (s : State), r.args.length = 8 → s.cycle ≠ .unconfigured → ∃ u,
    exec (.setThrust r) s = .next (respond 0x40 r s.link.answer
      ⟨u, if ∀ g : Fin 4, field r.args (2 * g.val) 2 ≤ ceiling s then .done else .doneClamped, []⟩) ∧
    u = { s with quadrants := u.quadrants, outputs := u.outputs } ∧
    (∀ g : Fin 4, u.quadrants[g] = min (field r.args (2 * g.val) 2) (ceiling s)) ∧
    OutputsKeptBut [1, 2, 3, 4] s u ∧
    (s.cycle = .boring → GroupsAt u (fun g => u.quadrants[g])) ∧
    (s.cycle = .standstill ∨ s.cycle = .building → GroupsAt u (fun _ => heldPressure s)) ∧
    (s.cycle = .intervention ∨ s.cycle = .tripped → GroupsAt u (fun _ => 0))) ∧
  (∀ s : State, ceiling s =
    if s.gaugeWorn then (if s.params.pMax < s.params.pDerate then s.params.pMax else s.params.pDerate)
    else s.params.pMax) ∧
  (∀ (r : Request) (s : State), r.args.length = 8 → s.cycle = .unconfigured →
    exec (.setThrust r) s = .next (respond 0x40 r s.link.answer ⟨s, .notConfigured, []⟩)) ∧
  (∀ (v : Word16) (s : State), s.mass.prev < 65536 → ∃ t, exec (.sampleArrival 22 v) s = .next t ∧
    t.mass = ⟨v.toNat, false⟩ ∧
    (s.mass.rebase = true ∨ 32767 < (v.toNat + 65536 - s.mass.prev) % 65536 →
      t = { s with channels := t.channels, mass := t.mass, latched := s.latched ||| Notice.countRebased.bit }) ∧
    (s.mass.rebase = false → (v.toNat + 65536 - s.mass.prev) % 65536 ≤ 32767 →
      t = { s with channels := t.channels, mass := t.mass, stroke := t.stroke, outputs := t.outputs } ∧
      OutputsKeptBut [22] s t ∧ ScrewRanged (overExcavation t != overExcavation s) s t ∧
      t.stroke = if s.stroke.state = .opened ∨ s.stroke.state = .closed then
          { s.stroke with
            weighed := min (s.stroke.weighed + (v.toNat + 65536 - s.mass.prev) % 65536) 4294967295 }
        else s.stroke))

/-- A sample on an extension channel (R88, R91, R96, R97, R100, R43, R130). A cylinder it makes RETRACTED stops its
retract timer, and a report of it in CLEARING that finds the span RETRACTED brings the erector to POSITIONING. With the
account OPEN and the four reference channels FRESH a reference mean above the high-water mark is accounted, or rejected
as a jump where it is above by more than JUMP_LIMIT; nothing else is; a reference extension at STROKE_LIMIT ends the
stroke in BORING. What follows an increment or the end is taken with it: the screw's range where OVER_EXCAVATION changes
(R103, R163), the Grout Controller's state (R144), and RING_GROUTED for a record it brings to GROUTED (R117). No other
notice is raised. -/
def Obligations.AdvanceMeasured : Prop :=
  ∀ (i : Fin 16) (v : Word16) (s : State), ∃ t, exec (.sampleArrival (extensionChannel i) v) s = .next t ∧
    t = { s with
      channels := t.channels, outputs := t.outputs, cylinders := t.cylinders, place := t.place, stroke := t.stroke
      rings := t.rings, ports := t.ports, pointer := t.pointer, latched := t.latched, cycle := t.cycle } ∧
    CommandsKept s t ∧ TimersStopped s t ∧ ClearingFollows s t ∧
    (isReference s i = true ↔ ∃ g : Fin 4, s.params.refCylinders[g] = i) ∧
    (referencesFresh t = true ↔
      ∀ g : Fin 4, t.channels[extensionChannel s.params.refCylinders[g]].fresh = true) ∧
    referenceMean t = (extension t s.params.refCylinders[0] + extension t s.params.refCylinders[1] +
      extension t s.params.refCylinders[2] + extension t s.params.refCylinders[3]) / 4 ∧
    (isReference s i = false → OutputsKeptBut [21] s t ∧ t = { s with
      channels := t.channels, outputs := t.outputs, cylinders := t.cylinders, place := t.place }) ∧
    (isReference s i = true →
      let measured := s.stroke.state = .opened ∧ referencesFresh t = true ∧ s.stroke.high < referenceMean t
      let delta := referenceMean t - s.stroke.high
      let ends := s.cycle = .boring ∧ s.params.strokeLimit ≤ min v.toNat 24000
      t.stroke.number = s.stroke.number ∧ t.stroke.ringPushed = s.stroke.ringPushed ∧
      t.stroke.base = s.stroke.base ∧ t.stroke.weighed = s.stroke.weighed ∧
      t.stroke.headCounts = s.stroke.headCounts ∧
      let accounted := measured ∧ delta ≤ s.params.jumpLimit
      NoticesRaised (fun n => (n = .strokeEnded ∧ ends) ∨
        (n = .advanceJump ∧ measured ∧ s.params.jumpLimit < delta) ∨
        (n = .ringGrouted ∧ accounted ∧ ∃ x ∈ s.rings, x.state ≠ .grouted ∧ (Ring.advanced
          (s.params.tailLength.getD 0) (s.params.ringWidth.getD 0) delta x).state = .grouted)) s t ∧
      (ends → t.cycle = .standstill ∧ t.stroke.state = .closed ∧ t.stroke.endCause = some .strokeLimit ∧
        t.outputs[(0 : Fin 25)].value = 0 ∧
        GroupsAt t (fun _ => heldPressure s) ∧ t.outputs[(22 : Fin 25)].value = 0) ∧
      (¬ ends → t.cycle = s.cycle ∧ t.stroke.state = s.stroke.state ∧ t.stroke.endCause = s.stroke.endCause ∧
        OutputsKeptBut [21, 22, 23, 24] s t ∧ ScrewRanged (overExcavation t != overExcavation s) s t) ∧
      (accounted ∨ ends → OneServing s → GroutFollows { s with channels := t.channels, rings := t.rings } t) ∧
      (¬ accounted → ¬ ends → t.ports = s.ports ∧ t.pointer = s.pointer ∧ OutputsKeptBut [21] s t) ∧
      (¬ measured → t.stroke.high = s.stroke.high ∧ t.stroke.advance = s.stroke.advance ∧
        t.stroke.litres = s.stroke.litres ∧ t.stroke.remainder = s.stroke.remainder ∧
        t.stroke.jumps = s.stroke.jumps ∧ t.rings = s.rings) ∧
      (measured → delta ≤ s.params.jumpLimit → t.stroke.high = referenceMean t ∧
        t.stroke.advance = s.stroke.advance + delta ∧ t.stroke.remainder < 100000 ∧
        t.stroke.litres * 100000 + t.stroke.remainder =
          s.stroke.litres * 100000 + s.stroke.remainder + s.params.faceArea.getD 0 * delta ∧
        t.stroke.jumps = s.stroke.jumps ∧
        t.rings = s.rings.map (Ring.advanced (s.params.tailLength.getD 0) (s.params.ringWidth.getD 0) delta)) ∧
      (measured → s.params.jumpLimit < delta → t.stroke.high = referenceMean t ∧
        t.stroke.advance = s.stroke.advance ∧ t.stroke.litres = s.stroke.litres ∧
        t.stroke.remainder = s.stroke.remainder ∧ t.stroke.jumps = min (s.stroke.jumps + 1) 65535 ∧
        t.rings = s.rings))

/-- What an increment does to a ring record (R116, R117): a CLOSED or GROUTING record takes the advance, its exposure is
what of the advance lies beyond TAIL_LENGTH up to RING_WIDTH, the target grows by the captured void area and grout
factor over the exposure gained, exposure makes a CLOSED record GROUTING, and a wholly exposed record whose target is
met is GROUTED; any other record is as it was. -/
def Obligations.RingsExposed : Prop :=
  ∀ (tailLength ringWidth delta : Nat) (x y : Ring), y = x.advanced tailLength ringWidth delta →
    (x.state = .planned ∨ x.state = .building ∨ x.state = .grouted → y = x) ∧
    (x.state = .closed ∨ x.state = .grouting →
      y = { x with advance := y.advance, exposure := y.exposure, target := y.target, state := y.state } ∧
      y.advance = min (x.advance + delta) 4294967295 ∧ y.exposure = min (y.advance - tailLength) ringWidth ∧
      y.target = x.target + x.voidArea.getD 0 * x.groutFactor.getD 0 * (y.exposure - x.exposure) ∧
      (x.state = .closed → y.exposure = 0 → y.state = .closed) ∧
      (x.state = .grouting ∨ 0 < y.exposure →
        y.state = if y.exposure = ringWidth ∧ y.target ≤ y.delivered * 100000 then .grouted else .grouting))

/-- The four kinds of timer that expire by a command (R21, R91, R134, R149): what an expiry writes and raises, each
timer counting on from zero; a timer that is stopped or has already expired makes the command change nothing (the
model's choice, log 2). -/
def Obligations.TimersExpire : Prop :=
  (∀ (i : Fin 16) (s : State), exec (.retractTimerExpiry i) s = .next
    (if s.cylinders[i].timer.running = true ∧ 0 < s.cylinders[i].timer.value then
      { s with
        cylinders := s.cylinders.set i { s.cylinders[i] with timer := ⟨0, true⟩ }
        latched := if command s i = .retract ∧ s.params.retractedAt < extension s i then
            s.latched ||| Notice.retractLate.bit
          else s.latched }
    else s)) ∧
  (∀ s : State, exec .stepTimerExpiry s = .next
    (if s.place.timer.running = true ∧ 0 < s.place.timer.value then
      { s with
        place := { s.place with timer := ⟨0, true⟩ }, latched := s.latched ||| Notice.erectorStepLate.bit }
    else s)) ∧
  (∀ (c : Fin 30) (s : State), ∃ t, exec (.staleTimerExpiry c) s = .next t ∧
    (¬ (s.channels[c].timer.running = true ∧ 0 < s.channels[c].timer.value) → t = s) ∧
    (s.channels[c].timer.running = true → 0 < s.channels[c].timer.value →
      t.channels = s.channels.set c { s.channels[c] with fresh := false, timer := ⟨0, true⟩ } ∧
      t = { s with
        channels := t.channels, angle := t.angle, screw := t.screw, mass := t.mass, pulse := t.pulse
        ports := t.ports, outputs := t.outputs, pointer := t.pointer } ∧
      t.angle = ⟨s.angle.prev, s.angle.rebase || c == 20⟩ ∧ t.mass = ⟨s.mass.prev, s.mass.rebase || c == 22⟩ ∧
      t.pulse = ⟨s.pulse.prev, s.pulse.rebase || c == 23⟩ ∧
      t.screw = { s.screw with chamberHeld := s.screw.chamberHeld || c == 21 } ∧
      (c ≠ 23 → t.ports = s.ports ∧ t.outputs = s.outputs ∧ t.pointer = s.pointer) ∧
      (c = 23 → GroutLaw s → t.pointer = s.pointer ∧ t.outputs[(23 : Fin 25)].value = 255 ∧
        t.outputs[(24 : Fin 25)].value = 0 ∧ OutputsKeptBut [23, 24] s t ∧
        ∀ p : Fin 6, t.ports[p] = if s.ports[p].state = .serving then
          { s.ports[p] with state := .idle, timer := { s.ports[p].timer with running := false } } else s.ports[p]))) ∧
  (∀ (p : Fin 6) (s : State), s.ports[p].state = .serving → s.ports[p].timer.running = true →
    0 < s.ports[p].timer.value → ∃ t, exec (.blockTimerExpiry p) s = .next t ∧
    t = groutSettle { s with
      ports := s.ports.set p { s.ports[p] with state := .blocked, timer := ⟨0, true⟩ }
      latched := s.latched ||| Notice.portBlocked.bit }) ∧
  (∀ (p : Fin 6) (s : State),
    ¬ (s.ports[p].state = .serving ∧ s.ports[p].timer.running = true ∧ 0 < s.ports[p].timer.value) →
    exec (.blockTimerExpiry p) s = .next s)

/-! ### The ring register and the feed queue -/

/-- RING_PLAN, RING_CANCEL and RING_RETIRE (R108, R109, R110, R106): a planned ring joins as the newest record with
nothing placed, advanced or delivered; the newest record leaves where it is PLANNED, the oldest where it is GROUTED and
named; their refusals, BAD_ARGUMENT for a number 0, a type above 2, a key position above 15 or an order list that is not
the numbers 0 to 5 among them; all are refused WRONG_STATE in TRIPPED. -/
def Obligations.RingsPlannedAndRetired : Prop :=
  (∀ (r : Request) (number : Nat) (type : RingType) (key : Fin 16) (order : Vector (Fin 6) 6) (s : State),
    r.args = beBytes 2 number ++ beBytes 1 type.code ++ beBytes 1 key.val ++
      order.toList.map (fun n => BitVec.ofNat 8 n.val) →
    number ≤ 65535 → order.toList.Nodup → s.cycle ≠ .tripped →
    (number ≠ 0 → s.rings.length < 8 →
      (∀ y, s.rings.getLast? = some y → (if y.number = 65535 then 1 else y.number + 1) = number) →
      exec (.ringPlan r) s = .next (respond 0x50 r s.link.answer
        ⟨{ s with rings := s.rings ++ [
          { number := number, type := type, key := key, order := order, slots := Vector.replicate 7 ⟨.vacant, none⟩
            state := .planned, advance := 0, exposure := 0, voidArea := none, groutFactor := none, target := 0
            delivered := 0 }] }, .done, []⟩)) ∧
    (number = 0 → exec (.ringPlan r) s = .next (respond 0x50 r s.link.answer ⟨s, .badArgument, []⟩)) ∧
    (number ≠ 0 → 8 ≤ s.rings.length →
      exec (.ringPlan r) s = .next (respond 0x50 r s.link.answer ⟨s, .full, []⟩)) ∧
    (∀ y, number ≠ 0 → s.rings.length < 8 → s.rings.getLast? = some y →
      (if y.number = 65535 then 1 else y.number + 1) ≠ number →
      exec (.ringPlan r) s = .next (respond 0x50 r s.link.answer ⟨s, .sequence, []⟩))) ∧
  (∀ (r : Request) (older : List Ring) (x : Ring) (s : State), r.args = [] → s.cycle ≠ .tripped →
    s.rings = older ++ [x] →
    exec (.ringCancel r) s = .next (respond 0x51 r s.link.answer
      (if x.state = .planned then ⟨{ s with rings := older }, .done, []⟩ else ⟨s, .notFound, []⟩))) ∧
  (∀ (r : Request) (s : State), r.args = [] → s.cycle ≠ .tripped → s.rings = [] →
    exec (.ringCancel r) s = .next (respond 0x51 r s.link.answer ⟨s, .notFound, []⟩)) ∧
  (∀ (r : Request) (s : State), r.args.length = 10 → s.cycle ≠ .tripped →
    field r.args 0 2 = 0 ∨ 2 < field r.args 2 1 ∨ 15 < field r.args 3 1 ∨
      (∃ n : Fin 6, ∀ k : Fin 6, field r.args (4 + k.val) 1 ≠ n.val) →
    exec (.ringPlan r) s = .next (respond 0x50 r s.link.answer ⟨s, .badArgument, []⟩)) ∧
  (∀ (r : Request) (s : State), r.args.length = 2 → s.cycle ≠ .tripped → field r.args 0 2 = 0 →
    exec (.ringRetire r) s = .next (respond 0x52 r s.link.answer ⟨s, .badArgument, []⟩)) ∧
  (∀ (r : Request) (s : State), r.args.length = 2 → s.cycle ≠ .tripped → field r.args 0 2 ≠ 0 →
    (∀ y ∈ s.rings, y.number ≠ field r.args 0 2) →
    exec (.ringRetire r) s = .next (respond 0x52 r s.link.answer ⟨s, .notFound, []⟩)) ∧
  (∀ (r : Request) (older newer : List Ring) (x : Ring) (s : State), r.args.length = 2 → s.cycle ≠ .tripped →
    field r.args 0 2 ≠ 0 → s.rings = older ++ x :: newer → (∀ y ∈ older, y.number ≠ field r.args 0 2) →
    x.number = field r.args 0 2 →
    exec (.ringRetire r) s = .next (respond 0x52 r s.link.answer
      (if x.state ≠ .grouted then ⟨s, .wrongState, []⟩
        else if older = [] then ⟨{ s with rings := newer }, .done, []⟩ else ⟨s, .sequence, []⟩))) ∧
  (∀ (r : Request) (s : State), s.cycle = .tripped →
    (r.args.length = 10 → exec (.ringPlan r) s = .next (respond 0x50 r s.link.answer ⟨s, .wrongState, []⟩)) ∧
    (r.args = [] → exec (.ringCancel r) s = .next (respond 0x51 r s.link.answer ⟨s, .wrongState, []⟩)) ∧
    (r.args.length = 2 → exec (.ringRetire r) s = .next (respond 0x52 r s.link.answer ⟨s, .wrongState, []⟩)))

/-- SEGMENT_ENQUEUE and SEGMENT_WITHDRAW (R119, R120, R121, R122): a new identity joins the tail, and a placement in
AWAIT_SEGMENT then matches again; an unreserved entry leaves the queue; their refusals, BAD_ARGUMENT for an identity 0,
a kind above 1 or a type above 2 among them. -/
def Obligations.SegmentsQueued : Prop :=
  (∀ (r : Request) (id : Nat) (kind : SegmentKind) (type : RingType) (s : State),
    r.args = beBytes 3 id ++ beBytes 1 kind.code ++ beBytes 1 type.code → id < 16777216 → s.cycle ≠ .unconfigured →
    (id ≠ 0 → s.feed.length < 8 → id ∉ heldIdentities s → s.place.erector ≠ .working .awaitSegment →
      exec (.segmentEnqueue r) s = .next (respond 0x58 r s.link.answer
        ⟨{ s with feed := s.feed ++ [⟨id, kind, type, false⟩] }, .done, []⟩)) ∧
    (∀ (older newer : List Ring) (x : Ring) (slot : Slot), id ≠ 0 → s.feed.length < 8 → id ∉ heldIdentities s →
      s.place.erector = .working .awaitSegment → BuildsAt s older x newer → s.place.current = some slot → ∃ u,
      exec (.segmentEnqueue r) s = .next (respond 0x58 r s.link.answer ⟨u, .done, []⟩) ∧
      Matched x slot { s with feed := s.feed ++ [⟨id, kind, type, false⟩] } u ∧ OutputsKeptBut [21] s u ∧
      u = { s with
        feed := u.feed, place := { s.place with erector := u.place.erector, timer := u.place.timer }
        outputs := u.outputs, starvation := u.starvation }) ∧
    (id = 0 → exec (.segmentEnqueue r) s = .next (respond 0x58 r s.link.answer ⟨s, .badArgument, []⟩)) ∧
    (id ≠ 0 → 8 ≤ s.feed.length →
      exec (.segmentEnqueue r) s = .next (respond 0x58 r s.link.answer ⟨s, .full, []⟩)) ∧
    (id ≠ 0 → s.feed.length < 8 → id ∈ heldIdentities s →
      exec (.segmentEnqueue r) s = .next (respond 0x58 r s.link.answer ⟨s, .duplicate, []⟩))) ∧
  (∀ (r : Request) (s : State), r.args.length = 5 → s.cycle ≠ .unconfigured →
    field r.args 0 3 = 0 ∨ 1 < field r.args 3 1 ∨ 2 < field r.args 4 1 →
    exec (.segmentEnqueue r) s = .next (respond 0x58 r s.link.answer ⟨s, .badArgument, []⟩)) ∧
  (∀ (r : Request) (s : State), r.args.length = 3 → s.cycle ≠ .unconfigured → field r.args 0 3 = 0 →
    exec (.segmentWithdraw r) s = .next (respond 0x59 r s.link.answer ⟨s, .badArgument, []⟩)) ∧
  (∀ (r : Request) (before after : List Segment) (e : Segment) (s : State), r.args.length = 3 →
    s.cycle ≠ .unconfigured → field r.args 0 3 ≠ 0 → s.feed = before ++ e :: after → e.id = field r.args 0 3 →
    (∀ f ∈ before ++ after, f.id ≠ e.id) →
    exec (.segmentWithdraw r) s = .next (respond 0x59 r s.link.answer
      (if e.reserved then ⟨s, .reserved, []⟩ else ⟨{ s with feed := before ++ after }, .done, []⟩))) ∧
  (∀ (r : Request) (s : State), r.args.length = 3 → s.cycle ≠ .unconfigured → field r.args 0 3 ≠ 0 →
    (∀ f ∈ s.feed, f.id ≠ field r.args 0 3) →
    exec (.segmentWithdraw r) s = .next (respond 0x59 r s.link.answer ⟨s, .notFound, []⟩)) ∧
  (∀ (r : Request) (s : State), s.cycle = .unconfigured →
    (r.args.length = 5 → exec (.segmentEnqueue r) s = .next (respond 0x58 r s.link.answer ⟨s, .notConfigured, []⟩)) ∧
    (r.args.length = 3 → exec (.segmentWithdraw r) s = .next (respond 0x59 r s.link.answer ⟨s, .notConfigured, []⟩)))

/-! ### Placement -/

/-- PLACE_NEXT and PLACE_RUN (R126, R127, R128): in BUILDING with the erector IDLE and the hold limit kept, the
placement of the ring's next slot begins with a match; BUSY, HOLD_LIMIT and WRONG_STATE otherwise. The span of a slot is
that of R112, the next slot that of R113 (that a ring with any slot ON_ERECTOR has none is an inference, log 9), and the
count a retraction would leave that of R90. -/
def Obligations.PlacementStarts : Prop :=
  (∀ k : Fin 16, span k 0 = [k + 1, k + 2, k + 3] ∧ span k 1 = [k + 4, k + 5] ∧ span k 2 = [k + 6, k + 7, k + 8] ∧
    span k 3 = [k + 9, k + 10] ∧ span k 4 = [k + 11, k + 12, k + 13] ∧ span k 5 = [k + 14, k + 15] ∧ span k 6 = [k] ∧
    ∀ slot : Slot, (span k slot).head? = some (spanFirst k slot)) ∧
  (∀ (x : Ring) (slot : Slot), x.nextSlot = some slot ↔
    x.state = .building ∧ (∀ sl : Slot, x.slots[sl].state ≠ .onErector) ∧ x.slots[slot].state = .vacant ∧
    if slot = 6 then ∀ n : Fin 6, x.slots[(x.order[n]).castSucc].state ≠ .vacant
    else ∃ n : Fin 6, (x.order[n]).val = slot.val ∧
      ∀ m : Fin 6, m < n → x.slots[(x.order[m]).castSucc].state ≠ .vacant) ∧
  (∀ (slots : List (Fin 16)) (s : State), retractCountAfter s slots =
    (List.finRange 16).countP (fun i => command s i == .retract) + slots.countP (fun i => command s i != .retract)) ∧
  ∀ (c : Request → Instr) (kind : Byte) (mode : PlaceMode),
    (c = .placeNext ∧ kind = 0x60 ∧ mode = .single) ∨ (c = .placeRun ∧ kind = 0x61 ∧ mode = .run) →
  (∀ (r : Request) (older newer : List Ring) (x : Ring) (slot : Slot) (s : State), r.args = [] →
    s.cycle = .building → s.place.erector = .idle → BuildsAt s older x newer → x.nextSlot = some slot →
    (retractCountAfter s (span x.key slot) ≤ 16 - s.params.minHold → ∃ u,
      exec (c r) s = .next (respond kind r s.link.answer ⟨u, .accepted, []⟩) ∧ Matched x slot s u ∧
      u = { s with feed := u.feed, place := u.place, outputs := u.outputs, starvation := u.starvation } ∧
      u.place = { s.place with
        erector := u.place.erector, mode := mode, hold := if mode = .run then false else s.place.hold
        current := u.place.current, timer := u.place.timer } ∧
      OutputsKeptBut [21] s u) ∧
    (16 - s.params.minHold < retractCountAfter s (span x.key slot) →
      exec (c r) s = .next (respond kind r s.link.answer ⟨s, .holdLimit, []⟩))) ∧
  (∀ (r : Request) (s : State), r.args = [] → s.cycle = .building → s.place.erector ≠ .idle →
    exec (c r) s = .next (respond kind r s.link.answer ⟨s, .busy, []⟩)) ∧
  (∀ (r : Request) (s : State), r.args = [] → s.cycle ≠ .building →
    exec (c r) s = .next (respond kind r s.link.answer ⟨s, .wrongState, []⟩))

/-- ERECTOR_HOLD and ERECTOR_ABORT (R135, R136): the first sets the hold flag; the second halts a placement under way,
frees its reservation while its slot is OPEN, and raises BUILD_ABORTED; refused WRONG_STATE with none under way.
ERECTOR_RETURN (R138, R123): the segment on the erector goes back to the head of the queue, its slot is OPEN again, its
span is extended, its retract timers frozen (R91), and the erector stands IDLE; FULL where the queue holds eight; with
no segment on the erector only the placement ends. -/
def Obligations.PlacementStopped : Prop :=
  (∀ (r : Request) (s : State), r.args = [] →
    exec (.erectorHold r) s = .next (respond 0x62 r s.link.answer
      (if s.cycle = .building then ⟨{ s with place := { s.place with hold := true } }, .done, []⟩
        else ⟨s, .wrongState, []⟩))) ∧
  (∀ (r : Request) (st : Step) (s : State), r.args = [] → s.cycle = .building → s.place.erector = .working st → ∃ u,
    exec (.erectorAbort r) s = .next (respond 0x63 r s.link.answer ⟨u, .accepted, []⟩) ∧
    u = { s with
      place := { s.place with
        erector := .halted, interrupted := some st, timer := { s.place.timer with running := false }
        current := if st = .awaitSegment ∨ st = .picking then none else s.place.current }
      feed := if st = .awaitSegment ∨ st = .picking then s.feed.map (fun e => { e with reserved := false }) else s.feed
      outputs := u.outputs, latched := s.latched ||| Notice.buildAborted.bit } ∧
    u.outputs[(21 : Fin 25)].value = 3 ∧ OutputsKeptBut [21] s u) ∧
  (∀ (r : Request) (s : State), r.args = [] →
    s.cycle ≠ .building ∨ s.place.erector = .idle ∨ s.place.erector = .halted →
    exec (.erectorAbort r) s = .next (respond 0x63 r s.link.answer ⟨s, .wrongState, []⟩)) ∧
  (∀ (r : Request) (older newer : List Ring) (x : Ring) (slot : Slot) (id : Nat) (s : State), r.args = [] →
    s.cycle = .building → s.place.erector = .halted → BuildsAt s older x newer → s.place.current = some slot →
    x.slots[slot] = ⟨.onErector, some id⟩ →
    (s.feed.length < 8 → ∃ u,
      exec (.erectorReturn r) s = .next (respond 0x65 r s.link.answer ⟨u, .done, []⟩) ∧
      SpanCommanded (span x.key slot) .extend x.number slot s u ∧ u.outputs[(21 : Fin 25)].value = 0 ∧
      PlacementOutputsOnly s u ∧
      u = { s with
        feed := ⟨id, if slot = 6 then .key else .ordinary, x.type, false⟩ :: s.feed
        rings := older ++ { x with slots := x.slots.set slot ⟨.vacant, none⟩ } :: newer
        place := { s.place with erector := .idle, current := none, interrupted := none }
        outputs := u.outputs, cylinders := u.cylinders }) ∧
    (8 ≤ s.feed.length → exec (.erectorReturn r) s = .next (respond 0x65 r s.link.answer ⟨s, .full, []⟩))) ∧
  (∀ (r : Request) (s : State), r.args = [] → s.cycle = .building → s.place.erector = .halted →
    s.place.current = none → ∃ u,
    exec (.erectorReturn r) s = .next (respond 0x65 r s.link.answer ⟨u, .done, []⟩) ∧
    u = { s with
      place := { s.place with erector := .idle, current := none, interrupted := none }, outputs := u.outputs } ∧
    u.outputs[(21 : Fin 25)].value = 0 ∧ OutputsKeptBut [21] s u) ∧
  (∀ (r : Request) (s : State), r.args = [] → s.cycle ≠ .building ∨ s.place.erector ≠ .halted →
    exec (.erectorReturn r) s = .next (respond 0x65 r s.link.answer ⟨s, .wrongState, []⟩))

/-- ERECTOR_RESUME (R137) takes a HALTED placement up in its interrupted step: before the grip it matches again for the
ring's next slot; in CLEARING, or in POSITIONING with the span no longer retracted, it clears again within the hold
limit, loading the retract timer of each cylinder whose command becomes RETRACT (R91); in SEATING it extends the
span. -/
def Obligations.PlacementResumed : Prop :=
  (∀ (r : Request) (older newer : List Ring) (x : Ring) (slot : Slot) (st : Step) (s : State), r.args = [] →
    s.cycle = .building → s.place.erector = .halted → BuildsAt s older x newer → s.place.interrupted = some st →
    (st = .awaitSegment ∨ st = .picking → x.nextSlot = some slot → ∃ u,
      exec (.erectorResume r) s = .next (respond 0x64 r s.link.answer ⟨u, .accepted, []⟩) ∧ Matched x slot s u ∧
      OutputsKeptBut [21] s u ∧ u = { s with
        feed := u.feed, outputs := u.outputs, starvation := u.starvation
        place := { s.place with
          erector := u.place.erector, current := some slot, interrupted := none, timer := u.place.timer } }) ∧
    (st = .clearing ∨ (st = .positioning ∧ ∃ i ∈ span x.key slot, command s i ≠ .retract) →
      s.place.current = some slot → retractCountAfter s (span x.key slot) ≤ 16 - s.params.minHold → ∃ u,
      exec (.erectorResume r) s = .next (respond 0x64 r s.link.answer ⟨u, .accepted, []⟩) ∧
      SpanCommanded (span x.key slot) .retract x.number slot s u ∧ PlacementOutputsOnly s u ∧
      (if ∀ i ∈ span x.key slot, extension s i ≤ s.params.retractedAt then
          u.place.erector = .working .positioning ∧
            u.outputs[(21 : Fin 25)].value = 16 + (spanFirst x.key slot).val
        else u.place.erector = .working .clearing ∧ u.outputs[(21 : Fin 25)].value = 1) ∧
      u = { s with
        outputs := u.outputs, cylinders := u.cylinders
        place := { s.place with
          erector := u.place.erector, interrupted := none, timer := ⟨s.params.erectorStepTime, true⟩ } }) ∧
    (st = .clearing ∨ (st = .positioning ∧ ∃ i ∈ span x.key slot, command s i ≠ .retract) →
      s.place.current = some slot → 16 - s.params.minHold < retractCountAfter s (span x.key slot) →
      exec (.erectorResume r) s = .next (respond 0x64 r s.link.answer ⟨s, .holdLimit, []⟩)) ∧
    (st = .positioning → (∀ i ∈ span x.key slot, command s i = .retract) → s.place.current = some slot → ∃ u,
      exec (.erectorResume r) s = .next (respond 0x64 r s.link.answer ⟨u, .accepted, []⟩) ∧
      u.outputs[(21 : Fin 25)].value = 16 + (spanFirst x.key slot).val ∧ OutputsKeptBut [21] s u ∧
      u = { s with
        outputs := u.outputs
        place := { s.place with
          erector := .working .positioning, interrupted := none, timer := ⟨s.params.erectorStepTime, true⟩ } }) ∧
    (st = .seating → s.place.current = some slot → ∃ u,
      exec (.erectorResume r) s = .next (respond 0x64 r s.link.answer ⟨u, .accepted, []⟩) ∧
      SpanCommanded (span x.key slot) .extend x.number slot s u ∧ PlacementOutputsOnly s u ∧
      u.outputs[(21 : Fin 25)].value = 2 ∧ u = { s with
        outputs := u.outputs, cylinders := u.cylinders
        place := { s.place with
          erector := .working .seating, interrupted := none, timer := ⟨s.params.erectorStepTime, true⟩ } })) ∧
  (∀ (r : Request) (s : State), r.args = [] → s.cycle ≠ .building ∨ s.place.erector ≠ .halted →
    exec (.erectorResume r) s = .next (respond 0x64 r s.link.answer ⟨s, .wrongState, []⟩))

/-- SEG_GRIPPED, AT_SLOT and SEG_BOLTED (R129, R130, R131, R132, R114, R115, R45), as the sense events of DI3, DI4 and
DI5: the grip loads the slot and clears its span or halts at the hold limit; at the slot the span is extended; the
bolting places the slot, and with the key closes the ring and brings the cycle to STANDSTILL with every cylinder
extended. A line change that is no event, or finds the erector in any other state, IDLE and a part that builds no ring
included, moves no placement (R133). The retract timers follow the commands (R91). Whatever the erector, the new level
is taken, and a sense event of an input whose mask is set reaches its group (R28, R31). No notice is raised but those
named; the mode and the hold flag are kept (R132), and of the outputs only the cylinders' and the erector's words
change, the closure's change of cycle state apart. -/
def Obligations.ErectorEvents : Prop :=
  let notices := fun (i : Fin 12) (others : List Notice) (s t : State) =>
    NoticesRaised (fun n => (n = .inputGroupChange ∧ s.inputs[i].mask = true) ∨ n ∈ others) s t
  (∀ (level : Level) (older newer : List Ring) (x : Ring) (slot : Slot) (s : State), BuildsAt s older x newer →
    s.place.current = some slot →
  (∀ e : Segment, Input.lineEvent s.inputs[(3 : Fin 12)] { s.inputs[(3 : Fin 12)] with level := level } = true →
    s.place.erector = .working .picking → s.feed.find? (·.reserved) = some e → x.nextSlot = some slot → ∃ t,
    exec (.lineChange 3 level) s = .next t ∧
    t = { s with
      inputs := t.inputs, groupFlags := t.groupFlags, latched := t.latched
      feed := s.feed.filter (fun f => !f.reserved)
      rings := older ++ { x with slots := x.slots.set slot ⟨.onErector, some e.id⟩ } :: newer
      place := t.place, outputs := t.outputs, cylinders := t.cylinders } ∧
    (retractCountAfter s (span x.key slot) ≤ 16 - s.params.minHold →
      SpanCommanded (span x.key slot) .retract x.number slot s t ∧ PlacementOutputsOnly s t ∧ notices 3 [] s t ∧
      t.place = { s.place with erector := t.place.erector, timer := ⟨s.params.erectorStepTime, true⟩ } ∧
      (if ∀ i ∈ span x.key slot, extension s i ≤ s.params.retractedAt then
          t.place.erector = .working .positioning ∧
            t.outputs[(21 : Fin 25)].value = 16 + (spanFirst x.key slot).val
        else t.place.erector = .working .clearing ∧ t.outputs[(21 : Fin 25)].value = 1)) ∧
    (16 - s.params.minHold < retractCountAfter s (span x.key slot) →
      t.place = { s.place with
        erector := .halted, interrupted := some .clearing, timer := { s.place.timer with running := false } } ∧
      t.outputs[(21 : Fin 25)].value = 3 ∧ OutputsKeptBut [21] s t ∧ t.cylinders = s.cylinders ∧
      notices 3 [.buildAborted] s t)) ∧
  (Input.lineEvent s.inputs[(4 : Fin 12)] { s.inputs[(4 : Fin 12)] with level := level } = true →
    s.place.erector = .working .positioning → ∃ t, exec (.lineChange 4 level) s = .next t ∧
    t = { s with
      inputs := t.inputs, groupFlags := t.groupFlags, latched := t.latched, outputs := t.outputs
      cylinders := t.cylinders
      place := { s.place with erector := .working .seating, timer := ⟨s.params.erectorStepTime, true⟩ } } ∧
    SpanCommanded (span x.key slot) .extend x.number slot s t ∧ PlacementOutputsOnly s t ∧ notices 4 [] s t ∧
    t.outputs[(21 : Fin 25)].value = 2) ∧
  (Input.lineEvent s.inputs[(5 : Fin 12)] { s.inputs[(5 : Fin 12)] with level := level } = true →
    s.place.erector = .working .seating → x.slots[slot].state = .onErector → ∃ t placed,
    exec (.lineChange 5 level) s = .next t ∧
    placed = { x with slots := x.slots.set slot { x.slots[slot] with state := .placed } } ∧
    (slot ≠ 6 → OutputsKeptBut [21] s t ∧
      t = { s with
        inputs := t.inputs, groupFlags := t.groupFlags, latched := t.latched, rings := older ++ placed :: newer
        feed := t.feed, outputs := t.outputs, starvation := t.starvation
        place := { s.place with
          erector := t.place.erector, current := t.place.current, timer := t.place.timer } } ∧
      let stops := t.feed = s.feed ∧ t.starvation = s.starvation ∧ t.outputs[(21 : Fin 25)].value = 0 ∧
        t.place = { s.place with
          erector := .idle, current := none, timer := { s.place.timer with running := false } }
      (s.place.mode = .single → stops ∧ notices 5 [.slotPlaced] s t) ∧
      (∀ next, s.place.mode = .run → placed.nextSlot = some next →
        (s.place.hold = true ∨ 16 - s.params.minHold < retractCountAfter s (span x.key next) →
          stops ∧ notices 5 [.slotPlaced, .buildHeld] s t) ∧
        (s.place.hold = false → retractCountAfter s (span x.key next) ≤ 16 - s.params.minHold →
          notices 5 [.slotPlaced] s t ∧ Matched x next { s with place := { s.place with
            timer := { s.place.timer with running := false } } } t))) ∧
    (slot = 6 → notices 5 [.slotPlaced, .ringClosed] s t ∧ t.cycle = .standstill ∧
      t = { s with
        inputs := t.inputs, groupFlags := t.groupFlags, latched := t.latched, cycle := t.cycle, rings := t.rings
        place := t.place, outputs := t.outputs, cylinders := t.cylinders, ports := t.ports
        pointer := t.pointer } ∧
      t.outputs[(0 : Fin 25)].value = 0 ∧ t.outputs[(22 : Fin 25)].value = 0 ∧
      GroutFollows { s with cycle := .standstill, rings := t.rings } t ∧
      t.rings = older ++ { placed with
        state := .closed, advance := 0, exposure := 0, target := 0, delivered := 0
        voidArea := some (s.params.voidArea.getD 0), groutFactor := some s.params.groutFactor } :: newer ∧
      t.place = { s.place with
        erector := .idle, current := none, timer := { s.place.timer with running := false } } ∧
      t.outputs[(21 : Fin 25)].value = 0 ∧ GroupsAt t (fun _ => heldPressure s) ∧
      ∀ i : Fin 16, command t i = .extend ∧
        t.cylinders[i] = ⟨{ s.cylinders[i].timer with running := false }, .advance⟩))) ∧
  (∀ (i : Fin 12) (level : Level) (s : State), i = 3 ∨ i = 4 ∨ i = 5 →
    Input.lineEvent s.inputs[i] { s.inputs[i] with level := level } = false ∨
      (i = 3 ∧ s.place.erector ≠ .working .picking) ∨ (i = 4 ∧ s.place.erector ≠ .working .positioning) ∨
      (i = 5 ∧ s.place.erector ≠ .working .seating) → ∃ t, exec (.lineChange i level) s = .next t ∧
    t = { s with inputs := t.inputs, groupFlags := t.groupFlags, latched := t.latched } ∧
    NoticesRaised (fun n => n = .inputGroupChange ∧ s.inputs[i].mask = true ∧
      Input.lineEvent s.inputs[i] { s.inputs[i] with level := level } = true) s t) ∧
  (∀ (i : Fin 12) (level : Level) (s : State), i = 3 ∨ i = 4 ∨ i = 5 → s.inputs[i].level ≠ level → ∃ t,
    exec (.lineChange i level) s = .next t ∧ t.inputs = s.inputs.set i { s.inputs[i] with level := level } ∧
    (let event := match s.inputs[i].mode with
      | .low => level = .low
      | .rising => level = .high
      | .falling => level = .low
      | .any => True
    (event ∧ s.inputs[i].mask = true → t.latched.getLsbD Notice.inputGroupChange.number = true ∧
      ∀ g : Fin 3, t.groupFlags[g] = (s.groupFlags[g] || i.val / 4 == g.val)) ∧
    (¬ event ∨ s.inputs[i].mask = false → t.groupFlags = s.groupFlags)))

/-! ### Grouting -/

/-- How the Grout Controller takes its state again at the end of an event (R144, R145, R146, R150), with at most one
port SERVING: while grouting is allowed the SERVING port goes on, and with none a search serves the first IDLE port the
rotation table names from the pointer, unless channel 23 is STALE; while it is not allowed the shot ends; the valve and
the pump rate follow. Grouting is allowed while the deficit, the sum of the needs of the GROUTING rings, and the pump
rate are above 0 in one of the four cycle states of R144. -/
def Obligations.GroutSettles : Prop :=
  (∀ s : State, deficit s =
    ((s.rings.filter fun x => x.state == .grouting).map fun x => x.target - x.delivered * 100000).sum) ∧
  (∀ s : State, groutAllowed s = true ↔ 0 < deficit s ∧
    (s.cycle = .standstill ∨ s.cycle = .boring ∨ s.cycle = .building ∨ s.cycle = .intervention) ∧
    0 < s.params.groutRate ∧ 0 < s.params.pumpMax) ∧
  (∀ (e : Fin 16) (p : Fin 6) (s : State), groutAllowed s = true → (∀ q : Fin 6, s.ports[q].state ≠ .serving) →
    s.channels[(23 : Fin 30)].fresh = true → FirstIdle s e p → ∃ t, groutSettle s = t ∧
    t = { s with
      ports := s.ports.set p { s.ports[p] with state := .serving, shot := 0, timer := ⟨s.params.blockTime, true⟩ }
      pointer := t.pointer, outputs := t.outputs } ∧
    t.pointer.val = (e.val + 1) % 16 ∧ t.outputs[(23 : Fin 25)].value = p.val ∧
    t.outputs[(24 : Fin 25)].value = min s.params.groutRate s.params.pumpMax ∧ OutputsKeptBut [23, 24] s t) ∧
  (∀ s : State, (∀ q : Fin 6, s.ports[q].state ≠ .serving) →
    groutAllowed s = false ∨ s.channels[(23 : Fin 30)].fresh = false ∨
      (∀ (e : Fin 16) (q : Fin 6), s.rotation[e] = some q → s.ports[q].state ≠ .idle) → ∃ t, groutSettle s = t ∧
    t = { s with outputs := t.outputs } ∧ t.outputs[(23 : Fin 25)].value = 255 ∧
    t.outputs[(24 : Fin 25)].value = 0 ∧ OutputsKeptBut [23, 24] s t) ∧
  (∀ (p : Fin 6) (s : State), s.ports[p].state = .serving → (∀ q : Fin 6, s.ports[q].state = .serving → q = p) → ∃ t,
    groutSettle s = t ∧ t = { s with ports := t.ports, outputs := t.outputs } ∧ OutputsKeptBut [23, 24] s t ∧
    (groutAllowed s = true → t.ports = s.ports ∧ t.outputs[(23 : Fin 25)].value = p.val ∧
      t.outputs[(24 : Fin 25)].value = min s.params.groutRate s.params.pumpMax) ∧
    (groutAllowed s = false → t.outputs[(23 : Fin 25)].value = 255 ∧ t.outputs[(24 : Fin 25)].value = 0 ∧
      t.ports = s.ports.set p
        { s.ports[p] with state := .idle, timer := { s.ports[p].timer with running := false } }))

/-- The grout requests (R143, R154, R155, R156, R157), in every cycle state but UNCONFIGURED: what each stores, and that
the Grout Controller then takes its state again (GroutSettles); a port number above 5 is refused BAD_ARGUMENT (section
9.6). -/
def Obligations.GroutRequests : Prop :=
  (∀ (r : Request) (rotation : Vector (Option (Fin 6)) 16) (s : State), s.cycle ≠ .unconfigured →
    r.args = rotation.toList.map (fun e => BitVec.ofNat 8 ((e.map Fin.val).getD 255)) →
    (∀ p q : Fin 6, s.ports[p].state = .serving → s.ports[q].state = .serving → p = q) →
    exec (.setRotation r) s = .next (respond 0x70 r s.link.answer ⟨groutSettle { s with
      rotation := rotation, pointer := 0
      ports := Vector.ofFn fun p => if s.ports[p].state = .serving then
          { s.ports[p] with state := .idle, timer := { s.ports[p].timer with running := false } }
        else s.ports[p] }, .done, []⟩)) ∧
  (∀ (r : Request) (i : Fin 16) (s : State), s.cycle ≠ .unconfigured → r.args.length = 16 →
    6 ≤ (r.args.getD i.val 0).toNat → (r.args.getD i.val 0).toNat ≠ 255 →
    exec (.setRotation r) s = .next (respond 0x70 r s.link.answer ⟨s, .badArgument, []⟩)) ∧
  (∀ (r : Request) (p : Fin 6) (s : State), s.cycle ≠ .unconfigured → r.args.length = 5 →
    field r.args 0 1 = p.val → ∃ limit hysteresis,
    exec (.setPort r) s = .next (respond 0x71 r s.link.answer
      ⟨{ s with ports := s.ports.set p { s.ports[p] with limit := limit, hysteresis := hysteresis } },
        if limit = field r.args 1 2 ∧ hysteresis = field r.args 3 2 then .done else .doneClamped, []⟩) ∧
    limit = (if field r.args 1 2 < 100 then 100 else if 1000 < field r.args 1 2 then 1000 else field r.args 1 2) ∧
    hysteresis = (if 90 < field r.args 3 2 then 90 else field r.args 3 2)) ∧
  (∀ (r : Request) (b : Byte) (p : Fin 6) (s : State), s.cycle ≠ .unconfigured → r.args = [b] → b.toNat = p.val →
    let moved := fun st : PortState => groutSettle { s with
      ports := s.ports.set p { s.ports[p] with state := st, timer := { s.ports[p].timer with running := false } } }
    exec (.portOutOfService r) s = .next (respond 0x72 r s.link.answer
      (if s.ports[p].state = .outOfService then ⟨s, .wrongState, []⟩ else ⟨moved .outOfService, .done, []⟩)) ∧
    exec (.portRestore r) s = .next (respond 0x73 r s.link.answer
      (if s.ports[p].state = .outOfService then ⟨moved .idle, .done, []⟩ else ⟨s, .wrongState, []⟩)) ∧
    exec (.portClear r) s = .next (respond 0x74 r s.link.answer
      (if s.ports[p].state = .blocked then ⟨moved .idle, .done, []⟩ else ⟨s, .wrongState, []⟩))) ∧
  (∀ (r : Request) (s : State), s.cycle ≠ .unconfigured → 5 < field r.args 0 1 →
    (r.args.length = 5 → exec (.setPort r) s = .next (respond 0x71 r s.link.answer ⟨s, .badArgument, []⟩)) ∧
    (r.args.length = 1 →
      exec (.portOutOfService r) s = .next (respond 0x72 r s.link.answer ⟨s, .badArgument, []⟩) ∧
      exec (.portRestore r) s = .next (respond 0x73 r s.link.answer ⟨s, .badArgument, []⟩) ∧
      exec (.portClear r) s = .next (respond 0x74 r s.link.answer ⟨s, .badArgument, []⟩))) ∧
  (∀ (r : Request) (s : State), s.cycle ≠ .unconfigured → r.args.length = 2 →
    exec (.groutRate r) s = .next (respond 0x75 r s.link.answer
      ⟨groutSettle { s with params := { s.params with groutRate := min (field r.args 0 2) s.params.pumpMax } },
        if field r.args 0 2 ≤ s.params.pumpMax then .done else .doneClamped, []⟩)) ∧
  (∀ (r : Request) (s : State), s.cycle = .unconfigured →
    (r.args.length = 16 → exec (.setRotation r) s = .next (respond 0x70 r s.link.answer ⟨s, .notConfigured, []⟩)) ∧
    (r.args.length = 5 → exec (.setPort r) s = .next (respond 0x71 r s.link.answer ⟨s, .notConfigured, []⟩)) ∧
    (r.args.length = 1 →
      exec (.portOutOfService r) s = .next (respond 0x72 r s.link.answer ⟨s, .notConfigured, []⟩) ∧
      exec (.portRestore r) s = .next (respond 0x73 r s.link.answer ⟨s, .notConfigured, []⟩) ∧
      exec (.portClear r) s = .next (respond 0x74 r s.link.answer ⟨s, .notConfigured, []⟩)) ∧
    (r.args.length = 2 → exec (.groutRate r) s = .next (respond 0x75 r s.link.answer ⟨s, .notConfigured, []⟩)))

/-- A sample of the flowmeter, channel 23 (R151, R152, R153, R147): n pulses are counted, credited to the SERVING port,
whose block timer is loaded again, or to the unattributed count, and their volume to the oldest GROUTING ring or the
surplus; a shot that has taken SHOT_VOLUME ends. A rebase counts and credits nothing, and of a FRESH channel is followed
by no search. -/
def Obligations.PulsesCredited : Prop :=
  (∀ (v : Word16) (n : Nat) (s : State), s.pulse.rebase = false → s.pulse.prev < 65536 → 0 < n → n ≤ 32767 →
    v.toNat = (s.pulse.prev + n) % 65536 →
    (∀ p q : Fin 6, s.ports[p].state = .serving → s.ports[q].state = .serving → p = q) → ∃ u,
    exec (.sampleArrival 23 v) s = .next (groutSettle u) ∧
    u = { s with
      channels := u.channels, pulse := ⟨v.toNat, false⟩, totalPulses := s.totalPulses + BitVec.ofNat 32 n
      unattributed := u.unattributed, ports := u.ports, rings := u.rings, surplus := u.surplus
      latched := u.latched } ∧
    (∀ p : Fin 6, s.ports[p].state = .serving → ∃ shot ended,
      shot = min (s.ports[p].shot + n * s.params.pulseWeight) 4294967295 ∧
      ended = (groutAllowed u && decide (s.params.shotVolume ≤ shot)) ∧
      u.ports = s.ports.set p { s.ports[p] with
        state := if ended then .idle else .serving, credited := s.ports[p].credited + BitVec.ofNat 32 n
        shot := shot, timer := ⟨s.params.blockTime, !ended⟩ } ∧ u.unattributed = s.unattributed) ∧
    ((∀ p : Fin 6, s.ports[p].state ≠ .serving) →
      u.ports = s.ports ∧ u.unattributed = s.unattributed + BitVec.ofNat 32 n) ∧
    ((∀ x ∈ s.rings, x.state ≠ .grouting) → u.rings = s.rings ∧ u.latched = s.latched ∧
      u.surplus = min (s.surplus + n * s.params.pulseWeight) 4294967295) ∧
    (∀ older x newer, s.rings = older ++ x :: newer → (∀ y ∈ older, y.state ≠ .grouting) → x.state = .grouting →
      ∃ delivered met, delivered = min (x.delivered + n * s.params.pulseWeight) 4294967295 ∧
      met = decide (x.exposure = s.params.ringWidth.getD 0 ∧ x.target ≤ delivered * 100000) ∧
      u.surplus = s.surplus ∧
      u.rings = older ++ { x with delivered := delivered, state := if met then .grouted else .grouting } :: newer ∧
      u.latched = if met then s.latched ||| Notice.ringGrouted.bit else s.latched)) ∧
  (∀ (v : Word16) (s : State), s.pulse.prev < 65536 →
    s.pulse.rebase = true ∨ 32767 < (v.toNat + 65536 - s.pulse.prev) % 65536 → ∃ u,
    exec (.sampleArrival 23 v) s = .next (if s.channels[(23 : Fin 30)].fresh then u else groutSettle u) ∧
    u = { s with
      channels := u.channels, pulse := ⟨v.toNat, false⟩, rebases := min (s.rebases + 1) 65535 }) ∧
  (∀ (v : Word16) (s : State), s.pulse = ⟨v.toNat, false⟩ → ∃ u,
    exec (.sampleArrival 23 v) s = .next u ∧ u = { s with channels := u.channels })

/-- A port pressure sample (R148): the last pressure is taken; a SERVING port at its limit becomes PRESSURE_HOLD with
the notice, a held port below its limit less its hysteresis becomes IDLE, and the Grout Controller then takes its state
again; any other port changes nothing further. -/
def Obligations.PortPressureActs : Prop :=
  ∀ (p : Fin 6) (v : Word16) (s : State), ∃ t u, exec (.sampleArrival (portChannel p) v) s = .next t ∧
    u = { s with channels := t.channels, ports := u.ports, latched := u.latched } ∧
    (s.ports[p].state = .serving → s.ports[p].limit ≤ min v.toNat 1000 → t = groutSettle u ∧
      u.ports = s.ports.set p { s.ports[p] with
        lastPressure := min v.toNat 1000, state := .pressureHold
        timer := { s.ports[p].timer with running := false } } ∧
      u.latched = s.latched ||| Notice.portPressureHold.bit) ∧
    (s.ports[p].state = .pressureHold → min v.toNat 1000 < s.ports[p].limit - s.ports[p].hysteresis →
      t = groutSettle u ∧ u.latched = s.latched ∧
      u.ports = s.ports.set p { s.ports[p] with lastPressure := min v.toNat 1000, state := .idle }) ∧
    (¬ (s.ports[p].state = .serving ∧ s.ports[p].limit ≤ min v.toNat 1000) →
      ¬ (s.ports[p].state = .pressureHold ∧ min v.toNat 1000 < s.ports[p].limit - s.ports[p].hysteresis) →
      t = u ∧ u.latched = s.latched ∧
      u.ports = s.ports.set p { s.ports[p] with lastPressure := min v.toNat 1000 })

/-! ### The screw -/

/-- SET_SCREW_MODE under either of its rows, with its eight result bytes (R168), and the AUTO law on a chamber pressure
sample (R165); when the screw runs (R162), its ceiling, and what clamping to its range gives (R163). -/
def Obligations.ScrewModeAndLaw : Prop :=
  (∀ s : State, (screwRunning s = true ↔ s.cycle = .boring ∧ gateOpen s = true) ∧
    screwCeiling s = (if overExcavation s = true ∧ s.params.screwBalanceCeiling ≤ s.params.screwMax then
        s.params.screwBalanceCeiling
      else s.params.screwMax) ∧
    ∀ v : Int, s.params.screwMin ≤ screwCeiling s →
      (screwClamp s v : Int) = max (s.params.screwMin : Int) (min v (screwCeiling s))) ∧
  (∀ c : Request → Instr, c = .setScrewModeManual ∨ c = .setScrewModeAuto →
    (∀ (r : Request) (s : State), r.args.length = 3 → field r.args 0 1 = 0 →
      exec (c r) s = .next (respond 0x78 r s.link.answer
        ⟨{ s with screw := { s.screw with mode := .auto } }, .done,
          [0x00] ++ beBytes 2 s.outputs[(22 : Fin 25)].value ++ beBytes 2 s.screw.manual ++
            beBytes 2 (screwCeiling s) ++
            beBytes 1 (flagBits [screwRunning s, gateOpen s, s.screw.chamberHeld, overExcavation s])⟩)) ∧
    (∀ (r : Request) (s : State), r.args.length = 3 → field r.args 0 1 = 1 → ∃ u,
      exec (c r) s = .next (respond 0x78 r s.link.answer
        ⟨u, if s.params.screwMin ≤ field r.args 1 2 ∧ field r.args 1 2 ≤ screwCeiling s then .done else .doneClamped,
          [0x01] ++ beBytes 2 u.outputs[(22 : Fin 25)].value ++ beBytes 2 u.screw.manual ++
            beBytes 2 (screwCeiling s) ++
            beBytes 1 (flagBits [screwRunning s, gateOpen s, s.screw.chamberHeld, overExcavation s])⟩) ∧
      u = { s with screw := ⟨.manual, min (field r.args 1 2) 250, s.screw.chamberHeld⟩, outputs := u.outputs } ∧
      OutputsKeptBut [22] s u ∧
      u.outputs[(22 : Fin 25)].value =
        if screwRunning s then screwClamp s u.screw.manual else s.outputs[(22 : Fin 25)].value) ∧
    (∀ (r : Request) (s : State), r.args.length = 3 → 1 < field r.args 0 1 →
      exec (c r) s = .next (respond 0x78 r s.link.answer ⟨s, .badArgument, []⟩))) ∧
  (∀ (v : Word16) (s : State), ∃ t, exec (.sampleArrival 21 v) s = .next t ∧
    t = { s with channels := t.channels, outputs := t.outputs, screw := { s.screw with chamberHeld := false } } ∧
    OutputsKeptBut [22] s t ∧
    (s.screw.mode = .manual ∨ screwRunning s = false → t.outputs = s.outputs) ∧
    (∀ raw limited : Int, s.screw.mode = .auto → screwRunning s = true →
      raw = ((min v.toNat 1000 : Int) - s.params.faceTarget) * s.params.screwGain →
      limited = max (-(s.params.screwStep : Int)) (min (raw.tdiv 1000) s.params.screwStep) →
      t.outputs[(22 : Fin 25)].value = screwClamp s (s.outputs[(22 : Fin 25)].value + limited)))

/-! ### The Field Port -/

/-- A sample arrival (R19): the channel record takes the clamped value, is FRESH with its stale timer loaded, keeps the
overrun of a timer that had expired as its last lapse, and says whether the value was clamped; no other channel record
changes, and what no owner of a channel changes is as it was. -/
def Obligations.SamplesTaken : Prop :=
  ∀ (c : Fin 30) (v : Word16) (s : State), ∃ t, exec (.sampleArrival c v) s = .next t ∧
    t.channels = s.channels.set c
      ⟨min v.toNat (upperEnd c), true, ⟨s.params.staleTime, true⟩,
        if s.channels[c].timer.running = true ∧ s.channels[c].timer.value ≤ 0 then (-s.channels[c].timer.value).toNat
        else s.channels[c].lastLapse, decide (upperEnd c < v.toNat)⟩ ∧
    t.link = s.link ∧ t.enabled = s.enabled ∧ t.capture = s.capture ∧ t.clock = s.clock ∧ t.sending = s.sending ∧
    t.inputs = s.inputs ∧ t.groupFlags = s.groupFlags ∧ t.params = s.params ∧ t.loadPointer = s.loadPointer ∧
    t.quadrants = s.quadrants ∧ t.rotation = s.rotation ∧ t.pending = s.pending ∧ t.screw.mode = s.screw.mode ∧
    t.screw.manual = s.screw.manual ∧ t.starvation = s.starvation

/-- A sample message with a wrong check byte, or with a channel number above 29, is discarded and has no effect (R18).
That a row SAMPLE_MESSAGE_DISCARDED whose message passes both checks, an operand the row does not have, is taken as a
sample arrival is the model's choice (log 8). -/
def Obligations.DamagedMessagesDiscarded : Prop :=
  (∀ (channel : Byte) (v : Word16) (check : Byte) (s : State),
    check ≠ crc8 (channel :: beBytes 2 v.toNat) ∨ 29 < channel.toNat →
    exec (.sampleMessageDiscarded channel v check) s = .next s) ∧
  (∀ (channel : Byte) (c : Fin 30) (v : Word16) (s : State), channel.toNat = c.val →
    exec (.sampleMessageDiscarded channel v (crc8 (channel :: beBytes 2 v.toNat))) s = exec (.sampleArrival c v) s)

/-- The transmitter (R26, R27): free, it begins the message of the lowest-numbered marked output, with the value the
word then holds, and clears that mark; at the end of a message it is free. That the command SETPOINT_MESSAGE has no
effect with the transmitter busy or no mark set is the model's choice (log 2). A step that gives an output word another
value leaves its send mark set (R26), whatever command runs; that no message begins within such a step is the model's
choice too, and unsafe (log 1). -/
def Obligations.OutputsMarkedAndSent : Prop :=
  (∀ (o : Fin 25) (s : State), s.sending = none → s.outputs[o].mark = true →
    (∀ o' : Fin 25, o'.val < o.val → s.outputs[o'].mark = false) →
    exec .setpointMessage s = .next { s with
      sending := some ⟨o, s.outputs[o].value⟩, outputs := s.outputs.set o ⟨s.outputs[o].value, false⟩ }) ∧
  (∀ s : State, s.sending ≠ none ∨ (∀ o : Fin 25, s.outputs[o].mark = false) →
    exec .setpointMessage s = .next s) ∧
  (∀ s : State, exec .setpointMessageEnd s = .next { s with sending := none }) ∧
  (∀ (o : Fin 25) (s t : State), step s = .next t → t.outputs[o].value ≠ s.outputs[o].value →
    t.outputs[o].mark = true)

/-! ### Discrete inputs -/

/-- A line change (R28, R30, R31) on an input no block uses, on HEAD_TURNING, STOP, LOCK_DOOR and SCREW_GATE: the level
is taken; a sense event of an input whose mask is set reaches its group; STOP becoming asserted trips (R48 to R50,
R139); the permit follows the door (R38); the screw follows the gate (R162); nothing else changes. The level already
held is no change (the model's choice, log 12). -/
def Obligations.LinesChange : Prop :=
  (∀ (i : Fin 12) (s : State), exec (.lineChange i s.inputs[i].level) s = .next s) ∧
  (∀ (i : Fin 12) (level : Level) (s : State), s.inputs[i].level ≠ level → i.val < 3 ∨ 6 ≤ i.val → ∃ t,
    exec (.lineChange i level) s = .next t ∧
    t.inputs = s.inputs.set i { s.inputs[i] with level := level } ∧
    (let event := match s.inputs[i].mode with
      | .low => level = .low
      | .rising => level = .high
      | .falling => level = .low
      | .any => True
    (event ∧ s.inputs[i].mask = true →
      ∀ g : Fin 3, t.groupFlags[g] = (s.groupFlags[g] || i.val / 4 == g.val)) ∧
    (¬ event ∨ s.inputs[i].mask = false → t.groupFlags = s.groupFlags) ∧
    InputActs i (event ∧ s.inputs[i].mask = true) s t))

/-- SET_SENSE (R29, R32): mode and mask are taken, bad arguments and TRIPPED are refused; the change raises a sense
event only in the mode LOW, when it makes the input asserted, judged by the new mask. Its using block acts as on a line
change (R30): STOP becoming asserted trips (R48, R49), the permit follows the door (R38), the screw the gate (R162);
such an event of DI3 to DI5 does to the placement what the line change from HIGH to LOW does in the mode LOW (R129,
R131, R132, ErectorEvents), and without one the placement is as it was. -/
def Obligations.SenseSet : Prop :=
  (∀ (r : Request) (i : Fin 12) (mode : SenseMode) (mask : Bool) (s : State),
    r.args = beBytes 1 i.val ++ beBytes 1 mode.code ++ beBytes 1 mask.toNat → s.cycle ≠ .tripped → ∃ u,
    exec (.setSense r) s = .next (respond 0x18 r s.link.answer ⟨u, .done, []⟩) ∧
    u.inputs = s.inputs.set i ⟨s.inputs[i].level, mode, mask⟩ ∧
    (let event := mode = .low ∧ s.inputs[i].level = .low ∧ (s.inputs[i].mode = .rising ∨ s.inputs[i].mode = .any)
    (event ∧ mask = true →
      ∀ g : Fin 3, u.groupFlags[g] = (s.groupFlags[g] || i.val / 4 == g.val)) ∧
    (¬ event ∨ mask = false → u.groupFlags = s.groupFlags) ∧
    (i.val < 3 ∨ 6 ≤ i.val → InputActs i (event ∧ mask = true) s u) ∧
    (i = 3 ∨ i = 4 ∨ i = 5 → ¬ event →
      u = { s with inputs := u.inputs, groupFlags := u.groupFlags, latched := u.latched } ∧ u.latched = s.latched) ∧
    (i = 3 ∨ i = 4 ∨ i = 5 → event →
      exec (.lineChange i .low) { s with inputs := s.inputs.set i ⟨.high, .low, mask⟩ } = .next u))) ∧
  (∀ (r : Request) (s : State), r.args.length = 3 → s.cycle ≠ .tripped →
    11 < field r.args 0 1 ∨ 3 < field r.args 1 1 ∨ 1 < field r.args 2 1 →
    exec (.setSense r) s = .next (respond 0x18 r s.link.answer ⟨s, .badArgument, []⟩)) ∧
  (∀ (r : Request) (s : State), r.args.length = 3 → s.cycle = .tripped →
    exec (.setSense r) s = .next (respond 0x18 r s.link.answer ⟨s, .wrongState, []⟩))

/-! ### What every step keeps -/

/-- Only event notices latch (R8), every parameter stays in its range (section 11.1, R163, R173), and every channel's
value in its own, its stale timer running while it is FRESH (R19, R25): every step keeps each of the three. -/
def Obligations.BoundsKept : Prop :=
  ∀ s t : State, step s = .next t →
    (LatchLaw s → LatchLaw t) ∧ (ParamLaw s → ParamLaw t) ∧ (ChannelLaw s → ChannelLaw t)

/-- No pulse and no volume is lost. Every step keeps the total of the pulses equal to those credited to the ports plus
the unattributed count, modulo 2^32 (R152). Every step keeps the account OPEN in BORING (section 3.1), and, with that,
the volume of an OPEN or CLOSED account the face area swept by its advance, the fraction of a litre carried in the
remainder (R100). -/
def Obligations.QuantitiesConserved : Prop :=
  (∀ s t : State, PulseLaw s → step s = .next t → PulseLaw t) ∧
  (∀ s t : State, StrokeLaw s → step s = .next t → StrokeLaw t) ∧
  (∀ s t : State, StrokeLaw s → VolumeLaw s → step s = .next t → VolumeLaw t)

/-- Every step keeps each ring's exposure what its advance gives and its target what its exposure gives (R115, R116,
R118). -/
def Obligations.ExposureKept : Prop := ∀ s t : State, ExposureLaw s → step s = .next t → ExposureLaw t

/-- Every step keeps the bounds of each tool record's duty, lifetime duty, remainder and limits, and its state what they
give (R55, R57, R80, R81); and it keeps the serials of the tool table distinct (R64, R70). -/
def Obligations.ToolRecordsKept : Prop :=
  (∀ s t : State, DutyLaw s → step s = .next t → DutyLaw t) ∧
  (∀ s t : State, SerialLaw s → step s = .next t → SerialLaw t)

/-- Every step keeps the summary, the gauge-worn flag and the configured flag what the records and parameters give (R37,
R58, R59), and the rotation permit ON exactly while R38's three conditions hold. -/
def Obligations.SummaryAndPermitKept : Prop :=
  ∀ s t : State, TableLaw s → PermitLaw s → step s = .next t → TableLaw t ∧ PermitLaw t

/-- Every step keeps each group setpoint what the cycle state calls for, never above the ceiling (R92, R93). -/
def Obligations.SetpointsKept : Prop := ∀ s t : State, SetpointLaw s → step s = .next t → SetpointLaw t

/-- Every step keeps the screw at 0 while it is stopped and within its range while it runs (R162, R163). -/
def Obligations.ScrewKept : Prop := ∀ s t : State, ScrewLaw s → step s = .next t → ScrewLaw t

/-- Every step keeps at most one port SERVING, only while grouting is allowed, with the valve and the pump rate
following it (R145, R150 and section 9.1). -/
def Obligations.GroutKept : Prop := ∀ s t : State, GroutLaw s → step s = .next t → GroutLaw t

/-- Every step keeps the hold limit: enough cylinders hold the ring while segments are placed, and outside BUILDING none
is commanded RETRACT and no placement is under way (R90, R125). With at most one ring under construction (BuildKept),
every step keeps the placement record to the tables of section 8.1: outside BUILDING the erector is IDLE, or HALTED in
TRIPPED; output 21, the current slot, the interrupted step, the step timer and the span's commands are what the erector
state calls for (R125, R127, R134, R136). And every step keeps the slots of each ring to R113 to R115, so that an IDLE
erector always finds a next slot on the ring it builds (R126). -/
def Obligations.HoldKept : Prop :=
  (∀ s t : State, HoldLaw s → step s = .next t → HoldLaw t) ∧
  (∀ s t : State, BuildLaw s → PlaceLaw s → step s = .next t → PlaceLaw t) ∧
  (∀ s t : State, BuildLaw s → PlaceLaw s → SlotLaw s → step s = .next t → SlotLaw t) ∧
  (∀ (older newer : List Ring) (x : Ring) (s : State), PlaceLaw s → SlotLaw s → s.place.erector = .idle →
    BuildsAt s older x newer → ∃ slot, x.nextSlot = some slot)

/-- Every step keeps at most one ring under construction, always one in BUILDING, and otherwise only in TRIPPED of a
configured part, never beside an OPEN account (R107, R44). The two premises beside it are laws that every step keeps by
themselves (SummaryAndPermitKept, HoldKept). Every step keeps the register within eight records whose numbers follow one
another, oldest first (R106, R108 to R110). -/
def Obligations.BuildKept : Prop :=
  (∀ s t : State, TableLaw s → HoldLaw s → BuildLaw s → step s = .next t → BuildLaw t) ∧
  (∀ s t : State, RegisterLaw s → step s = .next t → RegisterLaw t)

/-- Every step keeps the queue within eight entries, no segment identity held twice by queue and ring register, and one
entry reserved exactly while the erector is PICKING (R119, R120, R122). That no placement is under way outside BUILDING
is a law every step keeps by itself (HoldKept). -/
def Obligations.IdentitiesDistinct : Prop :=
  ∀ s t : State, HoldLaw s → FeedLaw s → step s = .next t → FeedLaw t

/-- The state after power-on reset meets every law of the statements above, so a run from it keeps them all. -/
def Obligations.ResetMeetsTheLaws : Prop :=
  LatchLaw State.reset ∧ ParamLaw State.reset ∧ ChannelLaw State.reset ∧ PulseLaw State.reset ∧
    StrokeLaw State.reset ∧ VolumeLaw State.reset ∧ ExposureLaw State.reset ∧ DutyLaw State.reset ∧
    SerialLaw State.reset ∧ TableLaw State.reset ∧ PermitLaw State.reset ∧ SetpointLaw State.reset ∧
    ScrewLaw State.reset ∧ GroutLaw State.reset ∧ HoldLaw State.reset ∧ BuildLaw State.reset ∧ FeedLaw State.reset ∧
    RegisterLaw State.reset ∧ PlaceLaw State.reset ∧ SlotLaw State.reset
end

