-- ==== Sys2Proof/Laws/State.lean ====
section
/-! SUPPORT. One lemma per field for each plain update of the state: a field the update does not name is as it was. -/

namespace Sys2Proof.Machine

section raise

variable (n : Notice) (s : State)

@[simp] theorem raise_link : (raise n s).link = s.link := rfl
@[simp] theorem raise_enabled : (raise n s).enabled = s.enabled := rfl
@[simp] theorem raise_capture : (raise n s).capture = s.capture := rfl
@[simp] theorem raise_clock : (raise n s).clock = s.clock := rfl
@[simp] theorem raise_channels : (raise n s).channels = s.channels := rfl
@[simp] theorem raise_outputs : (raise n s).outputs = s.outputs := rfl
@[simp] theorem raise_sending : (raise n s).sending = s.sending := rfl
@[simp] theorem raise_inputs : (raise n s).inputs = s.inputs := rfl
@[simp] theorem raise_groupFlags : (raise n s).groupFlags = s.groupFlags := rfl
@[simp] theorem raise_cycle : (raise n s).cycle = s.cycle := rfl
@[simp] theorem raise_tripCause : (raise n s).tripCause = s.tripCause := rfl
@[simp] theorem raise_furtherCauses : (raise n s).furtherCauses = s.furtherCauses := rfl
@[simp] theorem raise_configured : (raise n s).configured = s.configured := rfl
@[simp] theorem raise_params : (raise n s).params = s.params := rfl
@[simp] theorem raise_tools : (raise n s).tools = s.tools := rfl
@[simp] theorem raise_loadPointer : (raise n s).loadPointer = s.loadPointer := rfl
@[simp] theorem raise_checkCaptured : (raise n s).checkCaptured = s.checkCaptured := rfl
@[simp] theorem raise_checkFailures : (raise n s).checkFailures = s.checkFailures := rfl
@[simp] theorem raise_blocking : (raise n s).blocking = s.blocking := rfl
@[simp] theorem raise_positions : (raise n s).positions = s.positions := rfl
@[simp] theorem raise_gaugeWorn : (raise n s).gaugeWorn = s.gaugeWorn := rfl
@[simp] theorem raise_angle : (raise n s).angle = s.angle := rfl
@[simp] theorem raise_cylinders : (raise n s).cylinders = s.cylinders := rfl
@[simp] theorem raise_quadrants : (raise n s).quadrants = s.quadrants := rfl
@[simp] theorem raise_mass : (raise n s).mass = s.mass := rfl
@[simp] theorem raise_stroke : (raise n s).stroke = s.stroke := rfl
@[simp] theorem raise_rings : (raise n s).rings = s.rings := rfl
@[simp] theorem raise_feed : (raise n s).feed = s.feed := rfl
@[simp] theorem raise_starvation : (raise n s).starvation = s.starvation := rfl
@[simp] theorem raise_place : (raise n s).place = s.place := rfl
@[simp] theorem raise_ports : (raise n s).ports = s.ports := rfl
@[simp] theorem raise_rotation : (raise n s).rotation = s.rotation := rfl
@[simp] theorem raise_pointer : (raise n s).pointer = s.pointer := rfl
@[simp] theorem raise_pulse : (raise n s).pulse = s.pulse := rfl
@[simp] theorem raise_totalPulses : (raise n s).totalPulses = s.totalPulses := rfl
@[simp] theorem raise_unattributed : (raise n s).unattributed = s.unattributed := rfl
@[simp] theorem raise_surplus : (raise n s).surplus = s.surplus := rfl
@[simp] theorem raise_rebases : (raise n s).rebases = s.rebases := rfl
@[simp] theorem raise_screw : (raise n s).screw = s.screw := rfl
@[simp] theorem raise_pending : (raise n s).pending = s.pending := rfl
@[simp] theorem raise_latched : (raise n s).latched = s.latched ||| n.bit := rfl

end raise

section writeOutput

variable (o : Fin 25) (v : Nat) (s : State)

@[simp] theorem writeOutput_link : (writeOutput o v s).link = s.link := rfl
@[simp] theorem writeOutput_latched : (writeOutput o v s).latched = s.latched := rfl
@[simp] theorem writeOutput_enabled : (writeOutput o v s).enabled = s.enabled := rfl
@[simp] theorem writeOutput_capture : (writeOutput o v s).capture = s.capture := rfl
@[simp] theorem writeOutput_clock : (writeOutput o v s).clock = s.clock := rfl
@[simp] theorem writeOutput_channels : (writeOutput o v s).channels = s.channels := rfl
@[simp] theorem writeOutput_sending : (writeOutput o v s).sending = s.sending := rfl
@[simp] theorem writeOutput_inputs : (writeOutput o v s).inputs = s.inputs := rfl
@[simp] theorem writeOutput_groupFlags : (writeOutput o v s).groupFlags = s.groupFlags := rfl
@[simp] theorem writeOutput_cycle : (writeOutput o v s).cycle = s.cycle := rfl
@[simp] theorem writeOutput_tripCause : (writeOutput o v s).tripCause = s.tripCause := rfl
@[simp] theorem writeOutput_furtherCauses : (writeOutput o v s).furtherCauses = s.furtherCauses := rfl
@[simp] theorem writeOutput_configured : (writeOutput o v s).configured = s.configured := rfl
@[simp] theorem writeOutput_params : (writeOutput o v s).params = s.params := rfl
@[simp] theorem writeOutput_tools : (writeOutput o v s).tools = s.tools := rfl
@[simp] theorem writeOutput_loadPointer : (writeOutput o v s).loadPointer = s.loadPointer := rfl
@[simp] theorem writeOutput_checkCaptured : (writeOutput o v s).checkCaptured = s.checkCaptured := rfl
@[simp] theorem writeOutput_checkFailures : (writeOutput o v s).checkFailures = s.checkFailures := rfl
@[simp] theorem writeOutput_blocking : (writeOutput o v s).blocking = s.blocking := rfl
@[simp] theorem writeOutput_positions : (writeOutput o v s).positions = s.positions := rfl
@[simp] theorem writeOutput_gaugeWorn : (writeOutput o v s).gaugeWorn = s.gaugeWorn := rfl
@[simp] theorem writeOutput_angle : (writeOutput o v s).angle = s.angle := rfl
@[simp] theorem writeOutput_cylinders : (writeOutput o v s).cylinders = s.cylinders := rfl
@[simp] theorem writeOutput_quadrants : (writeOutput o v s).quadrants = s.quadrants := rfl
@[simp] theorem writeOutput_mass : (writeOutput o v s).mass = s.mass := rfl
@[simp] theorem writeOutput_stroke : (writeOutput o v s).stroke = s.stroke := rfl
@[simp] theorem writeOutput_rings : (writeOutput o v s).rings = s.rings := rfl
@[simp] theorem writeOutput_feed : (writeOutput o v s).feed = s.feed := rfl
@[simp] theorem writeOutput_starvation : (writeOutput o v s).starvation = s.starvation := rfl
@[simp] theorem writeOutput_place : (writeOutput o v s).place = s.place := rfl
@[simp] theorem writeOutput_ports : (writeOutput o v s).ports = s.ports := rfl
@[simp] theorem writeOutput_rotation : (writeOutput o v s).rotation = s.rotation := rfl
@[simp] theorem writeOutput_pointer : (writeOutput o v s).pointer = s.pointer := rfl
@[simp] theorem writeOutput_pulse : (writeOutput o v s).pulse = s.pulse := rfl
@[simp] theorem writeOutput_totalPulses : (writeOutput o v s).totalPulses = s.totalPulses := rfl
@[simp] theorem writeOutput_unattributed : (writeOutput o v s).unattributed = s.unattributed := rfl
@[simp] theorem writeOutput_surplus : (writeOutput o v s).surplus = s.surplus := rfl
@[simp] theorem writeOutput_rebases : (writeOutput o v s).rebases = s.rebases := rfl
@[simp] theorem writeOutput_screw : (writeOutput o v s).screw = s.screw := rfl
@[simp] theorem writeOutput_pending : (writeOutput o v s).pending = s.pending := rfl

end writeOutput

section markAll

variable (s : State)

@[simp] theorem markAll_link : (markAll s).link = s.link := by simp only [markAll]
@[simp] theorem markAll_latched : (markAll s).latched = s.latched := by simp only [markAll]
@[simp] theorem markAll_enabled : (markAll s).enabled = s.enabled := by simp only [markAll]
@[simp] theorem markAll_capture : (markAll s).capture = s.capture := by simp only [markAll]
@[simp] theorem markAll_clock : (markAll s).clock = s.clock := by simp only [markAll]
@[simp] theorem markAll_channels : (markAll s).channels = s.channels := by simp only [markAll]
@[simp] theorem markAll_sending : (markAll s).sending = s.sending := by simp only [markAll]
@[simp] theorem markAll_inputs : (markAll s).inputs = s.inputs := by simp only [markAll]
@[simp] theorem markAll_groupFlags : (markAll s).groupFlags = s.groupFlags := by simp only [markAll]
@[simp] theorem markAll_cycle : (markAll s).cycle = s.cycle := by simp only [markAll]
@[simp] theorem markAll_tripCause : (markAll s).tripCause = s.tripCause := by simp only [markAll]
@[simp] theorem markAll_furtherCauses : (markAll s).furtherCauses = s.furtherCauses := by simp only [markAll]
@[simp] theorem markAll_configured : (markAll s).configured = s.configured := by simp only [markAll]
@[simp] theorem markAll_params : (markAll s).params = s.params := by simp only [markAll]
@[simp] theorem markAll_tools : (markAll s).tools = s.tools := by simp only [markAll]
@[simp] theorem markAll_loadPointer : (markAll s).loadPointer = s.loadPointer := by simp only [markAll]
@[simp] theorem markAll_checkCaptured : (markAll s).checkCaptured = s.checkCaptured := by simp only [markAll]
@[simp] theorem markAll_checkFailures : (markAll s).checkFailures = s.checkFailures := by simp only [markAll]
@[simp] theorem markAll_blocking : (markAll s).blocking = s.blocking := by simp only [markAll]
@[simp] theorem markAll_positions : (markAll s).positions = s.positions := by simp only [markAll]
@[simp] theorem markAll_gaugeWorn : (markAll s).gaugeWorn = s.gaugeWorn := by simp only [markAll]
@[simp] theorem markAll_angle : (markAll s).angle = s.angle := by simp only [markAll]
@[simp] theorem markAll_cylinders : (markAll s).cylinders = s.cylinders := by simp only [markAll]
@[simp] theorem markAll_quadrants : (markAll s).quadrants = s.quadrants := by simp only [markAll]
@[simp] theorem markAll_mass : (markAll s).mass = s.mass := by simp only [markAll]
@[simp] theorem markAll_stroke : (markAll s).stroke = s.stroke := by simp only [markAll]
@[simp] theorem markAll_rings : (markAll s).rings = s.rings := by simp only [markAll]
@[simp] theorem markAll_feed : (markAll s).feed = s.feed := by simp only [markAll]
@[simp] theorem markAll_starvation : (markAll s).starvation = s.starvation := by simp only [markAll]
@[simp] theorem markAll_place : (markAll s).place = s.place := by simp only [markAll]
@[simp] theorem markAll_ports : (markAll s).ports = s.ports := by simp only [markAll]
@[simp] theorem markAll_rotation : (markAll s).rotation = s.rotation := by simp only [markAll]
@[simp] theorem markAll_pointer : (markAll s).pointer = s.pointer := by simp only [markAll]
@[simp] theorem markAll_pulse : (markAll s).pulse = s.pulse := by simp only [markAll]
@[simp] theorem markAll_totalPulses : (markAll s).totalPulses = s.totalPulses := by simp only [markAll]
@[simp] theorem markAll_unattributed : (markAll s).unattributed = s.unattributed := by simp only [markAll]
@[simp] theorem markAll_surplus : (markAll s).surplus = s.surplus := by simp only [markAll]
@[simp] theorem markAll_rebases : (markAll s).rebases = s.rebases := by simp only [markAll]
@[simp] theorem markAll_screw : (markAll s).screw = s.screw := by simp only [markAll]
@[simp] theorem markAll_pending : (markAll s).pending = s.pending := by simp only [markAll]

end markAll

section deriveSetpoints

variable (s : State)

@[simp] theorem deriveSetpoints_link : (deriveSetpoints s).link = s.link := by simp only [deriveSetpoints]
@[simp] theorem deriveSetpoints_latched : (deriveSetpoints s).latched = s.latched := by simp only [deriveSetpoints]
@[simp] theorem deriveSetpoints_enabled : (deriveSetpoints s).enabled = s.enabled := by simp only [deriveSetpoints]
@[simp] theorem deriveSetpoints_capture : (deriveSetpoints s).capture = s.capture := by simp only [deriveSetpoints]
@[simp] theorem deriveSetpoints_clock : (deriveSetpoints s).clock = s.clock := by simp only [deriveSetpoints]
@[simp] theorem deriveSetpoints_channels : (deriveSetpoints s).channels = s.channels := by simp only [deriveSetpoints]
@[simp] theorem deriveSetpoints_sending : (deriveSetpoints s).sending = s.sending := by simp only [deriveSetpoints]
@[simp] theorem deriveSetpoints_inputs : (deriveSetpoints s).inputs = s.inputs := by simp only [deriveSetpoints]
@[simp] theorem deriveSetpoints_groupFlags : (deriveSetpoints s).groupFlags = s.groupFlags := by simp only [deriveSetpoints]
@[simp] theorem deriveSetpoints_cycle : (deriveSetpoints s).cycle = s.cycle := by simp only [deriveSetpoints]
@[simp] theorem deriveSetpoints_tripCause : (deriveSetpoints s).tripCause = s.tripCause := by simp only [deriveSetpoints]
@[simp] theorem deriveSetpoints_furtherCauses : (deriveSetpoints s).furtherCauses = s.furtherCauses := by simp only [deriveSetpoints]
@[simp] theorem deriveSetpoints_configured : (deriveSetpoints s).configured = s.configured := by simp only [deriveSetpoints]
@[simp] theorem deriveSetpoints_params : (deriveSetpoints s).params = s.params := by simp only [deriveSetpoints]
@[simp] theorem deriveSetpoints_tools : (deriveSetpoints s).tools = s.tools := by simp only [deriveSetpoints]
@[simp] theorem deriveSetpoints_loadPointer : (deriveSetpoints s).loadPointer = s.loadPointer := by simp only [deriveSetpoints]
@[simp] theorem deriveSetpoints_checkCaptured : (deriveSetpoints s).checkCaptured = s.checkCaptured := by simp only [deriveSetpoints]
@[simp] theorem deriveSetpoints_checkFailures : (deriveSetpoints s).checkFailures = s.checkFailures := by simp only [deriveSetpoints]
@[simp] theorem deriveSetpoints_blocking : (deriveSetpoints s).blocking = s.blocking := by simp only [deriveSetpoints]
@[simp] theorem deriveSetpoints_positions : (deriveSetpoints s).positions = s.positions := by simp only [deriveSetpoints]
@[simp] theorem deriveSetpoints_gaugeWorn : (deriveSetpoints s).gaugeWorn = s.gaugeWorn := by simp only [deriveSetpoints]
@[simp] theorem deriveSetpoints_angle : (deriveSetpoints s).angle = s.angle := by simp only [deriveSetpoints]
@[simp] theorem deriveSetpoints_cylinders : (deriveSetpoints s).cylinders = s.cylinders := by simp only [deriveSetpoints]
@[simp] theorem deriveSetpoints_quadrants : (deriveSetpoints s).quadrants = s.quadrants := by simp only [deriveSetpoints]
@[simp] theorem deriveSetpoints_mass : (deriveSetpoints s).mass = s.mass := by simp only [deriveSetpoints]
@[simp] theorem deriveSetpoints_stroke : (deriveSetpoints s).stroke = s.stroke := by simp only [deriveSetpoints]
@[simp] theorem deriveSetpoints_rings : (deriveSetpoints s).rings = s.rings := by simp only [deriveSetpoints]
@[simp] theorem deriveSetpoints_feed : (deriveSetpoints s).feed = s.feed := by simp only [deriveSetpoints]
@[simp] theorem deriveSetpoints_starvation : (deriveSetpoints s).starvation = s.starvation := by simp only [deriveSetpoints]
@[simp] theorem deriveSetpoints_place : (deriveSetpoints s).place = s.place := by simp only [deriveSetpoints]
@[simp] theorem deriveSetpoints_ports : (deriveSetpoints s).ports = s.ports := by simp only [deriveSetpoints]
@[simp] theorem deriveSetpoints_rotation : (deriveSetpoints s).rotation = s.rotation := by simp only [deriveSetpoints]
@[simp] theorem deriveSetpoints_pointer : (deriveSetpoints s).pointer = s.pointer := by simp only [deriveSetpoints]
@[simp] theorem deriveSetpoints_pulse : (deriveSetpoints s).pulse = s.pulse := by simp only [deriveSetpoints]
@[simp] theorem deriveSetpoints_totalPulses : (deriveSetpoints s).totalPulses = s.totalPulses := by simp only [deriveSetpoints]
@[simp] theorem deriveSetpoints_unattributed : (deriveSetpoints s).unattributed = s.unattributed := by simp only [deriveSetpoints]
@[simp] theorem deriveSetpoints_surplus : (deriveSetpoints s).surplus = s.surplus := by simp only [deriveSetpoints]
@[simp] theorem deriveSetpoints_rebases : (deriveSetpoints s).rebases = s.rebases := by simp only [deriveSetpoints]
@[simp] theorem deriveSetpoints_screw : (deriveSetpoints s).screw = s.screw := by simp only [deriveSetpoints]
@[simp] theorem deriveSetpoints_pending : (deriveSetpoints s).pending = s.pending := by simp only [deriveSetpoints]

end deriveSetpoints

section commandWhere

variable (f : Fin 16 → Bool) (c : Command) (w : Option Owner) (s : State)

@[simp] theorem commandWhere_link : (commandWhere f c w s).link = s.link := by simp only [commandWhere]
@[simp] theorem commandWhere_latched : (commandWhere f c w s).latched = s.latched := by simp only [commandWhere]
@[simp] theorem commandWhere_enabled : (commandWhere f c w s).enabled = s.enabled := by simp only [commandWhere]
@[simp] theorem commandWhere_capture : (commandWhere f c w s).capture = s.capture := by simp only [commandWhere]
@[simp] theorem commandWhere_clock : (commandWhere f c w s).clock = s.clock := by simp only [commandWhere]
@[simp] theorem commandWhere_channels : (commandWhere f c w s).channels = s.channels := by simp only [commandWhere]
@[simp] theorem commandWhere_sending : (commandWhere f c w s).sending = s.sending := by simp only [commandWhere]
@[simp] theorem commandWhere_inputs : (commandWhere f c w s).inputs = s.inputs := by simp only [commandWhere]
@[simp] theorem commandWhere_groupFlags : (commandWhere f c w s).groupFlags = s.groupFlags := by simp only [commandWhere]
@[simp] theorem commandWhere_cycle : (commandWhere f c w s).cycle = s.cycle := by simp only [commandWhere]
@[simp] theorem commandWhere_tripCause : (commandWhere f c w s).tripCause = s.tripCause := by simp only [commandWhere]
@[simp] theorem commandWhere_furtherCauses : (commandWhere f c w s).furtherCauses = s.furtherCauses := by simp only [commandWhere]
@[simp] theorem commandWhere_configured : (commandWhere f c w s).configured = s.configured := by simp only [commandWhere]
@[simp] theorem commandWhere_params : (commandWhere f c w s).params = s.params := by simp only [commandWhere]
@[simp] theorem commandWhere_tools : (commandWhere f c w s).tools = s.tools := by simp only [commandWhere]
@[simp] theorem commandWhere_loadPointer : (commandWhere f c w s).loadPointer = s.loadPointer := by simp only [commandWhere]
@[simp] theorem commandWhere_checkCaptured : (commandWhere f c w s).checkCaptured = s.checkCaptured := by simp only [commandWhere]
@[simp] theorem commandWhere_checkFailures : (commandWhere f c w s).checkFailures = s.checkFailures := by simp only [commandWhere]
@[simp] theorem commandWhere_blocking : (commandWhere f c w s).blocking = s.blocking := by simp only [commandWhere]
@[simp] theorem commandWhere_positions : (commandWhere f c w s).positions = s.positions := by simp only [commandWhere]
@[simp] theorem commandWhere_gaugeWorn : (commandWhere f c w s).gaugeWorn = s.gaugeWorn := by simp only [commandWhere]
@[simp] theorem commandWhere_angle : (commandWhere f c w s).angle = s.angle := by simp only [commandWhere]
@[simp] theorem commandWhere_quadrants : (commandWhere f c w s).quadrants = s.quadrants := by simp only [commandWhere]
@[simp] theorem commandWhere_mass : (commandWhere f c w s).mass = s.mass := by simp only [commandWhere]
@[simp] theorem commandWhere_stroke : (commandWhere f c w s).stroke = s.stroke := by simp only [commandWhere]
@[simp] theorem commandWhere_rings : (commandWhere f c w s).rings = s.rings := by simp only [commandWhere]
@[simp] theorem commandWhere_feed : (commandWhere f c w s).feed = s.feed := by simp only [commandWhere]
@[simp] theorem commandWhere_starvation : (commandWhere f c w s).starvation = s.starvation := by simp only [commandWhere]
@[simp] theorem commandWhere_place : (commandWhere f c w s).place = s.place := by simp only [commandWhere]
@[simp] theorem commandWhere_ports : (commandWhere f c w s).ports = s.ports := by simp only [commandWhere]
@[simp] theorem commandWhere_rotation : (commandWhere f c w s).rotation = s.rotation := by simp only [commandWhere]
@[simp] theorem commandWhere_pointer : (commandWhere f c w s).pointer = s.pointer := by simp only [commandWhere]
@[simp] theorem commandWhere_pulse : (commandWhere f c w s).pulse = s.pulse := by simp only [commandWhere]
@[simp] theorem commandWhere_totalPulses : (commandWhere f c w s).totalPulses = s.totalPulses := by simp only [commandWhere]
@[simp] theorem commandWhere_unattributed : (commandWhere f c w s).unattributed = s.unattributed := by simp only [commandWhere]
@[simp] theorem commandWhere_surplus : (commandWhere f c w s).surplus = s.surplus := by simp only [commandWhere]
@[simp] theorem commandWhere_rebases : (commandWhere f c w s).rebases = s.rebases := by simp only [commandWhere]
@[simp] theorem commandWhere_screw : (commandWhere f c w s).screw = s.screw := by simp only [commandWhere]
@[simp] theorem commandWhere_pending : (commandWhere f c w s).pending = s.pending := by simp only [commandWhere]

end commandWhere

section setPort

variable (p : Fin 6) (f : Port → Port) (s : State)

@[simp] theorem setPort_link : (setPort p f s).link = s.link := rfl
@[simp] theorem setPort_latched : (setPort p f s).latched = s.latched := rfl
@[simp] theorem setPort_enabled : (setPort p f s).enabled = s.enabled := rfl
@[simp] theorem setPort_capture : (setPort p f s).capture = s.capture := rfl
@[simp] theorem setPort_clock : (setPort p f s).clock = s.clock := rfl
@[simp] theorem setPort_channels : (setPort p f s).channels = s.channels := rfl
@[simp] theorem setPort_outputs : (setPort p f s).outputs = s.outputs := rfl
@[simp] theorem setPort_sending : (setPort p f s).sending = s.sending := rfl
@[simp] theorem setPort_inputs : (setPort p f s).inputs = s.inputs := rfl
@[simp] theorem setPort_groupFlags : (setPort p f s).groupFlags = s.groupFlags := rfl
@[simp] theorem setPort_cycle : (setPort p f s).cycle = s.cycle := rfl
@[simp] theorem setPort_tripCause : (setPort p f s).tripCause = s.tripCause := rfl
@[simp] theorem setPort_furtherCauses : (setPort p f s).furtherCauses = s.furtherCauses := rfl
@[simp] theorem setPort_configured : (setPort p f s).configured = s.configured := rfl
@[simp] theorem setPort_params : (setPort p f s).params = s.params := rfl
@[simp] theorem setPort_tools : (setPort p f s).tools = s.tools := rfl
@[simp] theorem setPort_loadPointer : (setPort p f s).loadPointer = s.loadPointer := rfl
@[simp] theorem setPort_checkCaptured : (setPort p f s).checkCaptured = s.checkCaptured := rfl
@[simp] theorem setPort_checkFailures : (setPort p f s).checkFailures = s.checkFailures := rfl
@[simp] theorem setPort_blocking : (setPort p f s).blocking = s.blocking := rfl
@[simp] theorem setPort_positions : (setPort p f s).positions = s.positions := rfl
@[simp] theorem setPort_gaugeWorn : (setPort p f s).gaugeWorn = s.gaugeWorn := rfl
@[simp] theorem setPort_angle : (setPort p f s).angle = s.angle := rfl
@[simp] theorem setPort_cylinders : (setPort p f s).cylinders = s.cylinders := rfl
@[simp] theorem setPort_quadrants : (setPort p f s).quadrants = s.quadrants := rfl
@[simp] theorem setPort_mass : (setPort p f s).mass = s.mass := rfl
@[simp] theorem setPort_stroke : (setPort p f s).stroke = s.stroke := rfl
@[simp] theorem setPort_rings : (setPort p f s).rings = s.rings := rfl
@[simp] theorem setPort_feed : (setPort p f s).feed = s.feed := rfl
@[simp] theorem setPort_starvation : (setPort p f s).starvation = s.starvation := rfl
@[simp] theorem setPort_place : (setPort p f s).place = s.place := rfl
@[simp] theorem setPort_rotation : (setPort p f s).rotation = s.rotation := rfl
@[simp] theorem setPort_pointer : (setPort p f s).pointer = s.pointer := rfl
@[simp] theorem setPort_pulse : (setPort p f s).pulse = s.pulse := rfl
@[simp] theorem setPort_totalPulses : (setPort p f s).totalPulses = s.totalPulses := rfl
@[simp] theorem setPort_unattributed : (setPort p f s).unattributed = s.unattributed := rfl
@[simp] theorem setPort_surplus : (setPort p f s).surplus = s.surplus := rfl
@[simp] theorem setPort_rebases : (setPort p f s).rebases = s.rebases := rfl
@[simp] theorem setPort_screw : (setPort p f s).screw = s.screw := rfl
@[simp] theorem setPort_pending : (setPort p f s).pending = s.pending := rfl
@[simp] theorem setPort_ports : (setPort p f s).ports = s.ports.set p (f s.ports[p]) := rfl

end setPort

section setCylinder

variable (i : Fin 16) (f : Cylinder → Cylinder) (s : State)

@[simp] theorem setCylinder_link : (setCylinder i f s).link = s.link := rfl
@[simp] theorem setCylinder_latched : (setCylinder i f s).latched = s.latched := rfl
@[simp] theorem setCylinder_enabled : (setCylinder i f s).enabled = s.enabled := rfl
@[simp] theorem setCylinder_capture : (setCylinder i f s).capture = s.capture := rfl
@[simp] theorem setCylinder_clock : (setCylinder i f s).clock = s.clock := rfl
@[simp] theorem setCylinder_channels : (setCylinder i f s).channels = s.channels := rfl
@[simp] theorem setCylinder_outputs : (setCylinder i f s).outputs = s.outputs := rfl
@[simp] theorem setCylinder_sending : (setCylinder i f s).sending = s.sending := rfl
@[simp] theorem setCylinder_inputs : (setCylinder i f s).inputs = s.inputs := rfl
@[simp] theorem setCylinder_groupFlags : (setCylinder i f s).groupFlags = s.groupFlags := rfl
@[simp] theorem setCylinder_cycle : (setCylinder i f s).cycle = s.cycle := rfl
@[simp] theorem setCylinder_tripCause : (setCylinder i f s).tripCause = s.tripCause := rfl
@[simp] theorem setCylinder_furtherCauses : (setCylinder i f s).furtherCauses = s.furtherCauses := rfl
@[simp] theorem setCylinder_configured : (setCylinder i f s).configured = s.configured := rfl
@[simp] theorem setCylinder_params : (setCylinder i f s).params = s.params := rfl
@[simp] theorem setCylinder_tools : (setCylinder i f s).tools = s.tools := rfl
@[simp] theorem setCylinder_loadPointer : (setCylinder i f s).loadPointer = s.loadPointer := rfl
@[simp] theorem setCylinder_checkCaptured : (setCylinder i f s).checkCaptured = s.checkCaptured := rfl
@[simp] theorem setCylinder_checkFailures : (setCylinder i f s).checkFailures = s.checkFailures := rfl
@[simp] theorem setCylinder_blocking : (setCylinder i f s).blocking = s.blocking := rfl
@[simp] theorem setCylinder_positions : (setCylinder i f s).positions = s.positions := rfl
@[simp] theorem setCylinder_gaugeWorn : (setCylinder i f s).gaugeWorn = s.gaugeWorn := rfl
@[simp] theorem setCylinder_angle : (setCylinder i f s).angle = s.angle := rfl
@[simp] theorem setCylinder_quadrants : (setCylinder i f s).quadrants = s.quadrants := rfl
@[simp] theorem setCylinder_mass : (setCylinder i f s).mass = s.mass := rfl
@[simp] theorem setCylinder_stroke : (setCylinder i f s).stroke = s.stroke := rfl
@[simp] theorem setCylinder_rings : (setCylinder i f s).rings = s.rings := rfl
@[simp] theorem setCylinder_feed : (setCylinder i f s).feed = s.feed := rfl
@[simp] theorem setCylinder_starvation : (setCylinder i f s).starvation = s.starvation := rfl
@[simp] theorem setCylinder_place : (setCylinder i f s).place = s.place := rfl
@[simp] theorem setCylinder_ports : (setCylinder i f s).ports = s.ports := rfl
@[simp] theorem setCylinder_rotation : (setCylinder i f s).rotation = s.rotation := rfl
@[simp] theorem setCylinder_pointer : (setCylinder i f s).pointer = s.pointer := rfl
@[simp] theorem setCylinder_pulse : (setCylinder i f s).pulse = s.pulse := rfl
@[simp] theorem setCylinder_totalPulses : (setCylinder i f s).totalPulses = s.totalPulses := rfl
@[simp] theorem setCylinder_unattributed : (setCylinder i f s).unattributed = s.unattributed := rfl
@[simp] theorem setCylinder_surplus : (setCylinder i f s).surplus = s.surplus := rfl
@[simp] theorem setCylinder_rebases : (setCylinder i f s).rebases = s.rebases := rfl
@[simp] theorem setCylinder_screw : (setCylinder i f s).screw = s.screw := rfl
@[simp] theorem setCylinder_pending : (setCylinder i f s).pending = s.pending := rfl
@[simp] theorem setCylinder_cylinders :
    (setCylinder i f s).cylinders = s.cylinders.set i (f s.cylinders[i]) := rfl

end setCylinder

section updateBuilding

variable (f : Ring → Ring) (s : State)

@[simp] theorem updateBuilding_link : (updateBuilding f s).link = s.link := rfl
@[simp] theorem updateBuilding_latched : (updateBuilding f s).latched = s.latched := rfl
@[simp] theorem updateBuilding_enabled : (updateBuilding f s).enabled = s.enabled := rfl
@[simp] theorem updateBuilding_capture : (updateBuilding f s).capture = s.capture := rfl
@[simp] theorem updateBuilding_clock : (updateBuilding f s).clock = s.clock := rfl
@[simp] theorem updateBuilding_channels : (updateBuilding f s).channels = s.channels := rfl
@[simp] theorem updateBuilding_outputs : (updateBuilding f s).outputs = s.outputs := rfl
@[simp] theorem updateBuilding_sending : (updateBuilding f s).sending = s.sending := rfl
@[simp] theorem updateBuilding_inputs : (updateBuilding f s).inputs = s.inputs := rfl
@[simp] theorem updateBuilding_groupFlags : (updateBuilding f s).groupFlags = s.groupFlags := rfl
@[simp] theorem updateBuilding_cycle : (updateBuilding f s).cycle = s.cycle := rfl
@[simp] theorem updateBuilding_tripCause : (updateBuilding f s).tripCause = s.tripCause := rfl
@[simp] theorem updateBuilding_furtherCauses : (updateBuilding f s).furtherCauses = s.furtherCauses := rfl
@[simp] theorem updateBuilding_configured : (updateBuilding f s).configured = s.configured := rfl
@[simp] theorem updateBuilding_params : (updateBuilding f s).params = s.params := rfl
@[simp] theorem updateBuilding_tools : (updateBuilding f s).tools = s.tools := rfl
@[simp] theorem updateBuilding_loadPointer : (updateBuilding f s).loadPointer = s.loadPointer := rfl
@[simp] theorem updateBuilding_checkCaptured : (updateBuilding f s).checkCaptured = s.checkCaptured := rfl
@[simp] theorem updateBuilding_checkFailures : (updateBuilding f s).checkFailures = s.checkFailures := rfl
@[simp] theorem updateBuilding_blocking : (updateBuilding f s).blocking = s.blocking := rfl
@[simp] theorem updateBuilding_positions : (updateBuilding f s).positions = s.positions := rfl
@[simp] theorem updateBuilding_gaugeWorn : (updateBuilding f s).gaugeWorn = s.gaugeWorn := rfl
@[simp] theorem updateBuilding_angle : (updateBuilding f s).angle = s.angle := rfl
@[simp] theorem updateBuilding_cylinders : (updateBuilding f s).cylinders = s.cylinders := rfl
@[simp] theorem updateBuilding_quadrants : (updateBuilding f s).quadrants = s.quadrants := rfl
@[simp] theorem updateBuilding_mass : (updateBuilding f s).mass = s.mass := rfl
@[simp] theorem updateBuilding_stroke : (updateBuilding f s).stroke = s.stroke := rfl
@[simp] theorem updateBuilding_feed : (updateBuilding f s).feed = s.feed := rfl
@[simp] theorem updateBuilding_starvation : (updateBuilding f s).starvation = s.starvation := rfl
@[simp] theorem updateBuilding_place : (updateBuilding f s).place = s.place := rfl
@[simp] theorem updateBuilding_ports : (updateBuilding f s).ports = s.ports := rfl
@[simp] theorem updateBuilding_rotation : (updateBuilding f s).rotation = s.rotation := rfl
@[simp] theorem updateBuilding_pointer : (updateBuilding f s).pointer = s.pointer := rfl
@[simp] theorem updateBuilding_pulse : (updateBuilding f s).pulse = s.pulse := rfl
@[simp] theorem updateBuilding_totalPulses : (updateBuilding f s).totalPulses = s.totalPulses := rfl
@[simp] theorem updateBuilding_unattributed : (updateBuilding f s).unattributed = s.unattributed := rfl
@[simp] theorem updateBuilding_surplus : (updateBuilding f s).surplus = s.surplus := rfl
@[simp] theorem updateBuilding_rebases : (updateBuilding f s).rebases = s.rebases := rfl
@[simp] theorem updateBuilding_screw : (updateBuilding f s).screw = s.screw := rfl
@[simp] theorem updateBuilding_pending : (updateBuilding f s).pending = s.pending := rfl
@[simp] theorem updateBuilding_rings :
    (updateBuilding f s).rings = modifyFirst (fun r => r.state == .building) f s.rings := rfl

end updateBuilding

section storeTool

variable (i : Fin 64) (x : ToolFields) (s : State)

@[simp] theorem storeTool_link : (storeTool i x s).link = s.link := rfl
@[simp] theorem storeTool_latched : (storeTool i x s).latched = s.latched := rfl
@[simp] theorem storeTool_enabled : (storeTool i x s).enabled = s.enabled := rfl
@[simp] theorem storeTool_capture : (storeTool i x s).capture = s.capture := rfl
@[simp] theorem storeTool_clock : (storeTool i x s).clock = s.clock := rfl
@[simp] theorem storeTool_channels : (storeTool i x s).channels = s.channels := rfl
@[simp] theorem storeTool_outputs : (storeTool i x s).outputs = s.outputs := rfl
@[simp] theorem storeTool_sending : (storeTool i x s).sending = s.sending := rfl
@[simp] theorem storeTool_inputs : (storeTool i x s).inputs = s.inputs := rfl
@[simp] theorem storeTool_groupFlags : (storeTool i x s).groupFlags = s.groupFlags := rfl
@[simp] theorem storeTool_cycle : (storeTool i x s).cycle = s.cycle := rfl
@[simp] theorem storeTool_tripCause : (storeTool i x s).tripCause = s.tripCause := rfl
@[simp] theorem storeTool_furtherCauses : (storeTool i x s).furtherCauses = s.furtherCauses := rfl
@[simp] theorem storeTool_configured : (storeTool i x s).configured = s.configured := rfl
@[simp] theorem storeTool_params : (storeTool i x s).params = s.params := rfl
@[simp] theorem storeTool_loadPointer : (storeTool i x s).loadPointer = s.loadPointer := rfl
@[simp] theorem storeTool_checkCaptured : (storeTool i x s).checkCaptured = s.checkCaptured := rfl
@[simp] theorem storeTool_checkFailures : (storeTool i x s).checkFailures = s.checkFailures := rfl
@[simp] theorem storeTool_blocking : (storeTool i x s).blocking = s.blocking := rfl
@[simp] theorem storeTool_positions : (storeTool i x s).positions = s.positions := rfl
@[simp] theorem storeTool_gaugeWorn : (storeTool i x s).gaugeWorn = s.gaugeWorn := rfl
@[simp] theorem storeTool_angle : (storeTool i x s).angle = s.angle := rfl
@[simp] theorem storeTool_cylinders : (storeTool i x s).cylinders = s.cylinders := rfl
@[simp] theorem storeTool_quadrants : (storeTool i x s).quadrants = s.quadrants := rfl
@[simp] theorem storeTool_mass : (storeTool i x s).mass = s.mass := rfl
@[simp] theorem storeTool_stroke : (storeTool i x s).stroke = s.stroke := rfl
@[simp] theorem storeTool_rings : (storeTool i x s).rings = s.rings := rfl
@[simp] theorem storeTool_feed : (storeTool i x s).feed = s.feed := rfl
@[simp] theorem storeTool_starvation : (storeTool i x s).starvation = s.starvation := rfl
@[simp] theorem storeTool_place : (storeTool i x s).place = s.place := rfl
@[simp] theorem storeTool_ports : (storeTool i x s).ports = s.ports := rfl
@[simp] theorem storeTool_rotation : (storeTool i x s).rotation = s.rotation := rfl
@[simp] theorem storeTool_pointer : (storeTool i x s).pointer = s.pointer := rfl
@[simp] theorem storeTool_pulse : (storeTool i x s).pulse = s.pulse := rfl
@[simp] theorem storeTool_totalPulses : (storeTool i x s).totalPulses = s.totalPulses := rfl
@[simp] theorem storeTool_unattributed : (storeTool i x s).unattributed = s.unattributed := rfl
@[simp] theorem storeTool_surplus : (storeTool i x s).surplus = s.surplus := rfl
@[simp] theorem storeTool_rebases : (storeTool i x s).rebases = s.rebases := rfl
@[simp] theorem storeTool_screw : (storeTool i x s).screw = s.screw := rfl
@[simp] theorem storeTool_pending : (storeTool i x s).pending = s.pending := rfl
@[simp] theorem storeTool_tools : (storeTool i x s).tools = s.tools.set i (Tool.fresh x) := rfl

end storeTool

section summarise

variable (s : State)

@[simp] theorem summarise_link : (summarise s).link = s.link := rfl
@[simp] theorem summarise_latched : (summarise s).latched = s.latched := rfl
@[simp] theorem summarise_enabled : (summarise s).enabled = s.enabled := rfl
@[simp] theorem summarise_capture : (summarise s).capture = s.capture := rfl
@[simp] theorem summarise_clock : (summarise s).clock = s.clock := rfl
@[simp] theorem summarise_channels : (summarise s).channels = s.channels := rfl
@[simp] theorem summarise_outputs : (summarise s).outputs = s.outputs := rfl
@[simp] theorem summarise_sending : (summarise s).sending = s.sending := rfl
@[simp] theorem summarise_inputs : (summarise s).inputs = s.inputs := rfl
@[simp] theorem summarise_groupFlags : (summarise s).groupFlags = s.groupFlags := rfl
@[simp] theorem summarise_cycle : (summarise s).cycle = s.cycle := rfl
@[simp] theorem summarise_tripCause : (summarise s).tripCause = s.tripCause := rfl
@[simp] theorem summarise_furtherCauses : (summarise s).furtherCauses = s.furtherCauses := rfl
@[simp] theorem summarise_configured : (summarise s).configured = s.configured := rfl
@[simp] theorem summarise_params : (summarise s).params = s.params := rfl
@[simp] theorem summarise_tools : (summarise s).tools = s.tools := rfl
@[simp] theorem summarise_loadPointer : (summarise s).loadPointer = s.loadPointer := rfl
@[simp] theorem summarise_checkCaptured : (summarise s).checkCaptured = s.checkCaptured := rfl
@[simp] theorem summarise_checkFailures : (summarise s).checkFailures = s.checkFailures := rfl
@[simp] theorem summarise_gaugeWorn : (summarise s).gaugeWorn = s.gaugeWorn := rfl
@[simp] theorem summarise_angle : (summarise s).angle = s.angle := rfl
@[simp] theorem summarise_cylinders : (summarise s).cylinders = s.cylinders := rfl
@[simp] theorem summarise_quadrants : (summarise s).quadrants = s.quadrants := rfl
@[simp] theorem summarise_mass : (summarise s).mass = s.mass := rfl
@[simp] theorem summarise_stroke : (summarise s).stroke = s.stroke := rfl
@[simp] theorem summarise_rings : (summarise s).rings = s.rings := rfl
@[simp] theorem summarise_feed : (summarise s).feed = s.feed := rfl
@[simp] theorem summarise_starvation : (summarise s).starvation = s.starvation := rfl
@[simp] theorem summarise_place : (summarise s).place = s.place := rfl
@[simp] theorem summarise_ports : (summarise s).ports = s.ports := rfl
@[simp] theorem summarise_rotation : (summarise s).rotation = s.rotation := rfl
@[simp] theorem summarise_pointer : (summarise s).pointer = s.pointer := rfl
@[simp] theorem summarise_pulse : (summarise s).pulse = s.pulse := rfl
@[simp] theorem summarise_totalPulses : (summarise s).totalPulses = s.totalPulses := rfl
@[simp] theorem summarise_unattributed : (summarise s).unattributed = s.unattributed := rfl
@[simp] theorem summarise_surplus : (summarise s).surplus = s.surplus := rfl
@[simp] theorem summarise_rebases : (summarise s).rebases = s.rebases := rfl
@[simp] theorem summarise_screw : (summarise s).screw = s.screw := rfl
@[simp] theorem summarise_pending : (summarise s).pending = s.pending := rfl
@[simp] theorem summarise_blocking : (summarise s).blocking = countBlocking s.tools := rfl
@[simp] theorem summarise_positions : (summarise s).positions = countPositions s.tools := rfl

end summarise

section cancelReservation

variable (s : State)

@[simp] theorem cancelReservation_link : (cancelReservation s).link = s.link := rfl
@[simp] theorem cancelReservation_latched : (cancelReservation s).latched = s.latched := rfl
@[simp] theorem cancelReservation_enabled : (cancelReservation s).enabled = s.enabled := rfl
@[simp] theorem cancelReservation_capture : (cancelReservation s).capture = s.capture := rfl
@[simp] theorem cancelReservation_clock : (cancelReservation s).clock = s.clock := rfl
@[simp] theorem cancelReservation_channels : (cancelReservation s).channels = s.channels := rfl
@[simp] theorem cancelReservation_outputs : (cancelReservation s).outputs = s.outputs := rfl
@[simp] theorem cancelReservation_sending : (cancelReservation s).sending = s.sending := rfl
@[simp] theorem cancelReservation_inputs : (cancelReservation s).inputs = s.inputs := rfl
@[simp] theorem cancelReservation_groupFlags : (cancelReservation s).groupFlags = s.groupFlags := rfl
@[simp] theorem cancelReservation_cycle : (cancelReservation s).cycle = s.cycle := rfl
@[simp] theorem cancelReservation_tripCause : (cancelReservation s).tripCause = s.tripCause := rfl
@[simp] theorem cancelReservation_furtherCauses : (cancelReservation s).furtherCauses = s.furtherCauses := rfl
@[simp] theorem cancelReservation_configured : (cancelReservation s).configured = s.configured := rfl
@[simp] theorem cancelReservation_params : (cancelReservation s).params = s.params := rfl
@[simp] theorem cancelReservation_tools : (cancelReservation s).tools = s.tools := rfl
@[simp] theorem cancelReservation_loadPointer : (cancelReservation s).loadPointer = s.loadPointer := rfl
@[simp] theorem cancelReservation_checkCaptured : (cancelReservation s).checkCaptured = s.checkCaptured := rfl
@[simp] theorem cancelReservation_checkFailures : (cancelReservation s).checkFailures = s.checkFailures := rfl
@[simp] theorem cancelReservation_blocking : (cancelReservation s).blocking = s.blocking := rfl
@[simp] theorem cancelReservation_positions : (cancelReservation s).positions = s.positions := rfl
@[simp] theorem cancelReservation_gaugeWorn : (cancelReservation s).gaugeWorn = s.gaugeWorn := rfl
@[simp] theorem cancelReservation_angle : (cancelReservation s).angle = s.angle := rfl
@[simp] theorem cancelReservation_cylinders : (cancelReservation s).cylinders = s.cylinders := rfl
@[simp] theorem cancelReservation_quadrants : (cancelReservation s).quadrants = s.quadrants := rfl
@[simp] theorem cancelReservation_mass : (cancelReservation s).mass = s.mass := rfl
@[simp] theorem cancelReservation_stroke : (cancelReservation s).stroke = s.stroke := rfl
@[simp] theorem cancelReservation_rings : (cancelReservation s).rings = s.rings := rfl
@[simp] theorem cancelReservation_starvation : (cancelReservation s).starvation = s.starvation := rfl
@[simp] theorem cancelReservation_place : (cancelReservation s).place = s.place := rfl
@[simp] theorem cancelReservation_ports : (cancelReservation s).ports = s.ports := rfl
@[simp] theorem cancelReservation_rotation : (cancelReservation s).rotation = s.rotation := rfl
@[simp] theorem cancelReservation_pointer : (cancelReservation s).pointer = s.pointer := rfl
@[simp] theorem cancelReservation_pulse : (cancelReservation s).pulse = s.pulse := rfl
@[simp] theorem cancelReservation_totalPulses : (cancelReservation s).totalPulses = s.totalPulses := rfl
@[simp] theorem cancelReservation_unattributed : (cancelReservation s).unattributed = s.unattributed := rfl
@[simp] theorem cancelReservation_surplus : (cancelReservation s).surplus = s.surplus := rfl
@[simp] theorem cancelReservation_rebases : (cancelReservation s).rebases = s.rebases := rfl
@[simp] theorem cancelReservation_screw : (cancelReservation s).screw = s.screw := rfl
@[simp] theorem cancelReservation_pending : (cancelReservation s).pending = s.pending := rfl

end cancelReservation

end Sys2Proof.Machine
end

