-- ==== Sys2Proof/Laws/Frames.lean ====
section
/-! SUPPORT. The frame of each shared operation: one lemma an operation, which says of every field the operation cannot
change that it is as it was. As simp lemmas they split into one rewrite rule a field. -/

namespace Sys2Proof.Machine

@[simp] theorem raiseIf_frame (b : Bool) (n : Notice) (s : State) :
    (raiseIf b n s).link = s.link ∧ (raiseIf b n s).enabled = s.enabled ∧ (raiseIf b n s).capture = s.capture ∧
    (raiseIf b n s).clock = s.clock ∧ (raiseIf b n s).channels = s.channels ∧ (raiseIf b n s).outputs = s.outputs ∧
    (raiseIf b n s).sending = s.sending ∧ (raiseIf b n s).inputs = s.inputs ∧
    (raiseIf b n s).groupFlags = s.groupFlags ∧ (raiseIf b n s).cycle = s.cycle ∧
    (raiseIf b n s).tripCause = s.tripCause ∧ (raiseIf b n s).furtherCauses = s.furtherCauses ∧
    (raiseIf b n s).configured = s.configured ∧ (raiseIf b n s).params = s.params ∧
    (raiseIf b n s).tools = s.tools ∧ (raiseIf b n s).loadPointer = s.loadPointer ∧
    (raiseIf b n s).checkCaptured = s.checkCaptured ∧ (raiseIf b n s).checkFailures = s.checkFailures ∧
    (raiseIf b n s).blocking = s.blocking ∧ (raiseIf b n s).positions = s.positions ∧
    (raiseIf b n s).gaugeWorn = s.gaugeWorn ∧ (raiseIf b n s).angle = s.angle ∧
    (raiseIf b n s).cylinders = s.cylinders ∧ (raiseIf b n s).quadrants = s.quadrants ∧
    (raiseIf b n s).mass = s.mass ∧ (raiseIf b n s).stroke = s.stroke ∧ (raiseIf b n s).rings = s.rings ∧
    (raiseIf b n s).feed = s.feed ∧ (raiseIf b n s).starvation = s.starvation ∧ (raiseIf b n s).place = s.place ∧
    (raiseIf b n s).ports = s.ports ∧ (raiseIf b n s).rotation = s.rotation ∧ (raiseIf b n s).pointer = s.pointer ∧
    (raiseIf b n s).pulse = s.pulse ∧ (raiseIf b n s).totalPulses = s.totalPulses ∧
    (raiseIf b n s).unattributed = s.unattributed ∧ (raiseIf b n s).surplus = s.surplus ∧
    (raiseIf b n s).rebases = s.rebases ∧ (raiseIf b n s).screw = s.screw ∧ (raiseIf b n s).pending = s.pending := by
  cases b <;> simp [raiseIf]

@[simp] theorem evalPermit_frame (s : State) :
    (evalPermit s).link = s.link ∧ (evalPermit s).latched = s.latched ∧ (evalPermit s).enabled = s.enabled ∧
    (evalPermit s).capture = s.capture ∧ (evalPermit s).clock = s.clock ∧ (evalPermit s).channels = s.channels ∧
    (evalPermit s).sending = s.sending ∧ (evalPermit s).inputs = s.inputs ∧
    (evalPermit s).groupFlags = s.groupFlags ∧ (evalPermit s).cycle = s.cycle ∧
    (evalPermit s).tripCause = s.tripCause ∧ (evalPermit s).furtherCauses = s.furtherCauses ∧
    (evalPermit s).configured = s.configured ∧ (evalPermit s).params = s.params ∧ (evalPermit s).tools = s.tools ∧
    (evalPermit s).loadPointer = s.loadPointer ∧ (evalPermit s).checkCaptured = s.checkCaptured ∧
    (evalPermit s).checkFailures = s.checkFailures ∧ (evalPermit s).blocking = s.blocking ∧
    (evalPermit s).positions = s.positions ∧ (evalPermit s).gaugeWorn = s.gaugeWorn ∧
    (evalPermit s).angle = s.angle ∧ (evalPermit s).cylinders = s.cylinders ∧
    (evalPermit s).quadrants = s.quadrants ∧ (evalPermit s).mass = s.mass ∧ (evalPermit s).stroke = s.stroke ∧
    (evalPermit s).rings = s.rings ∧ (evalPermit s).feed = s.feed ∧ (evalPermit s).starvation = s.starvation ∧
    (evalPermit s).place = s.place ∧ (evalPermit s).ports = s.ports ∧ (evalPermit s).rotation = s.rotation ∧
    (evalPermit s).pointer = s.pointer ∧ (evalPermit s).pulse = s.pulse ∧
    (evalPermit s).totalPulses = s.totalPulses ∧ (evalPermit s).unattributed = s.unattributed ∧
    (evalPermit s).surplus = s.surplus ∧ (evalPermit s).rebases = s.rebases ∧ (evalPermit s).screw = s.screw ∧
    (evalPermit s).pending = s.pending := by
  simp [evalPermit]

@[simp] theorem writeErector_frame (c : ErectorCommand) (s : State) :
    (writeErector c s).link = s.link ∧ (writeErector c s).latched = s.latched ∧
    (writeErector c s).enabled = s.enabled ∧ (writeErector c s).capture = s.capture ∧
    (writeErector c s).clock = s.clock ∧ (writeErector c s).channels = s.channels ∧
    (writeErector c s).sending = s.sending ∧ (writeErector c s).inputs = s.inputs ∧
    (writeErector c s).groupFlags = s.groupFlags ∧ (writeErector c s).cycle = s.cycle ∧
    (writeErector c s).tripCause = s.tripCause ∧ (writeErector c s).furtherCauses = s.furtherCauses ∧
    (writeErector c s).configured = s.configured ∧ (writeErector c s).params = s.params ∧
    (writeErector c s).tools = s.tools ∧ (writeErector c s).loadPointer = s.loadPointer ∧
    (writeErector c s).checkCaptured = s.checkCaptured ∧ (writeErector c s).checkFailures = s.checkFailures ∧
    (writeErector c s).blocking = s.blocking ∧ (writeErector c s).positions = s.positions ∧
    (writeErector c s).gaugeWorn = s.gaugeWorn ∧ (writeErector c s).angle = s.angle ∧
    (writeErector c s).cylinders = s.cylinders ∧ (writeErector c s).quadrants = s.quadrants ∧
    (writeErector c s).mass = s.mass ∧ (writeErector c s).stroke = s.stroke ∧ (writeErector c s).rings = s.rings ∧
    (writeErector c s).feed = s.feed ∧ (writeErector c s).starvation = s.starvation ∧
    (writeErector c s).place = s.place ∧ (writeErector c s).ports = s.ports ∧
    (writeErector c s).rotation = s.rotation ∧ (writeErector c s).pointer = s.pointer ∧
    (writeErector c s).pulse = s.pulse ∧ (writeErector c s).totalPulses = s.totalPulses ∧
    (writeErector c s).unattributed = s.unattributed ∧ (writeErector c s).surplus = s.surplus ∧
    (writeErector c s).rebases = s.rebases ∧ (writeErector c s).screw = s.screw ∧
    (writeErector c s).pending = s.pending := by
  simp [writeErector]

@[simp] theorem writeScrew_frame (v : Nat) (s : State) :
    (writeScrew v s).link = s.link ∧ (writeScrew v s).latched = s.latched ∧ (writeScrew v s).enabled = s.enabled ∧
    (writeScrew v s).capture = s.capture ∧ (writeScrew v s).clock = s.clock ∧
    (writeScrew v s).channels = s.channels ∧ (writeScrew v s).sending = s.sending ∧
    (writeScrew v s).inputs = s.inputs ∧ (writeScrew v s).groupFlags = s.groupFlags ∧
    (writeScrew v s).cycle = s.cycle ∧ (writeScrew v s).tripCause = s.tripCause ∧
    (writeScrew v s).furtherCauses = s.furtherCauses ∧ (writeScrew v s).configured = s.configured ∧
    (writeScrew v s).params = s.params ∧ (writeScrew v s).tools = s.tools ∧
    (writeScrew v s).loadPointer = s.loadPointer ∧ (writeScrew v s).checkCaptured = s.checkCaptured ∧
    (writeScrew v s).checkFailures = s.checkFailures ∧ (writeScrew v s).blocking = s.blocking ∧
    (writeScrew v s).positions = s.positions ∧ (writeScrew v s).gaugeWorn = s.gaugeWorn ∧
    (writeScrew v s).angle = s.angle ∧ (writeScrew v s).cylinders = s.cylinders ∧
    (writeScrew v s).quadrants = s.quadrants ∧ (writeScrew v s).mass = s.mass ∧
    (writeScrew v s).stroke = s.stroke ∧ (writeScrew v s).rings = s.rings ∧ (writeScrew v s).feed = s.feed ∧
    (writeScrew v s).starvation = s.starvation ∧ (writeScrew v s).place = s.place ∧
    (writeScrew v s).ports = s.ports ∧ (writeScrew v s).rotation = s.rotation ∧
    (writeScrew v s).pointer = s.pointer ∧ (writeScrew v s).pulse = s.pulse ∧
    (writeScrew v s).totalPulses = s.totalPulses ∧ (writeScrew v s).unattributed = s.unattributed ∧
    (writeScrew v s).surplus = s.surplus ∧ (writeScrew v s).rebases = s.rebases ∧
    (writeScrew v s).screw = s.screw ∧ (writeScrew v s).pending = s.pending := by
  simp [writeScrew]

@[simp] theorem lockAll_frame (s : State) :
    (lockAll s).link = s.link ∧ (lockAll s).latched = s.latched ∧ (lockAll s).enabled = s.enabled ∧
    (lockAll s).capture = s.capture ∧ (lockAll s).clock = s.clock ∧ (lockAll s).channels = s.channels ∧
    (lockAll s).sending = s.sending ∧ (lockAll s).inputs = s.inputs ∧ (lockAll s).groupFlags = s.groupFlags ∧
    (lockAll s).cycle = s.cycle ∧ (lockAll s).tripCause = s.tripCause ∧
    (lockAll s).furtherCauses = s.furtherCauses ∧ (lockAll s).configured = s.configured ∧
    (lockAll s).params = s.params ∧ (lockAll s).tools = s.tools ∧ (lockAll s).loadPointer = s.loadPointer ∧
    (lockAll s).checkCaptured = s.checkCaptured ∧ (lockAll s).checkFailures = s.checkFailures ∧
    (lockAll s).blocking = s.blocking ∧ (lockAll s).positions = s.positions ∧ (lockAll s).gaugeWorn = s.gaugeWorn ∧
    (lockAll s).angle = s.angle ∧ (lockAll s).quadrants = s.quadrants ∧ (lockAll s).mass = s.mass ∧
    (lockAll s).stroke = s.stroke ∧ (lockAll s).rings = s.rings ∧ (lockAll s).feed = s.feed ∧
    (lockAll s).starvation = s.starvation ∧ (lockAll s).place = s.place ∧ (lockAll s).ports = s.ports ∧
    (lockAll s).rotation = s.rotation ∧ (lockAll s).pointer = s.pointer ∧ (lockAll s).pulse = s.pulse ∧
    (lockAll s).totalPulses = s.totalPulses ∧ (lockAll s).unattributed = s.unattributed ∧
    (lockAll s).surplus = s.surplus ∧ (lockAll s).rebases = s.rebases ∧ (lockAll s).screw = s.screw ∧
    (lockAll s).pending = s.pending := by
  simp [lockAll]

@[simp] theorem extendAll_frame (s : State) :
    (extendAll s).link = s.link ∧ (extendAll s).latched = s.latched ∧ (extendAll s).enabled = s.enabled ∧
    (extendAll s).capture = s.capture ∧ (extendAll s).clock = s.clock ∧ (extendAll s).channels = s.channels ∧
    (extendAll s).sending = s.sending ∧ (extendAll s).inputs = s.inputs ∧ (extendAll s).groupFlags = s.groupFlags ∧
    (extendAll s).cycle = s.cycle ∧ (extendAll s).tripCause = s.tripCause ∧
    (extendAll s).furtherCauses = s.furtherCauses ∧ (extendAll s).configured = s.configured ∧
    (extendAll s).params = s.params ∧ (extendAll s).tools = s.tools ∧ (extendAll s).loadPointer = s.loadPointer ∧
    (extendAll s).checkCaptured = s.checkCaptured ∧ (extendAll s).checkFailures = s.checkFailures ∧
    (extendAll s).blocking = s.blocking ∧ (extendAll s).positions = s.positions ∧
    (extendAll s).gaugeWorn = s.gaugeWorn ∧ (extendAll s).angle = s.angle ∧ (extendAll s).quadrants = s.quadrants ∧
    (extendAll s).mass = s.mass ∧ (extendAll s).stroke = s.stroke ∧ (extendAll s).rings = s.rings ∧
    (extendAll s).feed = s.feed ∧ (extendAll s).starvation = s.starvation ∧ (extendAll s).place = s.place ∧
    (extendAll s).ports = s.ports ∧ (extendAll s).rotation = s.rotation ∧ (extendAll s).pointer = s.pointer ∧
    (extendAll s).pulse = s.pulse ∧ (extendAll s).totalPulses = s.totalPulses ∧
    (extendAll s).unattributed = s.unattributed ∧ (extendAll s).surplus = s.surplus ∧
    (extendAll s).rebases = s.rebases ∧ (extendAll s).screw = s.screw ∧ (extendAll s).pending = s.pending := by
  simp [extendAll]

@[simp] theorem extendSpan_frame (r : Ring) (slot : Slot) (s : State) :
    (extendSpan r slot s).link = s.link ∧ (extendSpan r slot s).latched = s.latched ∧
    (extendSpan r slot s).enabled = s.enabled ∧ (extendSpan r slot s).capture = s.capture ∧
    (extendSpan r slot s).clock = s.clock ∧ (extendSpan r slot s).channels = s.channels ∧
    (extendSpan r slot s).sending = s.sending ∧ (extendSpan r slot s).inputs = s.inputs ∧
    (extendSpan r slot s).groupFlags = s.groupFlags ∧ (extendSpan r slot s).cycle = s.cycle ∧
    (extendSpan r slot s).tripCause = s.tripCause ∧ (extendSpan r slot s).furtherCauses = s.furtherCauses ∧
    (extendSpan r slot s).configured = s.configured ∧ (extendSpan r slot s).params = s.params ∧
    (extendSpan r slot s).tools = s.tools ∧ (extendSpan r slot s).loadPointer = s.loadPointer ∧
    (extendSpan r slot s).checkCaptured = s.checkCaptured ∧ (extendSpan r slot s).checkFailures = s.checkFailures ∧
    (extendSpan r slot s).blocking = s.blocking ∧ (extendSpan r slot s).positions = s.positions ∧
    (extendSpan r slot s).gaugeWorn = s.gaugeWorn ∧ (extendSpan r slot s).angle = s.angle ∧
    (extendSpan r slot s).quadrants = s.quadrants ∧ (extendSpan r slot s).mass = s.mass ∧
    (extendSpan r slot s).stroke = s.stroke ∧ (extendSpan r slot s).rings = s.rings ∧
    (extendSpan r slot s).feed = s.feed ∧ (extendSpan r slot s).starvation = s.starvation ∧
    (extendSpan r slot s).place = s.place ∧ (extendSpan r slot s).ports = s.ports ∧
    (extendSpan r slot s).rotation = s.rotation ∧ (extendSpan r slot s).pointer = s.pointer ∧
    (extendSpan r slot s).pulse = s.pulse ∧ (extendSpan r slot s).totalPulses = s.totalPulses ∧
    (extendSpan r slot s).unattributed = s.unattributed ∧ (extendSpan r slot s).surplus = s.surplus ∧
    (extendSpan r slot s).rebases = s.rebases ∧ (extendSpan r slot s).screw = s.screw ∧
    (extendSpan r slot s).pending = s.pending := by
  simp [extendSpan]

@[simp] theorem retractSpan_frame (r : Ring) (slot : Slot) (s : State) :
    (retractSpan r slot s).link = s.link ∧ (retractSpan r slot s).latched = s.latched ∧
    (retractSpan r slot s).enabled = s.enabled ∧ (retractSpan r slot s).capture = s.capture ∧
    (retractSpan r slot s).clock = s.clock ∧ (retractSpan r slot s).channels = s.channels ∧
    (retractSpan r slot s).sending = s.sending ∧ (retractSpan r slot s).inputs = s.inputs ∧
    (retractSpan r slot s).groupFlags = s.groupFlags ∧ (retractSpan r slot s).cycle = s.cycle ∧
    (retractSpan r slot s).tripCause = s.tripCause ∧ (retractSpan r slot s).furtherCauses = s.furtherCauses ∧
    (retractSpan r slot s).configured = s.configured ∧ (retractSpan r slot s).params = s.params ∧
    (retractSpan r slot s).tools = s.tools ∧ (retractSpan r slot s).loadPointer = s.loadPointer ∧
    (retractSpan r slot s).checkCaptured = s.checkCaptured ∧
    (retractSpan r slot s).checkFailures = s.checkFailures ∧ (retractSpan r slot s).blocking = s.blocking ∧
    (retractSpan r slot s).positions = s.positions ∧ (retractSpan r slot s).gaugeWorn = s.gaugeWorn ∧
    (retractSpan r slot s).angle = s.angle ∧ (retractSpan r slot s).quadrants = s.quadrants ∧
    (retractSpan r slot s).mass = s.mass ∧ (retractSpan r slot s).stroke = s.stroke ∧
    (retractSpan r slot s).rings = s.rings ∧ (retractSpan r slot s).feed = s.feed ∧
    (retractSpan r slot s).starvation = s.starvation ∧ (retractSpan r slot s).place = s.place ∧
    (retractSpan r slot s).ports = s.ports ∧ (retractSpan r slot s).rotation = s.rotation ∧
    (retractSpan r slot s).pointer = s.pointer ∧ (retractSpan r slot s).pulse = s.pulse ∧
    (retractSpan r slot s).totalPulses = s.totalPulses ∧ (retractSpan r slot s).unattributed = s.unattributed ∧
    (retractSpan r slot s).surplus = s.surplus ∧ (retractSpan r slot s).rebases = s.rebases ∧
    (retractSpan r slot s).screw = s.screw ∧ (retractSpan r slot s).pending = s.pending := by
  simp [retractSpan]

@[simp] theorem endShot_frame (p : Fin 6) (st : PortState) (s : State) :
    (endShot p st s).link = s.link ∧ (endShot p st s).latched = s.latched ∧ (endShot p st s).enabled = s.enabled ∧
    (endShot p st s).capture = s.capture ∧ (endShot p st s).clock = s.clock ∧
    (endShot p st s).channels = s.channels ∧ (endShot p st s).outputs = s.outputs ∧
    (endShot p st s).sending = s.sending ∧ (endShot p st s).inputs = s.inputs ∧
    (endShot p st s).groupFlags = s.groupFlags ∧ (endShot p st s).cycle = s.cycle ∧
    (endShot p st s).tripCause = s.tripCause ∧ (endShot p st s).furtherCauses = s.furtherCauses ∧
    (endShot p st s).configured = s.configured ∧ (endShot p st s).params = s.params ∧
    (endShot p st s).tools = s.tools ∧ (endShot p st s).loadPointer = s.loadPointer ∧
    (endShot p st s).checkCaptured = s.checkCaptured ∧ (endShot p st s).checkFailures = s.checkFailures ∧
    (endShot p st s).blocking = s.blocking ∧ (endShot p st s).positions = s.positions ∧
    (endShot p st s).gaugeWorn = s.gaugeWorn ∧ (endShot p st s).angle = s.angle ∧
    (endShot p st s).cylinders = s.cylinders ∧ (endShot p st s).quadrants = s.quadrants ∧
    (endShot p st s).mass = s.mass ∧ (endShot p st s).stroke = s.stroke ∧ (endShot p st s).rings = s.rings ∧
    (endShot p st s).feed = s.feed ∧ (endShot p st s).starvation = s.starvation ∧
    (endShot p st s).place = s.place ∧ (endShot p st s).rotation = s.rotation ∧
    (endShot p st s).pointer = s.pointer ∧ (endShot p st s).pulse = s.pulse ∧
    (endShot p st s).totalPulses = s.totalPulses ∧ (endShot p st s).unattributed = s.unattributed ∧
    (endShot p st s).surplus = s.surplus ∧ (endShot p st s).rebases = s.rebases ∧
    (endShot p st s).screw = s.screw ∧ (endShot p st s).pending = s.pending := by
  simp [endShot]

@[simp] theorem search_frame (s : State) :
    (search s).link = s.link ∧ (search s).latched = s.latched ∧ (search s).enabled = s.enabled ∧
    (search s).capture = s.capture ∧ (search s).clock = s.clock ∧ (search s).channels = s.channels ∧
    (search s).outputs = s.outputs ∧ (search s).sending = s.sending ∧ (search s).inputs = s.inputs ∧
    (search s).groupFlags = s.groupFlags ∧ (search s).cycle = s.cycle ∧ (search s).tripCause = s.tripCause ∧
    (search s).furtherCauses = s.furtherCauses ∧ (search s).configured = s.configured ∧
    (search s).params = s.params ∧ (search s).tools = s.tools ∧ (search s).loadPointer = s.loadPointer ∧
    (search s).checkCaptured = s.checkCaptured ∧ (search s).checkFailures = s.checkFailures ∧
    (search s).blocking = s.blocking ∧ (search s).positions = s.positions ∧ (search s).gaugeWorn = s.gaugeWorn ∧
    (search s).angle = s.angle ∧ (search s).cylinders = s.cylinders ∧ (search s).quadrants = s.quadrants ∧
    (search s).mass = s.mass ∧ (search s).stroke = s.stroke ∧ (search s).rings = s.rings ∧
    (search s).feed = s.feed ∧ (search s).starvation = s.starvation ∧ (search s).place = s.place ∧
    (search s).rotation = s.rotation ∧ (search s).pulse = s.pulse ∧ (search s).totalPulses = s.totalPulses ∧
    (search s).unattributed = s.unattributed ∧ (search s).surplus = s.surplus ∧ (search s).rebases = s.rebases ∧
    (search s).screw = s.screw ∧ (search s).pending = s.pending := by
  unfold search
  repeat' split
  all_goals simp

@[simp] theorem groutOutputs_frame (s : State) :
    (groutOutputs s).link = s.link ∧ (groutOutputs s).latched = s.latched ∧ (groutOutputs s).enabled = s.enabled ∧
    (groutOutputs s).capture = s.capture ∧ (groutOutputs s).clock = s.clock ∧
    (groutOutputs s).channels = s.channels ∧ (groutOutputs s).sending = s.sending ∧
    (groutOutputs s).inputs = s.inputs ∧ (groutOutputs s).groupFlags = s.groupFlags ∧
    (groutOutputs s).cycle = s.cycle ∧ (groutOutputs s).tripCause = s.tripCause ∧
    (groutOutputs s).furtherCauses = s.furtherCauses ∧ (groutOutputs s).configured = s.configured ∧
    (groutOutputs s).params = s.params ∧ (groutOutputs s).tools = s.tools ∧
    (groutOutputs s).loadPointer = s.loadPointer ∧ (groutOutputs s).checkCaptured = s.checkCaptured ∧
    (groutOutputs s).checkFailures = s.checkFailures ∧ (groutOutputs s).blocking = s.blocking ∧
    (groutOutputs s).positions = s.positions ∧ (groutOutputs s).gaugeWorn = s.gaugeWorn ∧
    (groutOutputs s).angle = s.angle ∧ (groutOutputs s).cylinders = s.cylinders ∧
    (groutOutputs s).quadrants = s.quadrants ∧ (groutOutputs s).mass = s.mass ∧
    (groutOutputs s).stroke = s.stroke ∧ (groutOutputs s).rings = s.rings ∧ (groutOutputs s).feed = s.feed ∧
    (groutOutputs s).starvation = s.starvation ∧ (groutOutputs s).place = s.place ∧
    (groutOutputs s).ports = s.ports ∧ (groutOutputs s).rotation = s.rotation ∧
    (groutOutputs s).pointer = s.pointer ∧ (groutOutputs s).pulse = s.pulse ∧
    (groutOutputs s).totalPulses = s.totalPulses ∧ (groutOutputs s).unattributed = s.unattributed ∧
    (groutOutputs s).surplus = s.surplus ∧ (groutOutputs s).rebases = s.rebases ∧
    (groutOutputs s).screw = s.screw ∧ (groutOutputs s).pending = s.pending := by
  unfold groutOutputs
  repeat' split
  all_goals simp

@[simp] theorem groutSettle_frame (s : State) :
    (groutSettle s).link = s.link ∧ (groutSettle s).latched = s.latched ∧ (groutSettle s).enabled = s.enabled ∧
    (groutSettle s).capture = s.capture ∧ (groutSettle s).clock = s.clock ∧ (groutSettle s).channels = s.channels ∧
    (groutSettle s).sending = s.sending ∧ (groutSettle s).inputs = s.inputs ∧
    (groutSettle s).groupFlags = s.groupFlags ∧ (groutSettle s).cycle = s.cycle ∧
    (groutSettle s).tripCause = s.tripCause ∧ (groutSettle s).furtherCauses = s.furtherCauses ∧
    (groutSettle s).configured = s.configured ∧ (groutSettle s).params = s.params ∧
    (groutSettle s).tools = s.tools ∧ (groutSettle s).loadPointer = s.loadPointer ∧
    (groutSettle s).checkCaptured = s.checkCaptured ∧ (groutSettle s).checkFailures = s.checkFailures ∧
    (groutSettle s).blocking = s.blocking ∧ (groutSettle s).positions = s.positions ∧
    (groutSettle s).gaugeWorn = s.gaugeWorn ∧ (groutSettle s).angle = s.angle ∧
    (groutSettle s).cylinders = s.cylinders ∧ (groutSettle s).quadrants = s.quadrants ∧
    (groutSettle s).mass = s.mass ∧ (groutSettle s).stroke = s.stroke ∧ (groutSettle s).rings = s.rings ∧
    (groutSettle s).feed = s.feed ∧ (groutSettle s).starvation = s.starvation ∧ (groutSettle s).place = s.place ∧
    (groutSettle s).rotation = s.rotation ∧ (groutSettle s).pulse = s.pulse ∧
    (groutSettle s).totalPulses = s.totalPulses ∧ (groutSettle s).unattributed = s.unattributed ∧
    (groutSettle s).surplus = s.surplus ∧ (groutSettle s).rebases = s.rebases ∧ (groutSettle s).screw = s.screw ∧
    (groutSettle s).pending = s.pending := by
  unfold groutSettle
  repeat' split
  all_goals simp

@[simp] theorem startScrew_frame (s : State) :
    (startScrew s).link = s.link ∧ (startScrew s).latched = s.latched ∧ (startScrew s).enabled = s.enabled ∧
    (startScrew s).capture = s.capture ∧ (startScrew s).clock = s.clock ∧ (startScrew s).channels = s.channels ∧
    (startScrew s).sending = s.sending ∧ (startScrew s).inputs = s.inputs ∧
    (startScrew s).groupFlags = s.groupFlags ∧ (startScrew s).cycle = s.cycle ∧
    (startScrew s).tripCause = s.tripCause ∧ (startScrew s).furtherCauses = s.furtherCauses ∧
    (startScrew s).configured = s.configured ∧ (startScrew s).params = s.params ∧ (startScrew s).tools = s.tools ∧
    (startScrew s).loadPointer = s.loadPointer ∧ (startScrew s).checkCaptured = s.checkCaptured ∧
    (startScrew s).checkFailures = s.checkFailures ∧ (startScrew s).blocking = s.blocking ∧
    (startScrew s).positions = s.positions ∧ (startScrew s).gaugeWorn = s.gaugeWorn ∧
    (startScrew s).angle = s.angle ∧ (startScrew s).cylinders = s.cylinders ∧
    (startScrew s).quadrants = s.quadrants ∧ (startScrew s).mass = s.mass ∧ (startScrew s).stroke = s.stroke ∧
    (startScrew s).rings = s.rings ∧ (startScrew s).feed = s.feed ∧ (startScrew s).starvation = s.starvation ∧
    (startScrew s).place = s.place ∧ (startScrew s).ports = s.ports ∧ (startScrew s).rotation = s.rotation ∧
    (startScrew s).pointer = s.pointer ∧ (startScrew s).pulse = s.pulse ∧
    (startScrew s).totalPulses = s.totalPulses ∧ (startScrew s).unattributed = s.unattributed ∧
    (startScrew s).surplus = s.surplus ∧ (startScrew s).rebases = s.rebases ∧ (startScrew s).screw = s.screw ∧
    (startScrew s).pending = s.pending := by
  simp [startScrew]

@[simp] theorem screwFollow_frame (was : Bool) (s : State) :
    (screwFollow was s).link = s.link ∧ (screwFollow was s).latched = s.latched ∧
    (screwFollow was s).enabled = s.enabled ∧ (screwFollow was s).capture = s.capture ∧
    (screwFollow was s).clock = s.clock ∧ (screwFollow was s).channels = s.channels ∧
    (screwFollow was s).sending = s.sending ∧ (screwFollow was s).inputs = s.inputs ∧
    (screwFollow was s).groupFlags = s.groupFlags ∧ (screwFollow was s).cycle = s.cycle ∧
    (screwFollow was s).tripCause = s.tripCause ∧ (screwFollow was s).furtherCauses = s.furtherCauses ∧
    (screwFollow was s).configured = s.configured ∧ (screwFollow was s).params = s.params ∧
    (screwFollow was s).tools = s.tools ∧ (screwFollow was s).loadPointer = s.loadPointer ∧
    (screwFollow was s).checkCaptured = s.checkCaptured ∧ (screwFollow was s).checkFailures = s.checkFailures ∧
    (screwFollow was s).blocking = s.blocking ∧ (screwFollow was s).positions = s.positions ∧
    (screwFollow was s).gaugeWorn = s.gaugeWorn ∧ (screwFollow was s).angle = s.angle ∧
    (screwFollow was s).cylinders = s.cylinders ∧ (screwFollow was s).quadrants = s.quadrants ∧
    (screwFollow was s).mass = s.mass ∧ (screwFollow was s).stroke = s.stroke ∧
    (screwFollow was s).rings = s.rings ∧ (screwFollow was s).feed = s.feed ∧
    (screwFollow was s).starvation = s.starvation ∧ (screwFollow was s).place = s.place ∧
    (screwFollow was s).ports = s.ports ∧ (screwFollow was s).rotation = s.rotation ∧
    (screwFollow was s).pointer = s.pointer ∧ (screwFollow was s).pulse = s.pulse ∧
    (screwFollow was s).totalPulses = s.totalPulses ∧ (screwFollow was s).unattributed = s.unattributed ∧
    (screwFollow was s).surplus = s.surplus ∧ (screwFollow was s).rebases = s.rebases ∧
    (screwFollow was s).screw = s.screw ∧ (screwFollow was s).pending = s.pending := by
  unfold screwFollow
  repeat' split
  all_goals simp

@[simp] theorem screwRange_frame (s : State) :
    (screwRange s).link = s.link ∧ (screwRange s).latched = s.latched ∧ (screwRange s).enabled = s.enabled ∧
    (screwRange s).capture = s.capture ∧ (screwRange s).clock = s.clock ∧ (screwRange s).channels = s.channels ∧
    (screwRange s).sending = s.sending ∧ (screwRange s).inputs = s.inputs ∧
    (screwRange s).groupFlags = s.groupFlags ∧ (screwRange s).cycle = s.cycle ∧
    (screwRange s).tripCause = s.tripCause ∧ (screwRange s).furtherCauses = s.furtherCauses ∧
    (screwRange s).configured = s.configured ∧ (screwRange s).params = s.params ∧ (screwRange s).tools = s.tools ∧
    (screwRange s).loadPointer = s.loadPointer ∧ (screwRange s).checkCaptured = s.checkCaptured ∧
    (screwRange s).checkFailures = s.checkFailures ∧ (screwRange s).blocking = s.blocking ∧
    (screwRange s).positions = s.positions ∧ (screwRange s).gaugeWorn = s.gaugeWorn ∧
    (screwRange s).angle = s.angle ∧ (screwRange s).cylinders = s.cylinders ∧
    (screwRange s).quadrants = s.quadrants ∧ (screwRange s).mass = s.mass ∧ (screwRange s).stroke = s.stroke ∧
    (screwRange s).rings = s.rings ∧ (screwRange s).feed = s.feed ∧ (screwRange s).starvation = s.starvation ∧
    (screwRange s).place = s.place ∧ (screwRange s).ports = s.ports ∧ (screwRange s).rotation = s.rotation ∧
    (screwRange s).pointer = s.pointer ∧ (screwRange s).pulse = s.pulse ∧
    (screwRange s).totalPulses = s.totalPulses ∧ (screwRange s).unattributed = s.unattributed ∧
    (screwRange s).surplus = s.surplus ∧ (screwRange s).rebases = s.rebases ∧ (screwRange s).screw = s.screw ∧
    (screwRange s).pending = s.pending := by
  unfold screwRange
  repeat' split
  all_goals simp

@[simp] theorem balanceTaken_frame (b : Bool) (s : State) :
    (balanceTaken b s).link = s.link ∧ (balanceTaken b s).latched = s.latched ∧
    (balanceTaken b s).enabled = s.enabled ∧ (balanceTaken b s).capture = s.capture ∧
    (balanceTaken b s).clock = s.clock ∧ (balanceTaken b s).channels = s.channels ∧
    (balanceTaken b s).sending = s.sending ∧ (balanceTaken b s).inputs = s.inputs ∧
    (balanceTaken b s).groupFlags = s.groupFlags ∧ (balanceTaken b s).cycle = s.cycle ∧
    (balanceTaken b s).tripCause = s.tripCause ∧ (balanceTaken b s).furtherCauses = s.furtherCauses ∧
    (balanceTaken b s).configured = s.configured ∧ (balanceTaken b s).params = s.params ∧
    (balanceTaken b s).tools = s.tools ∧ (balanceTaken b s).loadPointer = s.loadPointer ∧
    (balanceTaken b s).checkCaptured = s.checkCaptured ∧ (balanceTaken b s).checkFailures = s.checkFailures ∧
    (balanceTaken b s).blocking = s.blocking ∧ (balanceTaken b s).positions = s.positions ∧
    (balanceTaken b s).gaugeWorn = s.gaugeWorn ∧ (balanceTaken b s).angle = s.angle ∧
    (balanceTaken b s).cylinders = s.cylinders ∧ (balanceTaken b s).quadrants = s.quadrants ∧
    (balanceTaken b s).mass = s.mass ∧ (balanceTaken b s).stroke = s.stroke ∧ (balanceTaken b s).rings = s.rings ∧
    (balanceTaken b s).feed = s.feed ∧ (balanceTaken b s).starvation = s.starvation ∧
    (balanceTaken b s).place = s.place ∧ (balanceTaken b s).ports = s.ports ∧
    (balanceTaken b s).rotation = s.rotation ∧ (balanceTaken b s).pointer = s.pointer ∧
    (balanceTaken b s).pulse = s.pulse ∧ (balanceTaken b s).totalPulses = s.totalPulses ∧
    (balanceTaken b s).unattributed = s.unattributed ∧ (balanceTaken b s).surplus = s.surplus ∧
    (balanceTaken b s).rebases = s.rebases ∧ (balanceTaken b s).screw = s.screw ∧
    (balanceTaken b s).pending = s.pending := by
  unfold balanceTaken
  repeat' split
  all_goals simp

@[simp] theorem changeCycle_frame (c : Cycle) (s : State) :
    (changeCycle c s).link = s.link ∧ (changeCycle c s).latched = s.latched ∧
    (changeCycle c s).enabled = s.enabled ∧ (changeCycle c s).capture = s.capture ∧
    (changeCycle c s).clock = s.clock ∧ (changeCycle c s).channels = s.channels ∧
    (changeCycle c s).sending = s.sending ∧ (changeCycle c s).inputs = s.inputs ∧
    (changeCycle c s).groupFlags = s.groupFlags ∧ (changeCycle c s).tripCause = s.tripCause ∧
    (changeCycle c s).furtherCauses = s.furtherCauses ∧ (changeCycle c s).configured = s.configured ∧
    (changeCycle c s).params = s.params ∧ (changeCycle c s).tools = s.tools ∧
    (changeCycle c s).loadPointer = s.loadPointer ∧ (changeCycle c s).checkCaptured = s.checkCaptured ∧
    (changeCycle c s).checkFailures = s.checkFailures ∧ (changeCycle c s).blocking = s.blocking ∧
    (changeCycle c s).positions = s.positions ∧ (changeCycle c s).gaugeWorn = s.gaugeWorn ∧
    (changeCycle c s).angle = s.angle ∧ (changeCycle c s).cylinders = s.cylinders ∧
    (changeCycle c s).quadrants = s.quadrants ∧ (changeCycle c s).mass = s.mass ∧
    (changeCycle c s).stroke = s.stroke ∧ (changeCycle c s).rings = s.rings ∧ (changeCycle c s).feed = s.feed ∧
    (changeCycle c s).starvation = s.starvation ∧ (changeCycle c s).place = s.place ∧
    (changeCycle c s).rotation = s.rotation ∧ (changeCycle c s).pulse = s.pulse ∧
    (changeCycle c s).totalPulses = s.totalPulses ∧ (changeCycle c s).unattributed = s.unattributed ∧
    (changeCycle c s).surplus = s.surplus ∧ (changeCycle c s).rebases = s.rebases ∧
    (changeCycle c s).screw = s.screw ∧ (changeCycle c s).pending = s.pending := by
  simp [changeCycle]

@[simp] theorem changeCycle_cycle (c : Cycle) (s : State) : (changeCycle c s).cycle = c := by
  simp [changeCycle]

@[simp] theorem haltPlacement_frame (st : Step) (s : State) :
    (haltPlacement st s).link = s.link ∧ (haltPlacement st s).enabled = s.enabled ∧
    (haltPlacement st s).capture = s.capture ∧ (haltPlacement st s).clock = s.clock ∧
    (haltPlacement st s).channels = s.channels ∧ (haltPlacement st s).sending = s.sending ∧
    (haltPlacement st s).inputs = s.inputs ∧ (haltPlacement st s).groupFlags = s.groupFlags ∧
    (haltPlacement st s).cycle = s.cycle ∧ (haltPlacement st s).tripCause = s.tripCause ∧
    (haltPlacement st s).furtherCauses = s.furtherCauses ∧ (haltPlacement st s).configured = s.configured ∧
    (haltPlacement st s).params = s.params ∧ (haltPlacement st s).tools = s.tools ∧
    (haltPlacement st s).loadPointer = s.loadPointer ∧ (haltPlacement st s).checkCaptured = s.checkCaptured ∧
    (haltPlacement st s).checkFailures = s.checkFailures ∧ (haltPlacement st s).blocking = s.blocking ∧
    (haltPlacement st s).positions = s.positions ∧ (haltPlacement st s).gaugeWorn = s.gaugeWorn ∧
    (haltPlacement st s).angle = s.angle ∧ (haltPlacement st s).cylinders = s.cylinders ∧
    (haltPlacement st s).quadrants = s.quadrants ∧ (haltPlacement st s).mass = s.mass ∧
    (haltPlacement st s).stroke = s.stroke ∧ (haltPlacement st s).rings = s.rings ∧
    (haltPlacement st s).starvation = s.starvation ∧ (haltPlacement st s).ports = s.ports ∧
    (haltPlacement st s).rotation = s.rotation ∧ (haltPlacement st s).pointer = s.pointer ∧
    (haltPlacement st s).pulse = s.pulse ∧ (haltPlacement st s).totalPulses = s.totalPulses ∧
    (haltPlacement st s).unattributed = s.unattributed ∧ (haltPlacement st s).surplus = s.surplus ∧
    (haltPlacement st s).rebases = s.rebases ∧ (haltPlacement st s).screw = s.screw ∧
    (haltPlacement st s).pending = s.pending := by
  unfold haltPlacement
  cases st.beforeGrip <;> simp

@[simp] theorem placementOnTrip_frame (s : State) :
    (placementOnTrip s).link = s.link ∧ (placementOnTrip s).enabled = s.enabled ∧
    (placementOnTrip s).capture = s.capture ∧ (placementOnTrip s).clock = s.clock ∧
    (placementOnTrip s).channels = s.channels ∧ (placementOnTrip s).sending = s.sending ∧
    (placementOnTrip s).inputs = s.inputs ∧ (placementOnTrip s).groupFlags = s.groupFlags ∧
    (placementOnTrip s).cycle = s.cycle ∧ (placementOnTrip s).tripCause = s.tripCause ∧
    (placementOnTrip s).furtherCauses = s.furtherCauses ∧ (placementOnTrip s).configured = s.configured ∧
    (placementOnTrip s).params = s.params ∧ (placementOnTrip s).tools = s.tools ∧
    (placementOnTrip s).loadPointer = s.loadPointer ∧ (placementOnTrip s).checkCaptured = s.checkCaptured ∧
    (placementOnTrip s).checkFailures = s.checkFailures ∧ (placementOnTrip s).blocking = s.blocking ∧
    (placementOnTrip s).positions = s.positions ∧ (placementOnTrip s).gaugeWorn = s.gaugeWorn ∧
    (placementOnTrip s).angle = s.angle ∧ (placementOnTrip s).cylinders = s.cylinders ∧
    (placementOnTrip s).quadrants = s.quadrants ∧ (placementOnTrip s).mass = s.mass ∧
    (placementOnTrip s).stroke = s.stroke ∧ (placementOnTrip s).rings = s.rings ∧
    (placementOnTrip s).starvation = s.starvation ∧ (placementOnTrip s).ports = s.ports ∧
    (placementOnTrip s).rotation = s.rotation ∧ (placementOnTrip s).pointer = s.pointer ∧
    (placementOnTrip s).pulse = s.pulse ∧ (placementOnTrip s).totalPulses = s.totalPulses ∧
    (placementOnTrip s).unattributed = s.unattributed ∧ (placementOnTrip s).surplus = s.surplus ∧
    (placementOnTrip s).rebases = s.rebases ∧ (placementOnTrip s).screw = s.screw ∧
    (placementOnTrip s).pending = s.pending := by
  unfold placementOnTrip
  repeat' split
  all_goals simp

/-- What a trip cause cannot change (R49, R50). -/
@[simp] theorem trip_frame (cause : TripCause) (s : State) :
    (trip cause s).link = s.link ∧ (trip cause s).enabled = s.enabled ∧ (trip cause s).capture = s.capture ∧
    (trip cause s).clock = s.clock ∧ (trip cause s).channels = s.channels ∧ (trip cause s).sending = s.sending ∧
    (trip cause s).inputs = s.inputs ∧ (trip cause s).groupFlags = s.groupFlags ∧
    (trip cause s).configured = s.configured ∧ (trip cause s).params = s.params ∧ (trip cause s).tools = s.tools ∧
    (trip cause s).loadPointer = s.loadPointer ∧ (trip cause s).checkCaptured = s.checkCaptured ∧
    (trip cause s).checkFailures = s.checkFailures ∧ (trip cause s).blocking = s.blocking ∧
    (trip cause s).positions = s.positions ∧ (trip cause s).gaugeWorn = s.gaugeWorn ∧
    (trip cause s).angle = s.angle ∧ (trip cause s).quadrants = s.quadrants ∧ (trip cause s).mass = s.mass ∧
    (trip cause s).stroke = s.stroke ∧ (trip cause s).rings = s.rings ∧ (trip cause s).starvation = s.starvation ∧
    (trip cause s).rotation = s.rotation ∧ (trip cause s).pulse = s.pulse ∧
    (trip cause s).totalPulses = s.totalPulses ∧ (trip cause s).unattributed = s.unattributed ∧
    (trip cause s).surplus = s.surplus ∧ (trip cause s).rebases = s.rebases ∧ (trip cause s).screw = s.screw ∧
    (trip cause s).pending = s.pending := by
  unfold trip
  repeat' split
  all_goals simp

@[simp] theorem evalConfigured_frame (s : State) :
    (evalConfigured s).link = s.link ∧ (evalConfigured s).latched = s.latched ∧
    (evalConfigured s).enabled = s.enabled ∧ (evalConfigured s).capture = s.capture ∧
    (evalConfigured s).clock = s.clock ∧ (evalConfigured s).channels = s.channels ∧
    (evalConfigured s).sending = s.sending ∧ (evalConfigured s).inputs = s.inputs ∧
    (evalConfigured s).groupFlags = s.groupFlags ∧ (evalConfigured s).tripCause = s.tripCause ∧
    (evalConfigured s).furtherCauses = s.furtherCauses ∧ (evalConfigured s).params = s.params ∧
    (evalConfigured s).tools = s.tools ∧ (evalConfigured s).loadPointer = s.loadPointer ∧
    (evalConfigured s).checkCaptured = s.checkCaptured ∧ (evalConfigured s).checkFailures = s.checkFailures ∧
    (evalConfigured s).blocking = s.blocking ∧ (evalConfigured s).positions = s.positions ∧
    (evalConfigured s).gaugeWorn = s.gaugeWorn ∧ (evalConfigured s).angle = s.angle ∧
    (evalConfigured s).quadrants = s.quadrants ∧ (evalConfigured s).mass = s.mass ∧
    (evalConfigured s).stroke = s.stroke ∧ (evalConfigured s).rings = s.rings ∧ (evalConfigured s).feed = s.feed ∧
    (evalConfigured s).starvation = s.starvation ∧ (evalConfigured s).place = s.place ∧
    (evalConfigured s).rotation = s.rotation ∧ (evalConfigured s).pulse = s.pulse ∧
    (evalConfigured s).totalPulses = s.totalPulses ∧ (evalConfigured s).unattributed = s.unattributed ∧
    (evalConfigured s).surplus = s.surplus ∧ (evalConfigured s).rebases = s.rebases ∧
    (evalConfigured s).screw = s.screw ∧ (evalConfigured s).pending = s.pending := by
  unfold evalConfigured
  dsimp only
  repeat' split
  all_goals simp

@[simp] theorem wearNotices_frame (a b : ToolState) (s : State) :
    (wearNotices a b s).link = s.link ∧ (wearNotices a b s).enabled = s.enabled ∧
    (wearNotices a b s).capture = s.capture ∧ (wearNotices a b s).clock = s.clock ∧
    (wearNotices a b s).channels = s.channels ∧ (wearNotices a b s).outputs = s.outputs ∧
    (wearNotices a b s).sending = s.sending ∧ (wearNotices a b s).inputs = s.inputs ∧
    (wearNotices a b s).groupFlags = s.groupFlags ∧ (wearNotices a b s).cycle = s.cycle ∧
    (wearNotices a b s).tripCause = s.tripCause ∧ (wearNotices a b s).furtherCauses = s.furtherCauses ∧
    (wearNotices a b s).configured = s.configured ∧ (wearNotices a b s).params = s.params ∧
    (wearNotices a b s).tools = s.tools ∧ (wearNotices a b s).loadPointer = s.loadPointer ∧
    (wearNotices a b s).checkCaptured = s.checkCaptured ∧ (wearNotices a b s).checkFailures = s.checkFailures ∧
    (wearNotices a b s).blocking = s.blocking ∧ (wearNotices a b s).positions = s.positions ∧
    (wearNotices a b s).gaugeWorn = s.gaugeWorn ∧ (wearNotices a b s).angle = s.angle ∧
    (wearNotices a b s).cylinders = s.cylinders ∧ (wearNotices a b s).quadrants = s.quadrants ∧
    (wearNotices a b s).mass = s.mass ∧ (wearNotices a b s).stroke = s.stroke ∧
    (wearNotices a b s).rings = s.rings ∧ (wearNotices a b s).feed = s.feed ∧
    (wearNotices a b s).starvation = s.starvation ∧ (wearNotices a b s).place = s.place ∧
    (wearNotices a b s).ports = s.ports ∧ (wearNotices a b s).rotation = s.rotation ∧
    (wearNotices a b s).pointer = s.pointer ∧ (wearNotices a b s).pulse = s.pulse ∧
    (wearNotices a b s).totalPulses = s.totalPulses ∧ (wearNotices a b s).unattributed = s.unattributed ∧
    (wearNotices a b s).surplus = s.surplus ∧ (wearNotices a b s).rebases = s.rebases ∧
    (wearNotices a b s).screw = s.screw ∧ (wearNotices a b s).pending = s.pending := by
  unfold wearNotices
  repeat' split
  all_goals simp

@[simp] theorem evalGaugeWorn_frame (s : State) :
    (evalGaugeWorn s).link = s.link ∧ (evalGaugeWorn s).latched = s.latched ∧
    (evalGaugeWorn s).enabled = s.enabled ∧ (evalGaugeWorn s).capture = s.capture ∧
    (evalGaugeWorn s).clock = s.clock ∧ (evalGaugeWorn s).channels = s.channels ∧
    (evalGaugeWorn s).sending = s.sending ∧ (evalGaugeWorn s).inputs = s.inputs ∧
    (evalGaugeWorn s).groupFlags = s.groupFlags ∧ (evalGaugeWorn s).cycle = s.cycle ∧
    (evalGaugeWorn s).tripCause = s.tripCause ∧ (evalGaugeWorn s).furtherCauses = s.furtherCauses ∧
    (evalGaugeWorn s).configured = s.configured ∧ (evalGaugeWorn s).params = s.params ∧
    (evalGaugeWorn s).tools = s.tools ∧ (evalGaugeWorn s).loadPointer = s.loadPointer ∧
    (evalGaugeWorn s).checkCaptured = s.checkCaptured ∧ (evalGaugeWorn s).checkFailures = s.checkFailures ∧
    (evalGaugeWorn s).blocking = s.blocking ∧ (evalGaugeWorn s).positions = s.positions ∧
    (evalGaugeWorn s).angle = s.angle ∧ (evalGaugeWorn s).cylinders = s.cylinders ∧
    (evalGaugeWorn s).quadrants = s.quadrants ∧ (evalGaugeWorn s).mass = s.mass ∧
    (evalGaugeWorn s).stroke = s.stroke ∧ (evalGaugeWorn s).rings = s.rings ∧ (evalGaugeWorn s).feed = s.feed ∧
    (evalGaugeWorn s).starvation = s.starvation ∧ (evalGaugeWorn s).place = s.place ∧
    (evalGaugeWorn s).ports = s.ports ∧ (evalGaugeWorn s).rotation = s.rotation ∧
    (evalGaugeWorn s).pointer = s.pointer ∧ (evalGaugeWorn s).pulse = s.pulse ∧
    (evalGaugeWorn s).totalPulses = s.totalPulses ∧ (evalGaugeWorn s).unattributed = s.unattributed ∧
    (evalGaugeWorn s).surplus = s.surplus ∧ (evalGaugeWorn s).rebases = s.rebases ∧
    (evalGaugeWorn s).screw = s.screw ∧ (evalGaugeWorn s).pending = s.pending := by
  unfold evalGaugeWorn
  dsimp only
  split <;> simp

@[simp] theorem toolChanged_frame (i : Fin 64) (old : ToolFields) (s : State) :
    (toolChanged i old s).link = s.link ∧ (toolChanged i old s).enabled = s.enabled ∧
    (toolChanged i old s).capture = s.capture ∧ (toolChanged i old s).clock = s.clock ∧
    (toolChanged i old s).channels = s.channels ∧ (toolChanged i old s).sending = s.sending ∧
    (toolChanged i old s).inputs = s.inputs ∧ (toolChanged i old s).groupFlags = s.groupFlags ∧
    (toolChanged i old s).tripCause = s.tripCause ∧ (toolChanged i old s).furtherCauses = s.furtherCauses ∧
    (toolChanged i old s).params = s.params ∧ (toolChanged i old s).tools = s.tools ∧
    (toolChanged i old s).loadPointer = s.loadPointer ∧ (toolChanged i old s).checkCaptured = s.checkCaptured ∧
    (toolChanged i old s).checkFailures = s.checkFailures ∧ (toolChanged i old s).angle = s.angle ∧
    (toolChanged i old s).quadrants = s.quadrants ∧ (toolChanged i old s).mass = s.mass ∧
    (toolChanged i old s).stroke = s.stroke ∧ (toolChanged i old s).rings = s.rings ∧
    (toolChanged i old s).feed = s.feed ∧ (toolChanged i old s).starvation = s.starvation ∧
    (toolChanged i old s).place = s.place ∧ (toolChanged i old s).rotation = s.rotation ∧
    (toolChanged i old s).pulse = s.pulse ∧ (toolChanged i old s).totalPulses = s.totalPulses ∧
    (toolChanged i old s).unattributed = s.unattributed ∧ (toolChanged i old s).surplus = s.surplus ∧
    (toolChanged i old s).rebases = s.rebases ∧ (toolChanged i old s).screw = s.screw ∧
    (toolChanged i old s).pending = s.pending := by
  unfold toolChanged
  dsimp only
  repeat' split
  all_goals simp

@[simp] theorem putTool_frame (i : Fin 64) (x : ToolFields) (s : State) :
    (putTool i x s).link = s.link ∧ (putTool i x s).enabled = s.enabled ∧ (putTool i x s).capture = s.capture ∧
    (putTool i x s).clock = s.clock ∧ (putTool i x s).channels = s.channels ∧ (putTool i x s).sending = s.sending ∧
    (putTool i x s).inputs = s.inputs ∧ (putTool i x s).groupFlags = s.groupFlags ∧
    (putTool i x s).tripCause = s.tripCause ∧ (putTool i x s).furtherCauses = s.furtherCauses ∧
    (putTool i x s).params = s.params ∧ (putTool i x s).loadPointer = s.loadPointer ∧
    (putTool i x s).checkCaptured = s.checkCaptured ∧ (putTool i x s).checkFailures = s.checkFailures ∧
    (putTool i x s).angle = s.angle ∧ (putTool i x s).quadrants = s.quadrants ∧ (putTool i x s).mass = s.mass ∧
    (putTool i x s).stroke = s.stroke ∧ (putTool i x s).rings = s.rings ∧ (putTool i x s).feed = s.feed ∧
    (putTool i x s).starvation = s.starvation ∧ (putTool i x s).place = s.place ∧
    (putTool i x s).rotation = s.rotation ∧ (putTool i x s).pulse = s.pulse ∧
    (putTool i x s).totalPulses = s.totalPulses ∧ (putTool i x s).unattributed = s.unattributed ∧
    (putTool i x s).surplus = s.surplus ∧ (putTool i x s).rebases = s.rebases ∧ (putTool i x s).screw = s.screw ∧
    (putTool i x s).pending = s.pending := by
  simp [putTool]

/-- What a failed check cannot change (R73). -/
@[simp] theorem failRecord_frame (i : Fin 64) (s : State) :
    (failRecord i s).link = s.link ∧ (failRecord i s).enabled = s.enabled ∧ (failRecord i s).capture = s.capture ∧
    (failRecord i s).clock = s.clock ∧ (failRecord i s).channels = s.channels ∧
    (failRecord i s).sending = s.sending ∧ (failRecord i s).inputs = s.inputs ∧
    (failRecord i s).groupFlags = s.groupFlags ∧ (failRecord i s).params = s.params ∧
    (failRecord i s).loadPointer = s.loadPointer ∧ (failRecord i s).angle = s.angle ∧
    (failRecord i s).quadrants = s.quadrants ∧ (failRecord i s).mass = s.mass ∧
    (failRecord i s).stroke = s.stroke ∧ (failRecord i s).rings = s.rings ∧
    (failRecord i s).starvation = s.starvation ∧ (failRecord i s).rotation = s.rotation ∧
    (failRecord i s).pulse = s.pulse ∧ (failRecord i s).totalPulses = s.totalPulses ∧
    (failRecord i s).unattributed = s.unattributed ∧ (failRecord i s).surplus = s.surplus ∧
    (failRecord i s).rebases = s.rebases ∧ (failRecord i s).screw = s.screw ∧ (failRecord i s).pending = s.pending := by
  unfold failRecord
  dsimp only
  repeat' split
  all_goals simp

@[simp] theorem readTool_frame (i : Fin 64) (s : State) :
    (readTool i s).link = s.link ∧ (readTool i s).enabled = s.enabled ∧ (readTool i s).capture = s.capture ∧
    (readTool i s).clock = s.clock ∧ (readTool i s).channels = s.channels ∧ (readTool i s).sending = s.sending ∧
    (readTool i s).inputs = s.inputs ∧ (readTool i s).groupFlags = s.groupFlags ∧
    (readTool i s).params = s.params ∧ (readTool i s).loadPointer = s.loadPointer ∧
    (readTool i s).angle = s.angle ∧ (readTool i s).quadrants = s.quadrants ∧ (readTool i s).mass = s.mass ∧
    (readTool i s).stroke = s.stroke ∧ (readTool i s).rings = s.rings ∧ (readTool i s).starvation = s.starvation ∧
    (readTool i s).rotation = s.rotation ∧ (readTool i s).pulse = s.pulse ∧
    (readTool i s).totalPulses = s.totalPulses ∧ (readTool i s).unattributed = s.unattributed ∧
    (readTool i s).surplus = s.surplus ∧ (readTool i s).rebases = s.rebases ∧ (readTool i s).screw = s.screw ∧
    (readTool i s).pending = s.pending := by
  unfold readTool
  repeat' split
  all_goals simp

@[simp] theorem endStrokeWith_frame (cause : EndCause) (s : State) :
    (endStrokeWith cause s).link = s.link ∧ (endStrokeWith cause s).enabled = s.enabled ∧
    (endStrokeWith cause s).capture = s.capture ∧ (endStrokeWith cause s).clock = s.clock ∧
    (endStrokeWith cause s).channels = s.channels ∧ (endStrokeWith cause s).sending = s.sending ∧
    (endStrokeWith cause s).inputs = s.inputs ∧ (endStrokeWith cause s).groupFlags = s.groupFlags ∧
    (endStrokeWith cause s).tripCause = s.tripCause ∧ (endStrokeWith cause s).furtherCauses = s.furtherCauses ∧
    (endStrokeWith cause s).configured = s.configured ∧ (endStrokeWith cause s).params = s.params ∧
    (endStrokeWith cause s).tools = s.tools ∧ (endStrokeWith cause s).loadPointer = s.loadPointer ∧
    (endStrokeWith cause s).checkCaptured = s.checkCaptured ∧
    (endStrokeWith cause s).checkFailures = s.checkFailures ∧ (endStrokeWith cause s).blocking = s.blocking ∧
    (endStrokeWith cause s).positions = s.positions ∧ (endStrokeWith cause s).gaugeWorn = s.gaugeWorn ∧
    (endStrokeWith cause s).angle = s.angle ∧ (endStrokeWith cause s).cylinders = s.cylinders ∧
    (endStrokeWith cause s).quadrants = s.quadrants ∧ (endStrokeWith cause s).mass = s.mass ∧
    (endStrokeWith cause s).rings = s.rings ∧ (endStrokeWith cause s).feed = s.feed ∧
    (endStrokeWith cause s).starvation = s.starvation ∧ (endStrokeWith cause s).place = s.place ∧
    (endStrokeWith cause s).rotation = s.rotation ∧ (endStrokeWith cause s).pulse = s.pulse ∧
    (endStrokeWith cause s).totalPulses = s.totalPulses ∧ (endStrokeWith cause s).unattributed = s.unattributed ∧
    (endStrokeWith cause s).surplus = s.surplus ∧ (endStrokeWith cause s).rebases = s.rebases ∧
    (endStrokeWith cause s).screw = s.screw ∧ (endStrokeWith cause s).pending = s.pending := by
  unfold endStrokeWith
  dsimp only
  split <;> simp

end Sys2Proof.Machine
end

