-- ==== Sys2Proof/Laws/Events.lean ====
section
/-! SUPPORT. The frame of what each event does in its block: one lemma an event, which says of every field the event
cannot change that it is as it was. -/

namespace Sys2Proof.Machine

/-! ### Rings and the Feed Queue -/

@[simp] theorem raiseGrouted_frame (before : List Ring) (s : State) :
    (raiseGrouted before s).link = s.link ∧ (raiseGrouted before s).enabled = s.enabled ∧
    (raiseGrouted before s).capture = s.capture ∧ (raiseGrouted before s).clock = s.clock ∧
    (raiseGrouted before s).channels = s.channels ∧ (raiseGrouted before s).outputs = s.outputs ∧
    (raiseGrouted before s).sending = s.sending ∧ (raiseGrouted before s).inputs = s.inputs ∧
    (raiseGrouted before s).groupFlags = s.groupFlags ∧ (raiseGrouted before s).cycle = s.cycle ∧
    (raiseGrouted before s).tripCause = s.tripCause ∧ (raiseGrouted before s).furtherCauses = s.furtherCauses ∧
    (raiseGrouted before s).configured = s.configured ∧ (raiseGrouted before s).params = s.params ∧
    (raiseGrouted before s).tools = s.tools ∧ (raiseGrouted before s).loadPointer = s.loadPointer ∧
    (raiseGrouted before s).checkCaptured = s.checkCaptured ∧
    (raiseGrouted before s).checkFailures = s.checkFailures ∧ (raiseGrouted before s).blocking = s.blocking ∧
    (raiseGrouted before s).positions = s.positions ∧ (raiseGrouted before s).gaugeWorn = s.gaugeWorn ∧
    (raiseGrouted before s).angle = s.angle ∧ (raiseGrouted before s).cylinders = s.cylinders ∧
    (raiseGrouted before s).quadrants = s.quadrants ∧ (raiseGrouted before s).mass = s.mass ∧
    (raiseGrouted before s).stroke = s.stroke ∧ (raiseGrouted before s).rings = s.rings ∧
    (raiseGrouted before s).feed = s.feed ∧ (raiseGrouted before s).starvation = s.starvation ∧
    (raiseGrouted before s).place = s.place ∧ (raiseGrouted before s).ports = s.ports ∧
    (raiseGrouted before s).rotation = s.rotation ∧ (raiseGrouted before s).pointer = s.pointer ∧
    (raiseGrouted before s).pulse = s.pulse ∧ (raiseGrouted before s).totalPulses = s.totalPulses ∧
    (raiseGrouted before s).unattributed = s.unattributed ∧ (raiseGrouted before s).surplus = s.surplus ∧
    (raiseGrouted before s).rebases = s.rebases ∧ (raiseGrouted before s).screw = s.screw ∧
    (raiseGrouted before s).pending = s.pending := by
  simp [raiseGrouted]

@[simp] theorem advanceRings_frame (delta : Nat) (s : State) :
    (advanceRings delta s).link = s.link ∧ (advanceRings delta s).enabled = s.enabled ∧
    (advanceRings delta s).capture = s.capture ∧ (advanceRings delta s).clock = s.clock ∧
    (advanceRings delta s).channels = s.channels ∧ (advanceRings delta s).sending = s.sending ∧
    (advanceRings delta s).inputs = s.inputs ∧ (advanceRings delta s).groupFlags = s.groupFlags ∧
    (advanceRings delta s).cycle = s.cycle ∧ (advanceRings delta s).tripCause = s.tripCause ∧
    (advanceRings delta s).furtherCauses = s.furtherCauses ∧ (advanceRings delta s).configured = s.configured ∧
    (advanceRings delta s).params = s.params ∧ (advanceRings delta s).tools = s.tools ∧
    (advanceRings delta s).loadPointer = s.loadPointer ∧ (advanceRings delta s).checkCaptured = s.checkCaptured ∧
    (advanceRings delta s).checkFailures = s.checkFailures ∧ (advanceRings delta s).blocking = s.blocking ∧
    (advanceRings delta s).positions = s.positions ∧ (advanceRings delta s).gaugeWorn = s.gaugeWorn ∧
    (advanceRings delta s).angle = s.angle ∧ (advanceRings delta s).cylinders = s.cylinders ∧
    (advanceRings delta s).quadrants = s.quadrants ∧ (advanceRings delta s).mass = s.mass ∧
    (advanceRings delta s).stroke = s.stroke ∧ (advanceRings delta s).feed = s.feed ∧
    (advanceRings delta s).starvation = s.starvation ∧ (advanceRings delta s).place = s.place ∧
    (advanceRings delta s).rotation = s.rotation ∧ (advanceRings delta s).pulse = s.pulse ∧
    (advanceRings delta s).totalPulses = s.totalPulses ∧ (advanceRings delta s).unattributed = s.unattributed ∧
    (advanceRings delta s).surplus = s.surplus ∧ (advanceRings delta s).rebases = s.rebases ∧
    (advanceRings delta s).screw = s.screw ∧ (advanceRings delta s).pending = s.pending := by
  simp [advanceRings]

@[simp] theorem creditVolume_frame (volume : Nat) (s : State) :
    (creditVolume volume s).link = s.link ∧ (creditVolume volume s).enabled = s.enabled ∧
    (creditVolume volume s).capture = s.capture ∧ (creditVolume volume s).clock = s.clock ∧
    (creditVolume volume s).channels = s.channels ∧ (creditVolume volume s).outputs = s.outputs ∧
    (creditVolume volume s).sending = s.sending ∧ (creditVolume volume s).inputs = s.inputs ∧
    (creditVolume volume s).groupFlags = s.groupFlags ∧ (creditVolume volume s).cycle = s.cycle ∧
    (creditVolume volume s).tripCause = s.tripCause ∧ (creditVolume volume s).furtherCauses = s.furtherCauses ∧
    (creditVolume volume s).configured = s.configured ∧ (creditVolume volume s).params = s.params ∧
    (creditVolume volume s).tools = s.tools ∧ (creditVolume volume s).loadPointer = s.loadPointer ∧
    (creditVolume volume s).checkCaptured = s.checkCaptured ∧
    (creditVolume volume s).checkFailures = s.checkFailures ∧ (creditVolume volume s).blocking = s.blocking ∧
    (creditVolume volume s).positions = s.positions ∧ (creditVolume volume s).gaugeWorn = s.gaugeWorn ∧
    (creditVolume volume s).angle = s.angle ∧ (creditVolume volume s).cylinders = s.cylinders ∧
    (creditVolume volume s).quadrants = s.quadrants ∧ (creditVolume volume s).mass = s.mass ∧
    (creditVolume volume s).stroke = s.stroke ∧ (creditVolume volume s).feed = s.feed ∧
    (creditVolume volume s).starvation = s.starvation ∧ (creditVolume volume s).place = s.place ∧
    (creditVolume volume s).ports = s.ports ∧ (creditVolume volume s).rotation = s.rotation ∧
    (creditVolume volume s).pointer = s.pointer ∧ (creditVolume volume s).pulse = s.pulse ∧
    (creditVolume volume s).totalPulses = s.totalPulses ∧ (creditVolume volume s).unattributed = s.unattributed ∧
    (creditVolume volume s).rebases = s.rebases ∧ (creditVolume volume s).screw = s.screw ∧
    (creditVolume volume s).pending = s.pending := by
  unfold creditVolume
  repeat' split
  all_goals simp

@[simp] theorem closeRing_frame (s : State) :
    (closeRing s).link = s.link ∧ (closeRing s).enabled = s.enabled ∧ (closeRing s).capture = s.capture ∧
    (closeRing s).clock = s.clock ∧ (closeRing s).channels = s.channels ∧ (closeRing s).outputs = s.outputs ∧
    (closeRing s).sending = s.sending ∧ (closeRing s).inputs = s.inputs ∧ (closeRing s).groupFlags = s.groupFlags ∧
    (closeRing s).cycle = s.cycle ∧ (closeRing s).tripCause = s.tripCause ∧
    (closeRing s).furtherCauses = s.furtherCauses ∧ (closeRing s).configured = s.configured ∧
    (closeRing s).params = s.params ∧ (closeRing s).tools = s.tools ∧ (closeRing s).loadPointer = s.loadPointer ∧
    (closeRing s).checkCaptured = s.checkCaptured ∧ (closeRing s).checkFailures = s.checkFailures ∧
    (closeRing s).blocking = s.blocking ∧ (closeRing s).positions = s.positions ∧
    (closeRing s).gaugeWorn = s.gaugeWorn ∧ (closeRing s).angle = s.angle ∧ (closeRing s).cylinders = s.cylinders ∧
    (closeRing s).quadrants = s.quadrants ∧ (closeRing s).mass = s.mass ∧ (closeRing s).stroke = s.stroke ∧
    (closeRing s).feed = s.feed ∧ (closeRing s).starvation = s.starvation ∧ (closeRing s).place = s.place ∧
    (closeRing s).ports = s.ports ∧ (closeRing s).rotation = s.rotation ∧ (closeRing s).pointer = s.pointer ∧
    (closeRing s).pulse = s.pulse ∧ (closeRing s).totalPulses = s.totalPulses ∧
    (closeRing s).unattributed = s.unattributed ∧ (closeRing s).surplus = s.surplus ∧
    (closeRing s).rebases = s.rebases ∧ (closeRing s).screw = s.screw ∧ (closeRing s).pending = s.pending := by
  simp [closeRing]

@[simp] theorem reserve_frame (kind : SegmentKind) (type : RingType) (s : State) :
    (reserve kind type s).link = s.link ∧ (reserve kind type s).latched = s.latched ∧
    (reserve kind type s).enabled = s.enabled ∧ (reserve kind type s).capture = s.capture ∧
    (reserve kind type s).clock = s.clock ∧ (reserve kind type s).channels = s.channels ∧
    (reserve kind type s).outputs = s.outputs ∧ (reserve kind type s).sending = s.sending ∧
    (reserve kind type s).inputs = s.inputs ∧ (reserve kind type s).groupFlags = s.groupFlags ∧
    (reserve kind type s).cycle = s.cycle ∧ (reserve kind type s).tripCause = s.tripCause ∧
    (reserve kind type s).furtherCauses = s.furtherCauses ∧ (reserve kind type s).configured = s.configured ∧
    (reserve kind type s).params = s.params ∧ (reserve kind type s).tools = s.tools ∧
    (reserve kind type s).loadPointer = s.loadPointer ∧ (reserve kind type s).checkCaptured = s.checkCaptured ∧
    (reserve kind type s).checkFailures = s.checkFailures ∧ (reserve kind type s).blocking = s.blocking ∧
    (reserve kind type s).positions = s.positions ∧ (reserve kind type s).gaugeWorn = s.gaugeWorn ∧
    (reserve kind type s).angle = s.angle ∧ (reserve kind type s).cylinders = s.cylinders ∧
    (reserve kind type s).quadrants = s.quadrants ∧ (reserve kind type s).mass = s.mass ∧
    (reserve kind type s).stroke = s.stroke ∧ (reserve kind type s).rings = s.rings ∧
    (reserve kind type s).starvation = s.starvation ∧ (reserve kind type s).place = s.place ∧
    (reserve kind type s).ports = s.ports ∧ (reserve kind type s).rotation = s.rotation ∧
    (reserve kind type s).pointer = s.pointer ∧ (reserve kind type s).pulse = s.pulse ∧
    (reserve kind type s).totalPulses = s.totalPulses ∧ (reserve kind type s).unattributed = s.unattributed ∧
    (reserve kind type s).surplus = s.surplus ∧ (reserve kind type s).rebases = s.rebases ∧
    (reserve kind type s).screw = s.screw ∧ (reserve kind type s).pending = s.pending := by
  simp [reserve]

@[simp] theorem starve_frame (s : State) :
    (starve s).link = s.link ∧ (starve s).latched = s.latched ∧ (starve s).enabled = s.enabled ∧
    (starve s).capture = s.capture ∧ (starve s).clock = s.clock ∧ (starve s).channels = s.channels ∧
    (starve s).outputs = s.outputs ∧ (starve s).sending = s.sending ∧ (starve s).inputs = s.inputs ∧
    (starve s).groupFlags = s.groupFlags ∧ (starve s).cycle = s.cycle ∧ (starve s).tripCause = s.tripCause ∧
    (starve s).furtherCauses = s.furtherCauses ∧ (starve s).configured = s.configured ∧
    (starve s).params = s.params ∧ (starve s).tools = s.tools ∧ (starve s).loadPointer = s.loadPointer ∧
    (starve s).checkCaptured = s.checkCaptured ∧ (starve s).checkFailures = s.checkFailures ∧
    (starve s).blocking = s.blocking ∧ (starve s).positions = s.positions ∧ (starve s).gaugeWorn = s.gaugeWorn ∧
    (starve s).angle = s.angle ∧ (starve s).cylinders = s.cylinders ∧ (starve s).quadrants = s.quadrants ∧
    (starve s).mass = s.mass ∧ (starve s).stroke = s.stroke ∧ (starve s).rings = s.rings ∧
    (starve s).feed = s.feed ∧ (starve s).place = s.place ∧ (starve s).ports = s.ports ∧
    (starve s).rotation = s.rotation ∧ (starve s).pointer = s.pointer ∧ (starve s).pulse = s.pulse ∧
    (starve s).totalPulses = s.totalPulses ∧ (starve s).unattributed = s.unattributed ∧
    (starve s).surplus = s.surplus ∧ (starve s).rebases = s.rebases ∧ (starve s).screw = s.screw ∧
    (starve s).pending = s.pending := by
  simp [starve]

@[simp] theorem matchSegment_frame (kind : SegmentKind) (type : RingType) (s : State) :
    (matchSegment kind type s).link = s.link ∧ (matchSegment kind type s).latched = s.latched ∧
    (matchSegment kind type s).enabled = s.enabled ∧ (matchSegment kind type s).capture = s.capture ∧
    (matchSegment kind type s).clock = s.clock ∧ (matchSegment kind type s).channels = s.channels ∧
    (matchSegment kind type s).sending = s.sending ∧ (matchSegment kind type s).inputs = s.inputs ∧
    (matchSegment kind type s).groupFlags = s.groupFlags ∧ (matchSegment kind type s).cycle = s.cycle ∧
    (matchSegment kind type s).tripCause = s.tripCause ∧
    (matchSegment kind type s).furtherCauses = s.furtherCauses ∧
    (matchSegment kind type s).configured = s.configured ∧ (matchSegment kind type s).params = s.params ∧
    (matchSegment kind type s).tools = s.tools ∧ (matchSegment kind type s).loadPointer = s.loadPointer ∧
    (matchSegment kind type s).checkCaptured = s.checkCaptured ∧
    (matchSegment kind type s).checkFailures = s.checkFailures ∧ (matchSegment kind type s).blocking = s.blocking ∧
    (matchSegment kind type s).positions = s.positions ∧ (matchSegment kind type s).gaugeWorn = s.gaugeWorn ∧
    (matchSegment kind type s).angle = s.angle ∧ (matchSegment kind type s).cylinders = s.cylinders ∧
    (matchSegment kind type s).quadrants = s.quadrants ∧ (matchSegment kind type s).mass = s.mass ∧
    (matchSegment kind type s).stroke = s.stroke ∧ (matchSegment kind type s).rings = s.rings ∧
    (matchSegment kind type s).ports = s.ports ∧ (matchSegment kind type s).rotation = s.rotation ∧
    (matchSegment kind type s).pointer = s.pointer ∧ (matchSegment kind type s).pulse = s.pulse ∧
    (matchSegment kind type s).totalPulses = s.totalPulses ∧
    (matchSegment kind type s).unattributed = s.unattributed ∧ (matchSegment kind type s).surplus = s.surplus ∧
    (matchSegment kind type s).rebases = s.rebases ∧ (matchSegment kind type s).screw = s.screw ∧
    (matchSegment kind type s).pending = s.pending := by
  unfold matchSegment
  repeat' split
  all_goals simp

@[simp] theorem retryMatch_frame (s : State) :
    (retryMatch s).link = s.link ∧ (retryMatch s).latched = s.latched ∧ (retryMatch s).enabled = s.enabled ∧
    (retryMatch s).capture = s.capture ∧ (retryMatch s).clock = s.clock ∧ (retryMatch s).channels = s.channels ∧
    (retryMatch s).sending = s.sending ∧ (retryMatch s).inputs = s.inputs ∧
    (retryMatch s).groupFlags = s.groupFlags ∧ (retryMatch s).cycle = s.cycle ∧
    (retryMatch s).tripCause = s.tripCause ∧ (retryMatch s).furtherCauses = s.furtherCauses ∧
    (retryMatch s).configured = s.configured ∧ (retryMatch s).params = s.params ∧ (retryMatch s).tools = s.tools ∧
    (retryMatch s).loadPointer = s.loadPointer ∧ (retryMatch s).checkCaptured = s.checkCaptured ∧
    (retryMatch s).checkFailures = s.checkFailures ∧ (retryMatch s).blocking = s.blocking ∧
    (retryMatch s).positions = s.positions ∧ (retryMatch s).gaugeWorn = s.gaugeWorn ∧
    (retryMatch s).angle = s.angle ∧ (retryMatch s).cylinders = s.cylinders ∧
    (retryMatch s).quadrants = s.quadrants ∧ (retryMatch s).mass = s.mass ∧ (retryMatch s).stroke = s.stroke ∧
    (retryMatch s).rings = s.rings ∧ (retryMatch s).ports = s.ports ∧ (retryMatch s).rotation = s.rotation ∧
    (retryMatch s).pointer = s.pointer ∧ (retryMatch s).pulse = s.pulse ∧
    (retryMatch s).totalPulses = s.totalPulses ∧ (retryMatch s).unattributed = s.unattributed ∧
    (retryMatch s).surplus = s.surplus ∧ (retryMatch s).rebases = s.rebases ∧ (retryMatch s).screw = s.screw ∧
    (retryMatch s).pending = s.pending := by
  unfold retryMatch
  repeat' split
  all_goals simp

/-! ### Placement -/

@[simp] theorem enterStep_frame (st : Step) (s : State) :
    (enterStep st s).link = s.link ∧ (enterStep st s).latched = s.latched ∧ (enterStep st s).enabled = s.enabled ∧
    (enterStep st s).capture = s.capture ∧ (enterStep st s).clock = s.clock ∧
    (enterStep st s).channels = s.channels ∧ (enterStep st s).outputs = s.outputs ∧
    (enterStep st s).sending = s.sending ∧ (enterStep st s).inputs = s.inputs ∧
    (enterStep st s).groupFlags = s.groupFlags ∧ (enterStep st s).cycle = s.cycle ∧
    (enterStep st s).tripCause = s.tripCause ∧ (enterStep st s).furtherCauses = s.furtherCauses ∧
    (enterStep st s).configured = s.configured ∧ (enterStep st s).params = s.params ∧
    (enterStep st s).tools = s.tools ∧ (enterStep st s).loadPointer = s.loadPointer ∧
    (enterStep st s).checkCaptured = s.checkCaptured ∧ (enterStep st s).checkFailures = s.checkFailures ∧
    (enterStep st s).blocking = s.blocking ∧ (enterStep st s).positions = s.positions ∧
    (enterStep st s).gaugeWorn = s.gaugeWorn ∧ (enterStep st s).angle = s.angle ∧
    (enterStep st s).cylinders = s.cylinders ∧ (enterStep st s).quadrants = s.quadrants ∧
    (enterStep st s).mass = s.mass ∧ (enterStep st s).stroke = s.stroke ∧ (enterStep st s).rings = s.rings ∧
    (enterStep st s).feed = s.feed ∧ (enterStep st s).starvation = s.starvation ∧
    (enterStep st s).ports = s.ports ∧ (enterStep st s).rotation = s.rotation ∧
    (enterStep st s).pointer = s.pointer ∧ (enterStep st s).pulse = s.pulse ∧
    (enterStep st s).totalPulses = s.totalPulses ∧ (enterStep st s).unattributed = s.unattributed ∧
    (enterStep st s).surplus = s.surplus ∧ (enterStep st s).rebases = s.rebases ∧
    (enterStep st s).screw = s.screw ∧ (enterStep st s).pending = s.pending := by
  simp [enterStep]

@[simp] theorem pickStep_frame (r : Ring) (slot : Slot) (s : State) :
    (pickStep r slot s).link = s.link ∧ (pickStep r slot s).latched = s.latched ∧
    (pickStep r slot s).enabled = s.enabled ∧ (pickStep r slot s).capture = s.capture ∧
    (pickStep r slot s).clock = s.clock ∧ (pickStep r slot s).channels = s.channels ∧
    (pickStep r slot s).sending = s.sending ∧ (pickStep r slot s).inputs = s.inputs ∧
    (pickStep r slot s).groupFlags = s.groupFlags ∧ (pickStep r slot s).cycle = s.cycle ∧
    (pickStep r slot s).tripCause = s.tripCause ∧ (pickStep r slot s).furtherCauses = s.furtherCauses ∧
    (pickStep r slot s).configured = s.configured ∧ (pickStep r slot s).params = s.params ∧
    (pickStep r slot s).tools = s.tools ∧ (pickStep r slot s).loadPointer = s.loadPointer ∧
    (pickStep r slot s).checkCaptured = s.checkCaptured ∧ (pickStep r slot s).checkFailures = s.checkFailures ∧
    (pickStep r slot s).blocking = s.blocking ∧ (pickStep r slot s).positions = s.positions ∧
    (pickStep r slot s).gaugeWorn = s.gaugeWorn ∧ (pickStep r slot s).angle = s.angle ∧
    (pickStep r slot s).cylinders = s.cylinders ∧ (pickStep r slot s).quadrants = s.quadrants ∧
    (pickStep r slot s).mass = s.mass ∧ (pickStep r slot s).stroke = s.stroke ∧
    (pickStep r slot s).rings = s.rings ∧ (pickStep r slot s).ports = s.ports ∧
    (pickStep r slot s).rotation = s.rotation ∧ (pickStep r slot s).pointer = s.pointer ∧
    (pickStep r slot s).pulse = s.pulse ∧ (pickStep r slot s).totalPulses = s.totalPulses ∧
    (pickStep r slot s).unattributed = s.unattributed ∧ (pickStep r slot s).surplus = s.surplus ∧
    (pickStep r slot s).rebases = s.rebases ∧ (pickStep r slot s).screw = s.screw ∧
    (pickStep r slot s).pending = s.pending := by
  simp [pickStep]

@[simp] theorem enterPositioning_frame (r : Ring) (slot : Slot) (s : State) :
    (enterPositioning r slot s).link = s.link ∧ (enterPositioning r slot s).latched = s.latched ∧
    (enterPositioning r slot s).enabled = s.enabled ∧ (enterPositioning r slot s).capture = s.capture ∧
    (enterPositioning r slot s).clock = s.clock ∧ (enterPositioning r slot s).channels = s.channels ∧
    (enterPositioning r slot s).sending = s.sending ∧ (enterPositioning r slot s).inputs = s.inputs ∧
    (enterPositioning r slot s).groupFlags = s.groupFlags ∧ (enterPositioning r slot s).cycle = s.cycle ∧
    (enterPositioning r slot s).tripCause = s.tripCause ∧
    (enterPositioning r slot s).furtherCauses = s.furtherCauses ∧
    (enterPositioning r slot s).configured = s.configured ∧ (enterPositioning r slot s).params = s.params ∧
    (enterPositioning r slot s).tools = s.tools ∧ (enterPositioning r slot s).loadPointer = s.loadPointer ∧
    (enterPositioning r slot s).checkCaptured = s.checkCaptured ∧
    (enterPositioning r slot s).checkFailures = s.checkFailures ∧
    (enterPositioning r slot s).blocking = s.blocking ∧ (enterPositioning r slot s).positions = s.positions ∧
    (enterPositioning r slot s).gaugeWorn = s.gaugeWorn ∧ (enterPositioning r slot s).angle = s.angle ∧
    (enterPositioning r slot s).cylinders = s.cylinders ∧ (enterPositioning r slot s).quadrants = s.quadrants ∧
    (enterPositioning r slot s).mass = s.mass ∧ (enterPositioning r slot s).stroke = s.stroke ∧
    (enterPositioning r slot s).rings = s.rings ∧ (enterPositioning r slot s).feed = s.feed ∧
    (enterPositioning r slot s).starvation = s.starvation ∧ (enterPositioning r slot s).ports = s.ports ∧
    (enterPositioning r slot s).rotation = s.rotation ∧ (enterPositioning r slot s).pointer = s.pointer ∧
    (enterPositioning r slot s).pulse = s.pulse ∧ (enterPositioning r slot s).totalPulses = s.totalPulses ∧
    (enterPositioning r slot s).unattributed = s.unattributed ∧ (enterPositioning r slot s).surplus = s.surplus ∧
    (enterPositioning r slot s).rebases = s.rebases ∧ (enterPositioning r slot s).screw = s.screw ∧
    (enterPositioning r slot s).pending = s.pending := by
  simp [enterPositioning]

@[simp] theorem clearingLook_frame (s : State) :
    (clearingLook s).link = s.link ∧ (clearingLook s).latched = s.latched ∧ (clearingLook s).enabled = s.enabled ∧
    (clearingLook s).capture = s.capture ∧ (clearingLook s).clock = s.clock ∧
    (clearingLook s).channels = s.channels ∧ (clearingLook s).sending = s.sending ∧
    (clearingLook s).inputs = s.inputs ∧ (clearingLook s).groupFlags = s.groupFlags ∧
    (clearingLook s).cycle = s.cycle ∧ (clearingLook s).tripCause = s.tripCause ∧
    (clearingLook s).furtherCauses = s.furtherCauses ∧ (clearingLook s).configured = s.configured ∧
    (clearingLook s).params = s.params ∧ (clearingLook s).tools = s.tools ∧
    (clearingLook s).loadPointer = s.loadPointer ∧ (clearingLook s).checkCaptured = s.checkCaptured ∧
    (clearingLook s).checkFailures = s.checkFailures ∧ (clearingLook s).blocking = s.blocking ∧
    (clearingLook s).positions = s.positions ∧ (clearingLook s).gaugeWorn = s.gaugeWorn ∧
    (clearingLook s).angle = s.angle ∧ (clearingLook s).cylinders = s.cylinders ∧
    (clearingLook s).quadrants = s.quadrants ∧ (clearingLook s).mass = s.mass ∧
    (clearingLook s).stroke = s.stroke ∧ (clearingLook s).rings = s.rings ∧ (clearingLook s).feed = s.feed ∧
    (clearingLook s).starvation = s.starvation ∧ (clearingLook s).ports = s.ports ∧
    (clearingLook s).rotation = s.rotation ∧ (clearingLook s).pointer = s.pointer ∧
    (clearingLook s).pulse = s.pulse ∧ (clearingLook s).totalPulses = s.totalPulses ∧
    (clearingLook s).unattributed = s.unattributed ∧ (clearingLook s).surplus = s.surplus ∧
    (clearingLook s).rebases = s.rebases ∧ (clearingLook s).screw = s.screw ∧ (clearingLook s).pending = s.pending := by
  unfold clearingLook
  repeat' split
  all_goals simp

@[simp] theorem enterClearing_frame (r : Ring) (slot : Slot) (s : State) :
    (enterClearing r slot s).link = s.link ∧ (enterClearing r slot s).latched = s.latched ∧
    (enterClearing r slot s).enabled = s.enabled ∧ (enterClearing r slot s).capture = s.capture ∧
    (enterClearing r slot s).clock = s.clock ∧ (enterClearing r slot s).channels = s.channels ∧
    (enterClearing r slot s).sending = s.sending ∧ (enterClearing r slot s).inputs = s.inputs ∧
    (enterClearing r slot s).groupFlags = s.groupFlags ∧ (enterClearing r slot s).cycle = s.cycle ∧
    (enterClearing r slot s).tripCause = s.tripCause ∧ (enterClearing r slot s).furtherCauses = s.furtherCauses ∧
    (enterClearing r slot s).configured = s.configured ∧ (enterClearing r slot s).params = s.params ∧
    (enterClearing r slot s).tools = s.tools ∧ (enterClearing r slot s).loadPointer = s.loadPointer ∧
    (enterClearing r slot s).checkCaptured = s.checkCaptured ∧
    (enterClearing r slot s).checkFailures = s.checkFailures ∧ (enterClearing r slot s).blocking = s.blocking ∧
    (enterClearing r slot s).positions = s.positions ∧ (enterClearing r slot s).gaugeWorn = s.gaugeWorn ∧
    (enterClearing r slot s).angle = s.angle ∧ (enterClearing r slot s).quadrants = s.quadrants ∧
    (enterClearing r slot s).mass = s.mass ∧ (enterClearing r slot s).stroke = s.stroke ∧
    (enterClearing r slot s).rings = s.rings ∧ (enterClearing r slot s).feed = s.feed ∧
    (enterClearing r slot s).starvation = s.starvation ∧ (enterClearing r slot s).ports = s.ports ∧
    (enterClearing r slot s).rotation = s.rotation ∧ (enterClearing r slot s).pointer = s.pointer ∧
    (enterClearing r slot s).pulse = s.pulse ∧ (enterClearing r slot s).totalPulses = s.totalPulses ∧
    (enterClearing r slot s).unattributed = s.unattributed ∧ (enterClearing r slot s).surplus = s.surplus ∧
    (enterClearing r slot s).rebases = s.rebases ∧ (enterClearing r slot s).screw = s.screw ∧
    (enterClearing r slot s).pending = s.pending := by
  simp [enterClearing]

@[simp] theorem enterSeating_frame (r : Ring) (slot : Slot) (s : State) :
    (enterSeating r slot s).link = s.link ∧ (enterSeating r slot s).latched = s.latched ∧
    (enterSeating r slot s).enabled = s.enabled ∧ (enterSeating r slot s).capture = s.capture ∧
    (enterSeating r slot s).clock = s.clock ∧ (enterSeating r slot s).channels = s.channels ∧
    (enterSeating r slot s).sending = s.sending ∧ (enterSeating r slot s).inputs = s.inputs ∧
    (enterSeating r slot s).groupFlags = s.groupFlags ∧ (enterSeating r slot s).cycle = s.cycle ∧
    (enterSeating r slot s).tripCause = s.tripCause ∧ (enterSeating r slot s).furtherCauses = s.furtherCauses ∧
    (enterSeating r slot s).configured = s.configured ∧ (enterSeating r slot s).params = s.params ∧
    (enterSeating r slot s).tools = s.tools ∧ (enterSeating r slot s).loadPointer = s.loadPointer ∧
    (enterSeating r slot s).checkCaptured = s.checkCaptured ∧
    (enterSeating r slot s).checkFailures = s.checkFailures ∧ (enterSeating r slot s).blocking = s.blocking ∧
    (enterSeating r slot s).positions = s.positions ∧ (enterSeating r slot s).gaugeWorn = s.gaugeWorn ∧
    (enterSeating r slot s).angle = s.angle ∧ (enterSeating r slot s).quadrants = s.quadrants ∧
    (enterSeating r slot s).mass = s.mass ∧ (enterSeating r slot s).stroke = s.stroke ∧
    (enterSeating r slot s).rings = s.rings ∧ (enterSeating r slot s).feed = s.feed ∧
    (enterSeating r slot s).starvation = s.starvation ∧ (enterSeating r slot s).ports = s.ports ∧
    (enterSeating r slot s).rotation = s.rotation ∧ (enterSeating r slot s).pointer = s.pointer ∧
    (enterSeating r slot s).pulse = s.pulse ∧ (enterSeating r slot s).totalPulses = s.totalPulses ∧
    (enterSeating r slot s).unattributed = s.unattributed ∧ (enterSeating r slot s).surplus = s.surplus ∧
    (enterSeating r slot s).rebases = s.rebases ∧ (enterSeating r slot s).screw = s.screw ∧
    (enterSeating r slot s).pending = s.pending := by
  simp [enterSeating]

@[simp] theorem loadSlot_frame (slot : Slot) (id : Nat) (s : State) :
    (loadSlot slot id s).link = s.link ∧ (loadSlot slot id s).latched = s.latched ∧
    (loadSlot slot id s).enabled = s.enabled ∧ (loadSlot slot id s).capture = s.capture ∧
    (loadSlot slot id s).clock = s.clock ∧ (loadSlot slot id s).channels = s.channels ∧
    (loadSlot slot id s).outputs = s.outputs ∧ (loadSlot slot id s).sending = s.sending ∧
    (loadSlot slot id s).inputs = s.inputs ∧ (loadSlot slot id s).groupFlags = s.groupFlags ∧
    (loadSlot slot id s).cycle = s.cycle ∧ (loadSlot slot id s).tripCause = s.tripCause ∧
    (loadSlot slot id s).furtherCauses = s.furtherCauses ∧ (loadSlot slot id s).configured = s.configured ∧
    (loadSlot slot id s).params = s.params ∧ (loadSlot slot id s).tools = s.tools ∧
    (loadSlot slot id s).loadPointer = s.loadPointer ∧ (loadSlot slot id s).checkCaptured = s.checkCaptured ∧
    (loadSlot slot id s).checkFailures = s.checkFailures ∧ (loadSlot slot id s).blocking = s.blocking ∧
    (loadSlot slot id s).positions = s.positions ∧ (loadSlot slot id s).gaugeWorn = s.gaugeWorn ∧
    (loadSlot slot id s).angle = s.angle ∧ (loadSlot slot id s).cylinders = s.cylinders ∧
    (loadSlot slot id s).quadrants = s.quadrants ∧ (loadSlot slot id s).mass = s.mass ∧
    (loadSlot slot id s).stroke = s.stroke ∧ (loadSlot slot id s).feed = s.feed ∧
    (loadSlot slot id s).starvation = s.starvation ∧ (loadSlot slot id s).place = s.place ∧
    (loadSlot slot id s).ports = s.ports ∧ (loadSlot slot id s).rotation = s.rotation ∧
    (loadSlot slot id s).pointer = s.pointer ∧ (loadSlot slot id s).pulse = s.pulse ∧
    (loadSlot slot id s).totalPulses = s.totalPulses ∧ (loadSlot slot id s).unattributed = s.unattributed ∧
    (loadSlot slot id s).surplus = s.surplus ∧ (loadSlot slot id s).rebases = s.rebases ∧
    (loadSlot slot id s).screw = s.screw ∧ (loadSlot slot id s).pending = s.pending := by
  simp [loadSlot]

@[simp] theorem placeSlot_frame (slot : Slot) (s : State) :
    (placeSlot slot s).link = s.link ∧ (placeSlot slot s).latched = s.latched ∧
    (placeSlot slot s).enabled = s.enabled ∧ (placeSlot slot s).capture = s.capture ∧
    (placeSlot slot s).clock = s.clock ∧ (placeSlot slot s).channels = s.channels ∧
    (placeSlot slot s).outputs = s.outputs ∧ (placeSlot slot s).sending = s.sending ∧
    (placeSlot slot s).inputs = s.inputs ∧ (placeSlot slot s).groupFlags = s.groupFlags ∧
    (placeSlot slot s).cycle = s.cycle ∧ (placeSlot slot s).tripCause = s.tripCause ∧
    (placeSlot slot s).furtherCauses = s.furtherCauses ∧ (placeSlot slot s).configured = s.configured ∧
    (placeSlot slot s).params = s.params ∧ (placeSlot slot s).tools = s.tools ∧
    (placeSlot slot s).loadPointer = s.loadPointer ∧ (placeSlot slot s).checkCaptured = s.checkCaptured ∧
    (placeSlot slot s).checkFailures = s.checkFailures ∧ (placeSlot slot s).blocking = s.blocking ∧
    (placeSlot slot s).positions = s.positions ∧ (placeSlot slot s).gaugeWorn = s.gaugeWorn ∧
    (placeSlot slot s).angle = s.angle ∧ (placeSlot slot s).cylinders = s.cylinders ∧
    (placeSlot slot s).quadrants = s.quadrants ∧ (placeSlot slot s).mass = s.mass ∧
    (placeSlot slot s).stroke = s.stroke ∧ (placeSlot slot s).feed = s.feed ∧
    (placeSlot slot s).starvation = s.starvation ∧ (placeSlot slot s).place = s.place ∧
    (placeSlot slot s).ports = s.ports ∧ (placeSlot slot s).rotation = s.rotation ∧
    (placeSlot slot s).pointer = s.pointer ∧ (placeSlot slot s).pulse = s.pulse ∧
    (placeSlot slot s).totalPulses = s.totalPulses ∧ (placeSlot slot s).unattributed = s.unattributed ∧
    (placeSlot slot s).surplus = s.surplus ∧ (placeSlot slot s).rebases = s.rebases ∧
    (placeSlot slot s).screw = s.screw ∧ (placeSlot slot s).pending = s.pending := by
  simp [placeSlot]

@[simp] theorem returnSlot_frame (slot : Slot) (s : State) :
    (returnSlot slot s).link = s.link ∧ (returnSlot slot s).latched = s.latched ∧
    (returnSlot slot s).enabled = s.enabled ∧ (returnSlot slot s).capture = s.capture ∧
    (returnSlot slot s).clock = s.clock ∧ (returnSlot slot s).channels = s.channels ∧
    (returnSlot slot s).outputs = s.outputs ∧ (returnSlot slot s).sending = s.sending ∧
    (returnSlot slot s).inputs = s.inputs ∧ (returnSlot slot s).groupFlags = s.groupFlags ∧
    (returnSlot slot s).cycle = s.cycle ∧ (returnSlot slot s).tripCause = s.tripCause ∧
    (returnSlot slot s).furtherCauses = s.furtherCauses ∧ (returnSlot slot s).configured = s.configured ∧
    (returnSlot slot s).params = s.params ∧ (returnSlot slot s).tools = s.tools ∧
    (returnSlot slot s).loadPointer = s.loadPointer ∧ (returnSlot slot s).checkCaptured = s.checkCaptured ∧
    (returnSlot slot s).checkFailures = s.checkFailures ∧ (returnSlot slot s).blocking = s.blocking ∧
    (returnSlot slot s).positions = s.positions ∧ (returnSlot slot s).gaugeWorn = s.gaugeWorn ∧
    (returnSlot slot s).angle = s.angle ∧ (returnSlot slot s).cylinders = s.cylinders ∧
    (returnSlot slot s).quadrants = s.quadrants ∧ (returnSlot slot s).mass = s.mass ∧
    (returnSlot slot s).stroke = s.stroke ∧ (returnSlot slot s).feed = s.feed ∧
    (returnSlot slot s).starvation = s.starvation ∧ (returnSlot slot s).place = s.place ∧
    (returnSlot slot s).ports = s.ports ∧ (returnSlot slot s).rotation = s.rotation ∧
    (returnSlot slot s).pointer = s.pointer ∧ (returnSlot slot s).pulse = s.pulse ∧
    (returnSlot slot s).totalPulses = s.totalPulses ∧ (returnSlot slot s).unattributed = s.unattributed ∧
    (returnSlot slot s).surplus = s.surplus ∧ (returnSlot slot s).rebases = s.rebases ∧
    (returnSlot slot s).screw = s.screw ∧ (returnSlot slot s).pending = s.pending := by
  simp [returnSlot]

@[simp] theorem segGripped_frame (s : State) :
    (segGripped s).link = s.link ∧ (segGripped s).enabled = s.enabled ∧ (segGripped s).capture = s.capture ∧
    (segGripped s).clock = s.clock ∧ (segGripped s).channels = s.channels ∧ (segGripped s).sending = s.sending ∧
    (segGripped s).inputs = s.inputs ∧ (segGripped s).groupFlags = s.groupFlags ∧ (segGripped s).cycle = s.cycle ∧
    (segGripped s).tripCause = s.tripCause ∧ (segGripped s).furtherCauses = s.furtherCauses ∧
    (segGripped s).configured = s.configured ∧ (segGripped s).params = s.params ∧ (segGripped s).tools = s.tools ∧
    (segGripped s).loadPointer = s.loadPointer ∧ (segGripped s).checkCaptured = s.checkCaptured ∧
    (segGripped s).checkFailures = s.checkFailures ∧ (segGripped s).blocking = s.blocking ∧
    (segGripped s).positions = s.positions ∧ (segGripped s).gaugeWorn = s.gaugeWorn ∧
    (segGripped s).angle = s.angle ∧ (segGripped s).quadrants = s.quadrants ∧ (segGripped s).mass = s.mass ∧
    (segGripped s).stroke = s.stroke ∧ (segGripped s).starvation = s.starvation ∧ (segGripped s).ports = s.ports ∧
    (segGripped s).rotation = s.rotation ∧ (segGripped s).pointer = s.pointer ∧ (segGripped s).pulse = s.pulse ∧
    (segGripped s).totalPulses = s.totalPulses ∧ (segGripped s).unattributed = s.unattributed ∧
    (segGripped s).surplus = s.surplus ∧ (segGripped s).rebases = s.rebases ∧ (segGripped s).screw = s.screw ∧
    (segGripped s).pending = s.pending := by
  unfold segGripped
  dsimp only
  repeat' split
  all_goals simp

@[simp] theorem atSlot_frame (s : State) :
    (atSlot s).link = s.link ∧ (atSlot s).latched = s.latched ∧ (atSlot s).enabled = s.enabled ∧
    (atSlot s).capture = s.capture ∧ (atSlot s).clock = s.clock ∧ (atSlot s).channels = s.channels ∧
    (atSlot s).sending = s.sending ∧ (atSlot s).inputs = s.inputs ∧ (atSlot s).groupFlags = s.groupFlags ∧
    (atSlot s).cycle = s.cycle ∧ (atSlot s).tripCause = s.tripCause ∧ (atSlot s).furtherCauses = s.furtherCauses ∧
    (atSlot s).configured = s.configured ∧ (atSlot s).params = s.params ∧ (atSlot s).tools = s.tools ∧
    (atSlot s).loadPointer = s.loadPointer ∧ (atSlot s).checkCaptured = s.checkCaptured ∧
    (atSlot s).checkFailures = s.checkFailures ∧ (atSlot s).blocking = s.blocking ∧
    (atSlot s).positions = s.positions ∧ (atSlot s).gaugeWorn = s.gaugeWorn ∧ (atSlot s).angle = s.angle ∧
    (atSlot s).quadrants = s.quadrants ∧ (atSlot s).mass = s.mass ∧ (atSlot s).stroke = s.stroke ∧
    (atSlot s).rings = s.rings ∧ (atSlot s).feed = s.feed ∧ (atSlot s).starvation = s.starvation ∧
    (atSlot s).ports = s.ports ∧ (atSlot s).rotation = s.rotation ∧ (atSlot s).pointer = s.pointer ∧
    (atSlot s).pulse = s.pulse ∧ (atSlot s).totalPulses = s.totalPulses ∧
    (atSlot s).unattributed = s.unattributed ∧ (atSlot s).surplus = s.surplus ∧ (atSlot s).rebases = s.rebases ∧
    (atSlot s).screw = s.screw ∧ (atSlot s).pending = s.pending := by
  unfold atSlot
  repeat' split
  all_goals simp

@[simp] theorem placeIdle_frame (s : State) :
    (placeIdle s).link = s.link ∧ (placeIdle s).latched = s.latched ∧ (placeIdle s).enabled = s.enabled ∧
    (placeIdle s).capture = s.capture ∧ (placeIdle s).clock = s.clock ∧ (placeIdle s).channels = s.channels ∧
    (placeIdle s).sending = s.sending ∧ (placeIdle s).inputs = s.inputs ∧ (placeIdle s).groupFlags = s.groupFlags ∧
    (placeIdle s).cycle = s.cycle ∧ (placeIdle s).tripCause = s.tripCause ∧
    (placeIdle s).furtherCauses = s.furtherCauses ∧ (placeIdle s).configured = s.configured ∧
    (placeIdle s).params = s.params ∧ (placeIdle s).tools = s.tools ∧ (placeIdle s).loadPointer = s.loadPointer ∧
    (placeIdle s).checkCaptured = s.checkCaptured ∧ (placeIdle s).checkFailures = s.checkFailures ∧
    (placeIdle s).blocking = s.blocking ∧ (placeIdle s).positions = s.positions ∧
    (placeIdle s).gaugeWorn = s.gaugeWorn ∧ (placeIdle s).angle = s.angle ∧ (placeIdle s).cylinders = s.cylinders ∧
    (placeIdle s).quadrants = s.quadrants ∧ (placeIdle s).mass = s.mass ∧ (placeIdle s).stroke = s.stroke ∧
    (placeIdle s).rings = s.rings ∧ (placeIdle s).feed = s.feed ∧ (placeIdle s).starvation = s.starvation ∧
    (placeIdle s).ports = s.ports ∧ (placeIdle s).rotation = s.rotation ∧ (placeIdle s).pointer = s.pointer ∧
    (placeIdle s).pulse = s.pulse ∧ (placeIdle s).totalPulses = s.totalPulses ∧
    (placeIdle s).unattributed = s.unattributed ∧ (placeIdle s).surplus = s.surplus ∧
    (placeIdle s).rebases = s.rebases ∧ (placeIdle s).screw = s.screw ∧ (placeIdle s).pending = s.pending := by
  simp [placeIdle]

@[simp] theorem afterSlot_frame (s : State) :
    (afterSlot s).link = s.link ∧ (afterSlot s).enabled = s.enabled ∧ (afterSlot s).capture = s.capture ∧
    (afterSlot s).clock = s.clock ∧ (afterSlot s).channels = s.channels ∧ (afterSlot s).sending = s.sending ∧
    (afterSlot s).inputs = s.inputs ∧ (afterSlot s).groupFlags = s.groupFlags ∧ (afterSlot s).cycle = s.cycle ∧
    (afterSlot s).tripCause = s.tripCause ∧ (afterSlot s).furtherCauses = s.furtherCauses ∧
    (afterSlot s).configured = s.configured ∧ (afterSlot s).params = s.params ∧ (afterSlot s).tools = s.tools ∧
    (afterSlot s).loadPointer = s.loadPointer ∧ (afterSlot s).checkCaptured = s.checkCaptured ∧
    (afterSlot s).checkFailures = s.checkFailures ∧ (afterSlot s).blocking = s.blocking ∧
    (afterSlot s).positions = s.positions ∧ (afterSlot s).gaugeWorn = s.gaugeWorn ∧ (afterSlot s).angle = s.angle ∧
    (afterSlot s).cylinders = s.cylinders ∧ (afterSlot s).quadrants = s.quadrants ∧ (afterSlot s).mass = s.mass ∧
    (afterSlot s).stroke = s.stroke ∧ (afterSlot s).rings = s.rings ∧ (afterSlot s).ports = s.ports ∧
    (afterSlot s).rotation = s.rotation ∧ (afterSlot s).pointer = s.pointer ∧ (afterSlot s).pulse = s.pulse ∧
    (afterSlot s).totalPulses = s.totalPulses ∧ (afterSlot s).unattributed = s.unattributed ∧
    (afterSlot s).surplus = s.surplus ∧ (afterSlot s).rebases = s.rebases ∧ (afterSlot s).screw = s.screw ∧
    (afterSlot s).pending = s.pending := by
  unfold afterSlot
  repeat' split
  all_goals simp

@[simp] theorem closure_frame (s : State) :
    (closure s).link = s.link ∧ (closure s).enabled = s.enabled ∧ (closure s).capture = s.capture ∧
    (closure s).clock = s.clock ∧ (closure s).channels = s.channels ∧ (closure s).sending = s.sending ∧
    (closure s).inputs = s.inputs ∧ (closure s).groupFlags = s.groupFlags ∧ (closure s).tripCause = s.tripCause ∧
    (closure s).furtherCauses = s.furtherCauses ∧ (closure s).configured = s.configured ∧
    (closure s).params = s.params ∧ (closure s).tools = s.tools ∧ (closure s).loadPointer = s.loadPointer ∧
    (closure s).checkCaptured = s.checkCaptured ∧ (closure s).checkFailures = s.checkFailures ∧
    (closure s).blocking = s.blocking ∧ (closure s).positions = s.positions ∧ (closure s).gaugeWorn = s.gaugeWorn ∧
    (closure s).angle = s.angle ∧ (closure s).quadrants = s.quadrants ∧ (closure s).mass = s.mass ∧
    (closure s).stroke = s.stroke ∧ (closure s).feed = s.feed ∧ (closure s).starvation = s.starvation ∧
    (closure s).rotation = s.rotation ∧ (closure s).pulse = s.pulse ∧ (closure s).totalPulses = s.totalPulses ∧
    (closure s).unattributed = s.unattributed ∧ (closure s).surplus = s.surplus ∧ (closure s).rebases = s.rebases ∧
    (closure s).screw = s.screw ∧ (closure s).pending = s.pending := by
  simp [closure]

@[simp] theorem segBolted_frame (s : State) :
    (segBolted s).link = s.link ∧ (segBolted s).enabled = s.enabled ∧ (segBolted s).capture = s.capture ∧
    (segBolted s).clock = s.clock ∧ (segBolted s).channels = s.channels ∧ (segBolted s).sending = s.sending ∧
    (segBolted s).inputs = s.inputs ∧ (segBolted s).groupFlags = s.groupFlags ∧
    (segBolted s).tripCause = s.tripCause ∧ (segBolted s).furtherCauses = s.furtherCauses ∧
    (segBolted s).configured = s.configured ∧ (segBolted s).params = s.params ∧ (segBolted s).tools = s.tools ∧
    (segBolted s).loadPointer = s.loadPointer ∧ (segBolted s).checkCaptured = s.checkCaptured ∧
    (segBolted s).checkFailures = s.checkFailures ∧ (segBolted s).blocking = s.blocking ∧
    (segBolted s).positions = s.positions ∧ (segBolted s).gaugeWorn = s.gaugeWorn ∧ (segBolted s).angle = s.angle ∧
    (segBolted s).quadrants = s.quadrants ∧ (segBolted s).mass = s.mass ∧ (segBolted s).stroke = s.stroke ∧
    (segBolted s).rotation = s.rotation ∧ (segBolted s).pulse = s.pulse ∧
    (segBolted s).totalPulses = s.totalPulses ∧ (segBolted s).unattributed = s.unattributed ∧
    (segBolted s).surplus = s.surplus ∧ (segBolted s).rebases = s.rebases ∧ (segBolted s).screw = s.screw ∧
    (segBolted s).pending = s.pending := by
  unfold segBolted
  dsimp only
  repeat' split
  all_goals simp

@[simp] theorem stepExpired_frame (s : State) :
    (stepExpired s).link = s.link ∧ (stepExpired s).enabled = s.enabled ∧ (stepExpired s).capture = s.capture ∧
    (stepExpired s).clock = s.clock ∧ (stepExpired s).channels = s.channels ∧ (stepExpired s).outputs = s.outputs ∧
    (stepExpired s).sending = s.sending ∧ (stepExpired s).inputs = s.inputs ∧
    (stepExpired s).groupFlags = s.groupFlags ∧ (stepExpired s).cycle = s.cycle ∧
    (stepExpired s).tripCause = s.tripCause ∧ (stepExpired s).furtherCauses = s.furtherCauses ∧
    (stepExpired s).configured = s.configured ∧ (stepExpired s).params = s.params ∧
    (stepExpired s).tools = s.tools ∧ (stepExpired s).loadPointer = s.loadPointer ∧
    (stepExpired s).checkCaptured = s.checkCaptured ∧ (stepExpired s).checkFailures = s.checkFailures ∧
    (stepExpired s).blocking = s.blocking ∧ (stepExpired s).positions = s.positions ∧
    (stepExpired s).gaugeWorn = s.gaugeWorn ∧ (stepExpired s).angle = s.angle ∧
    (stepExpired s).cylinders = s.cylinders ∧ (stepExpired s).quadrants = s.quadrants ∧
    (stepExpired s).mass = s.mass ∧ (stepExpired s).stroke = s.stroke ∧ (stepExpired s).rings = s.rings ∧
    (stepExpired s).feed = s.feed ∧ (stepExpired s).starvation = s.starvation ∧ (stepExpired s).ports = s.ports ∧
    (stepExpired s).rotation = s.rotation ∧ (stepExpired s).pointer = s.pointer ∧ (stepExpired s).pulse = s.pulse ∧
    (stepExpired s).totalPulses = s.totalPulses ∧ (stepExpired s).unattributed = s.unattributed ∧
    (stepExpired s).surplus = s.surplus ∧ (stepExpired s).rebases = s.rebases ∧ (stepExpired s).screw = s.screw ∧
    (stepExpired s).pending = s.pending := by
  simp [stepExpired]

/-! ### Thrust -/

@[simp] theorem cylindersRetaken_frame (before : State) (s : State) :
    (cylindersRetaken before s).link = s.link ∧ (cylindersRetaken before s).latched = s.latched ∧
    (cylindersRetaken before s).enabled = s.enabled ∧ (cylindersRetaken before s).capture = s.capture ∧
    (cylindersRetaken before s).clock = s.clock ∧ (cylindersRetaken before s).channels = s.channels ∧
    (cylindersRetaken before s).sending = s.sending ∧ (cylindersRetaken before s).inputs = s.inputs ∧
    (cylindersRetaken before s).groupFlags = s.groupFlags ∧ (cylindersRetaken before s).cycle = s.cycle ∧
    (cylindersRetaken before s).tripCause = s.tripCause ∧
    (cylindersRetaken before s).furtherCauses = s.furtherCauses ∧
    (cylindersRetaken before s).configured = s.configured ∧ (cylindersRetaken before s).params = s.params ∧
    (cylindersRetaken before s).tools = s.tools ∧ (cylindersRetaken before s).loadPointer = s.loadPointer ∧
    (cylindersRetaken before s).checkCaptured = s.checkCaptured ∧
    (cylindersRetaken before s).checkFailures = s.checkFailures ∧
    (cylindersRetaken before s).blocking = s.blocking ∧ (cylindersRetaken before s).positions = s.positions ∧
    (cylindersRetaken before s).gaugeWorn = s.gaugeWorn ∧ (cylindersRetaken before s).angle = s.angle ∧
    (cylindersRetaken before s).quadrants = s.quadrants ∧ (cylindersRetaken before s).mass = s.mass ∧
    (cylindersRetaken before s).stroke = s.stroke ∧ (cylindersRetaken before s).rings = s.rings ∧
    (cylindersRetaken before s).feed = s.feed ∧ (cylindersRetaken before s).starvation = s.starvation ∧
    (cylindersRetaken before s).ports = s.ports ∧ (cylindersRetaken before s).rotation = s.rotation ∧
    (cylindersRetaken before s).pointer = s.pointer ∧ (cylindersRetaken before s).pulse = s.pulse ∧
    (cylindersRetaken before s).totalPulses = s.totalPulses ∧
    (cylindersRetaken before s).unattributed = s.unattributed ∧ (cylindersRetaken before s).surplus = s.surplus ∧
    (cylindersRetaken before s).rebases = s.rebases ∧ (cylindersRetaken before s).screw = s.screw ∧
    (cylindersRetaken before s).pending = s.pending := by
  unfold cylindersRetaken
  dsimp only
  split <;> simp

@[simp] theorem accountIncrement_frame (delta mean : Nat) (s : State) :
    (accountIncrement delta mean s).link = s.link ∧ (accountIncrement delta mean s).enabled = s.enabled ∧
    (accountIncrement delta mean s).capture = s.capture ∧ (accountIncrement delta mean s).clock = s.clock ∧
    (accountIncrement delta mean s).channels = s.channels ∧ (accountIncrement delta mean s).sending = s.sending ∧
    (accountIncrement delta mean s).inputs = s.inputs ∧ (accountIncrement delta mean s).groupFlags = s.groupFlags ∧
    (accountIncrement delta mean s).cycle = s.cycle ∧ (accountIncrement delta mean s).tripCause = s.tripCause ∧
    (accountIncrement delta mean s).furtherCauses = s.furtherCauses ∧
    (accountIncrement delta mean s).configured = s.configured ∧ (accountIncrement delta mean s).params = s.params ∧
    (accountIncrement delta mean s).tools = s.tools ∧ (accountIncrement delta mean s).loadPointer = s.loadPointer ∧
    (accountIncrement delta mean s).checkCaptured = s.checkCaptured ∧
    (accountIncrement delta mean s).checkFailures = s.checkFailures ∧
    (accountIncrement delta mean s).blocking = s.blocking ∧
    (accountIncrement delta mean s).positions = s.positions ∧
    (accountIncrement delta mean s).gaugeWorn = s.gaugeWorn ∧ (accountIncrement delta mean s).angle = s.angle ∧
    (accountIncrement delta mean s).cylinders = s.cylinders ∧
    (accountIncrement delta mean s).quadrants = s.quadrants ∧ (accountIncrement delta mean s).mass = s.mass ∧
    (accountIncrement delta mean s).feed = s.feed ∧ (accountIncrement delta mean s).starvation = s.starvation ∧
    (accountIncrement delta mean s).place = s.place ∧ (accountIncrement delta mean s).rotation = s.rotation ∧
    (accountIncrement delta mean s).pulse = s.pulse ∧ (accountIncrement delta mean s).totalPulses = s.totalPulses ∧
    (accountIncrement delta mean s).unattributed = s.unattributed ∧
    (accountIncrement delta mean s).surplus = s.surplus ∧ (accountIncrement delta mean s).rebases = s.rebases ∧
    (accountIncrement delta mean s).screw = s.screw ∧ (accountIncrement delta mean s).pending = s.pending := by
  simp [accountIncrement]

@[simp] theorem rejectJump_frame (mean : Nat) (s : State) :
    (rejectJump mean s).link = s.link ∧ (rejectJump mean s).enabled = s.enabled ∧
    (rejectJump mean s).capture = s.capture ∧ (rejectJump mean s).clock = s.clock ∧
    (rejectJump mean s).channels = s.channels ∧ (rejectJump mean s).outputs = s.outputs ∧
    (rejectJump mean s).sending = s.sending ∧ (rejectJump mean s).inputs = s.inputs ∧
    (rejectJump mean s).groupFlags = s.groupFlags ∧ (rejectJump mean s).cycle = s.cycle ∧
    (rejectJump mean s).tripCause = s.tripCause ∧ (rejectJump mean s).furtherCauses = s.furtherCauses ∧
    (rejectJump mean s).configured = s.configured ∧ (rejectJump mean s).params = s.params ∧
    (rejectJump mean s).tools = s.tools ∧ (rejectJump mean s).loadPointer = s.loadPointer ∧
    (rejectJump mean s).checkCaptured = s.checkCaptured ∧ (rejectJump mean s).checkFailures = s.checkFailures ∧
    (rejectJump mean s).blocking = s.blocking ∧ (rejectJump mean s).positions = s.positions ∧
    (rejectJump mean s).gaugeWorn = s.gaugeWorn ∧ (rejectJump mean s).angle = s.angle ∧
    (rejectJump mean s).cylinders = s.cylinders ∧ (rejectJump mean s).quadrants = s.quadrants ∧
    (rejectJump mean s).mass = s.mass ∧ (rejectJump mean s).rings = s.rings ∧ (rejectJump mean s).feed = s.feed ∧
    (rejectJump mean s).starvation = s.starvation ∧ (rejectJump mean s).place = s.place ∧
    (rejectJump mean s).ports = s.ports ∧ (rejectJump mean s).rotation = s.rotation ∧
    (rejectJump mean s).pointer = s.pointer ∧ (rejectJump mean s).pulse = s.pulse ∧
    (rejectJump mean s).totalPulses = s.totalPulses ∧ (rejectJump mean s).unattributed = s.unattributed ∧
    (rejectJump mean s).surplus = s.surplus ∧ (rejectJump mean s).rebases = s.rebases ∧
    (rejectJump mean s).screw = s.screw ∧ (rejectJump mean s).pending = s.pending := by
  simp [rejectJump]

@[simp] theorem measure_frame (mean : Nat) (s : State) :
    (measure mean s).link = s.link ∧ (measure mean s).enabled = s.enabled ∧ (measure mean s).capture = s.capture ∧
    (measure mean s).clock = s.clock ∧ (measure mean s).channels = s.channels ∧
    (measure mean s).sending = s.sending ∧ (measure mean s).inputs = s.inputs ∧
    (measure mean s).groupFlags = s.groupFlags ∧ (measure mean s).cycle = s.cycle ∧
    (measure mean s).tripCause = s.tripCause ∧ (measure mean s).furtherCauses = s.furtherCauses ∧
    (measure mean s).configured = s.configured ∧ (measure mean s).params = s.params ∧
    (measure mean s).tools = s.tools ∧ (measure mean s).loadPointer = s.loadPointer ∧
    (measure mean s).checkCaptured = s.checkCaptured ∧ (measure mean s).checkFailures = s.checkFailures ∧
    (measure mean s).blocking = s.blocking ∧ (measure mean s).positions = s.positions ∧
    (measure mean s).gaugeWorn = s.gaugeWorn ∧ (measure mean s).angle = s.angle ∧
    (measure mean s).cylinders = s.cylinders ∧ (measure mean s).quadrants = s.quadrants ∧
    (measure mean s).mass = s.mass ∧ (measure mean s).feed = s.feed ∧ (measure mean s).starvation = s.starvation ∧
    (measure mean s).place = s.place ∧ (measure mean s).rotation = s.rotation ∧ (measure mean s).pulse = s.pulse ∧
    (measure mean s).totalPulses = s.totalPulses ∧ (measure mean s).unattributed = s.unattributed ∧
    (measure mean s).surplus = s.surplus ∧ (measure mean s).rebases = s.rebases ∧
    (measure mean s).screw = s.screw ∧ (measure mean s).pending = s.pending := by
  unfold measure
  repeat' split
  all_goals simp

@[simp] theorem extensionSample_frame (i : Fin 16) (value : Nat) (before : State) (s : State) :
    (extensionSample i value before s).link = s.link ∧ (extensionSample i value before s).enabled = s.enabled ∧
    (extensionSample i value before s).capture = s.capture ∧ (extensionSample i value before s).clock = s.clock ∧
    (extensionSample i value before s).channels = s.channels ∧
    (extensionSample i value before s).sending = s.sending ∧ (extensionSample i value before s).inputs = s.inputs ∧
    (extensionSample i value before s).groupFlags = s.groupFlags ∧
    (extensionSample i value before s).tripCause = s.tripCause ∧
    (extensionSample i value before s).furtherCauses = s.furtherCauses ∧
    (extensionSample i value before s).configured = s.configured ∧
    (extensionSample i value before s).params = s.params ∧ (extensionSample i value before s).tools = s.tools ∧
    (extensionSample i value before s).loadPointer = s.loadPointer ∧
    (extensionSample i value before s).checkCaptured = s.checkCaptured ∧
    (extensionSample i value before s).checkFailures = s.checkFailures ∧
    (extensionSample i value before s).blocking = s.blocking ∧
    (extensionSample i value before s).positions = s.positions ∧
    (extensionSample i value before s).gaugeWorn = s.gaugeWorn ∧
    (extensionSample i value before s).angle = s.angle ∧
    (extensionSample i value before s).quadrants = s.quadrants ∧ (extensionSample i value before s).mass = s.mass ∧
    (extensionSample i value before s).feed = s.feed ∧
    (extensionSample i value before s).starvation = s.starvation ∧
    (extensionSample i value before s).rotation = s.rotation ∧ (extensionSample i value before s).pulse = s.pulse ∧
    (extensionSample i value before s).totalPulses = s.totalPulses ∧
    (extensionSample i value before s).unattributed = s.unattributed ∧
    (extensionSample i value before s).surplus = s.surplus ∧
    (extensionSample i value before s).rebases = s.rebases ∧ (extensionSample i value before s).screw = s.screw ∧
    (extensionSample i value before s).pending = s.pending := by
  unfold extensionSample
  dsimp only
  repeat' split
  all_goals simp

@[simp] theorem groupPressureSample_frame (value : Nat) (s : State) :
    (groupPressureSample value s).link = s.link ∧ (groupPressureSample value s).enabled = s.enabled ∧
    (groupPressureSample value s).capture = s.capture ∧ (groupPressureSample value s).clock = s.clock ∧
    (groupPressureSample value s).channels = s.channels ∧ (groupPressureSample value s).sending = s.sending ∧
    (groupPressureSample value s).inputs = s.inputs ∧ (groupPressureSample value s).groupFlags = s.groupFlags ∧
    (groupPressureSample value s).configured = s.configured ∧ (groupPressureSample value s).params = s.params ∧
    (groupPressureSample value s).tools = s.tools ∧ (groupPressureSample value s).loadPointer = s.loadPointer ∧
    (groupPressureSample value s).checkCaptured = s.checkCaptured ∧
    (groupPressureSample value s).checkFailures = s.checkFailures ∧
    (groupPressureSample value s).blocking = s.blocking ∧ (groupPressureSample value s).positions = s.positions ∧
    (groupPressureSample value s).gaugeWorn = s.gaugeWorn ∧ (groupPressureSample value s).angle = s.angle ∧
    (groupPressureSample value s).quadrants = s.quadrants ∧ (groupPressureSample value s).mass = s.mass ∧
    (groupPressureSample value s).stroke = s.stroke ∧ (groupPressureSample value s).rings = s.rings ∧
    (groupPressureSample value s).starvation = s.starvation ∧ (groupPressureSample value s).rotation = s.rotation ∧
    (groupPressureSample value s).pulse = s.pulse ∧ (groupPressureSample value s).totalPulses = s.totalPulses ∧
    (groupPressureSample value s).unattributed = s.unattributed ∧
    (groupPressureSample value s).surplus = s.surplus ∧ (groupPressureSample value s).rebases = s.rebases ∧
    (groupPressureSample value s).screw = s.screw ∧ (groupPressureSample value s).pending = s.pending := by
  unfold groupPressureSample
  repeat' split
  all_goals simp

@[simp] theorem massSample_frame (c : Nat) (s : State) :
    (massSample c s).link = s.link ∧ (massSample c s).enabled = s.enabled ∧ (massSample c s).capture = s.capture ∧
    (massSample c s).clock = s.clock ∧ (massSample c s).channels = s.channels ∧
    (massSample c s).sending = s.sending ∧ (massSample c s).inputs = s.inputs ∧
    (massSample c s).groupFlags = s.groupFlags ∧ (massSample c s).cycle = s.cycle ∧
    (massSample c s).tripCause = s.tripCause ∧ (massSample c s).furtherCauses = s.furtherCauses ∧
    (massSample c s).configured = s.configured ∧ (massSample c s).params = s.params ∧
    (massSample c s).tools = s.tools ∧ (massSample c s).loadPointer = s.loadPointer ∧
    (massSample c s).checkCaptured = s.checkCaptured ∧ (massSample c s).checkFailures = s.checkFailures ∧
    (massSample c s).blocking = s.blocking ∧ (massSample c s).positions = s.positions ∧
    (massSample c s).gaugeWorn = s.gaugeWorn ∧ (massSample c s).angle = s.angle ∧
    (massSample c s).cylinders = s.cylinders ∧ (massSample c s).quadrants = s.quadrants ∧
    (massSample c s).rings = s.rings ∧ (massSample c s).feed = s.feed ∧
    (massSample c s).starvation = s.starvation ∧ (massSample c s).place = s.place ∧
    (massSample c s).ports = s.ports ∧ (massSample c s).rotation = s.rotation ∧
    (massSample c s).pointer = s.pointer ∧ (massSample c s).pulse = s.pulse ∧
    (massSample c s).totalPulses = s.totalPulses ∧ (massSample c s).unattributed = s.unattributed ∧
    (massSample c s).surplus = s.surplus ∧ (massSample c s).rebases = s.rebases ∧
    (massSample c s).screw = s.screw ∧ (massSample c s).pending = s.pending := by
  unfold massSample
  dsimp only
  repeat' split
  all_goals simp

@[simp] theorem retractExpired_frame (i : Fin 16) (s : State) :
    (retractExpired i s).link = s.link ∧ (retractExpired i s).enabled = s.enabled ∧
    (retractExpired i s).capture = s.capture ∧ (retractExpired i s).clock = s.clock ∧
    (retractExpired i s).channels = s.channels ∧ (retractExpired i s).outputs = s.outputs ∧
    (retractExpired i s).sending = s.sending ∧ (retractExpired i s).inputs = s.inputs ∧
    (retractExpired i s).groupFlags = s.groupFlags ∧ (retractExpired i s).cycle = s.cycle ∧
    (retractExpired i s).tripCause = s.tripCause ∧ (retractExpired i s).furtherCauses = s.furtherCauses ∧
    (retractExpired i s).configured = s.configured ∧ (retractExpired i s).params = s.params ∧
    (retractExpired i s).tools = s.tools ∧ (retractExpired i s).loadPointer = s.loadPointer ∧
    (retractExpired i s).checkCaptured = s.checkCaptured ∧ (retractExpired i s).checkFailures = s.checkFailures ∧
    (retractExpired i s).blocking = s.blocking ∧ (retractExpired i s).positions = s.positions ∧
    (retractExpired i s).gaugeWorn = s.gaugeWorn ∧ (retractExpired i s).angle = s.angle ∧
    (retractExpired i s).quadrants = s.quadrants ∧ (retractExpired i s).mass = s.mass ∧
    (retractExpired i s).stroke = s.stroke ∧ (retractExpired i s).rings = s.rings ∧
    (retractExpired i s).feed = s.feed ∧ (retractExpired i s).starvation = s.starvation ∧
    (retractExpired i s).place = s.place ∧ (retractExpired i s).ports = s.ports ∧
    (retractExpired i s).rotation = s.rotation ∧ (retractExpired i s).pointer = s.pointer ∧
    (retractExpired i s).pulse = s.pulse ∧ (retractExpired i s).totalPulses = s.totalPulses ∧
    (retractExpired i s).unattributed = s.unattributed ∧ (retractExpired i s).surplus = s.surplus ∧
    (retractExpired i s).rebases = s.rebases ∧ (retractExpired i s).screw = s.screw ∧
    (retractExpired i s).pending = s.pending := by
  simp [retractExpired]

/-! ### Duty -/

@[simp] theorem accrueRecord_frame (n : Nat) (i : Fin 64) (s : State) :
    (accrueRecord n s i).link = s.link ∧ (accrueRecord n s i).enabled = s.enabled ∧
    (accrueRecord n s i).capture = s.capture ∧ (accrueRecord n s i).clock = s.clock ∧
    (accrueRecord n s i).channels = s.channels ∧ (accrueRecord n s i).sending = s.sending ∧
    (accrueRecord n s i).inputs = s.inputs ∧ (accrueRecord n s i).groupFlags = s.groupFlags ∧
    (accrueRecord n s i).params = s.params ∧ (accrueRecord n s i).loadPointer = s.loadPointer ∧
    (accrueRecord n s i).angle = s.angle ∧ (accrueRecord n s i).quadrants = s.quadrants ∧
    (accrueRecord n s i).mass = s.mass ∧ (accrueRecord n s i).stroke = s.stroke ∧
    (accrueRecord n s i).rings = s.rings ∧ (accrueRecord n s i).starvation = s.starvation ∧
    (accrueRecord n s i).rotation = s.rotation ∧ (accrueRecord n s i).pulse = s.pulse ∧
    (accrueRecord n s i).totalPulses = s.totalPulses ∧ (accrueRecord n s i).unattributed = s.unattributed ∧
    (accrueRecord n s i).surplus = s.surplus ∧ (accrueRecord n s i).rebases = s.rebases ∧
    (accrueRecord n s i).screw = s.screw ∧ (accrueRecord n s i).pending = s.pending := by
  unfold accrueRecord
  repeat' split
  all_goals simp

/-- A property of states that every record's part keeps holds after the whole accrual. -/
theorem accrueAll_induct {P : State → Prop} (n : Nat) (step : ∀ s i, P s → P (accrueRecord n s i)) (s : State)
    (h : P s) : P (accrueAll n s) := by
  unfold accrueAll
  generalize List.finRange 64 = l
  induction l generalizing s with
  | nil => exact h
  | cons i l ih => exact ih _ (step s i h)

/-- A property of states that a read of any record keeps holds after the duplicate search. -/
theorem readOthers_induct {P : State → Prop} (i : Fin 64) (step : ∀ s j, P s → P (readTool j s)) (s : State)
    (h : P s) : P (readOthers i s) := by
  unfold readOthers
  generalize List.finRange 64 = l
  induction l generalizing s with
  | nil => exact h
  | cons j l ih =>
    rw [List.foldl_cons]
    split
    · exact ih _ h
    · exact ih _ (step s j h)

@[simp] theorem accrueAll_frame (n : Nat) (s : State) :
    (accrueAll n s).link = s.link ∧ (accrueAll n s).enabled = s.enabled ∧ (accrueAll n s).capture = s.capture ∧
    (accrueAll n s).clock = s.clock ∧ (accrueAll n s).channels = s.channels ∧ (accrueAll n s).sending = s.sending ∧
    (accrueAll n s).inputs = s.inputs ∧ (accrueAll n s).groupFlags = s.groupFlags ∧
    (accrueAll n s).params = s.params ∧ (accrueAll n s).loadPointer = s.loadPointer ∧
    (accrueAll n s).angle = s.angle ∧ (accrueAll n s).quadrants = s.quadrants ∧ (accrueAll n s).mass = s.mass ∧
    (accrueAll n s).stroke = s.stroke ∧ (accrueAll n s).rings = s.rings ∧
    (accrueAll n s).starvation = s.starvation ∧ (accrueAll n s).rotation = s.rotation ∧
    (accrueAll n s).pulse = s.pulse ∧ (accrueAll n s).totalPulses = s.totalPulses ∧
    (accrueAll n s).unattributed = s.unattributed ∧ (accrueAll n s).surplus = s.surplus ∧
    (accrueAll n s).rebases = s.rebases ∧ (accrueAll n s).screw = s.screw ∧ (accrueAll n s).pending = s.pending := by
  refine accrueAll_induct (P := fun t =>
    (t).link = s.link ∧ (t).enabled = s.enabled ∧ (t).capture = s.capture ∧ (t).clock = s.clock ∧
    (t).channels = s.channels ∧ (t).sending = s.sending ∧ (t).inputs = s.inputs ∧ (t).groupFlags = s.groupFlags ∧
    (t).params = s.params ∧ (t).loadPointer = s.loadPointer ∧ (t).angle = s.angle ∧ (t).quadrants = s.quadrants ∧
    (t).mass = s.mass ∧ (t).stroke = s.stroke ∧ (t).rings = s.rings ∧ (t).starvation = s.starvation ∧
    (t).rotation = s.rotation ∧ (t).pulse = s.pulse ∧ (t).totalPulses = s.totalPulses ∧
    (t).unattributed = s.unattributed ∧ (t).surplus = s.surplus ∧ (t).rebases = s.rebases ∧ (t).screw = s.screw ∧
    (t).pending = s.pending) n ?_ s (by simp)
  intro t i h
  simpa using h

@[simp] theorem readOthers_frame (i : Fin 64) (s : State) :
    (readOthers i s).link = s.link ∧ (readOthers i s).enabled = s.enabled ∧ (readOthers i s).capture = s.capture ∧
    (readOthers i s).clock = s.clock ∧ (readOthers i s).channels = s.channels ∧
    (readOthers i s).sending = s.sending ∧ (readOthers i s).inputs = s.inputs ∧
    (readOthers i s).groupFlags = s.groupFlags ∧ (readOthers i s).params = s.params ∧
    (readOthers i s).loadPointer = s.loadPointer ∧ (readOthers i s).angle = s.angle ∧
    (readOthers i s).quadrants = s.quadrants ∧ (readOthers i s).mass = s.mass ∧
    (readOthers i s).stroke = s.stroke ∧ (readOthers i s).rings = s.rings ∧
    (readOthers i s).starvation = s.starvation ∧ (readOthers i s).rotation = s.rotation ∧
    (readOthers i s).pulse = s.pulse ∧ (readOthers i s).totalPulses = s.totalPulses ∧
    (readOthers i s).unattributed = s.unattributed ∧ (readOthers i s).surplus = s.surplus ∧
    (readOthers i s).rebases = s.rebases ∧ (readOthers i s).screw = s.screw ∧ (readOthers i s).pending = s.pending := by
  refine readOthers_induct (P := fun t =>
    (t).link = s.link ∧ (t).enabled = s.enabled ∧ (t).capture = s.capture ∧ (t).clock = s.clock ∧
    (t).channels = s.channels ∧ (t).sending = s.sending ∧ (t).inputs = s.inputs ∧ (t).groupFlags = s.groupFlags ∧
    (t).params = s.params ∧ (t).loadPointer = s.loadPointer ∧ (t).angle = s.angle ∧ (t).quadrants = s.quadrants ∧
    (t).mass = s.mass ∧ (t).stroke = s.stroke ∧ (t).rings = s.rings ∧ (t).starvation = s.starvation ∧
    (t).rotation = s.rotation ∧ (t).pulse = s.pulse ∧ (t).totalPulses = s.totalPulses ∧
    (t).unattributed = s.unattributed ∧ (t).surplus = s.surplus ∧ (t).rebases = s.rebases ∧ (t).screw = s.screw ∧
    (t).pending = s.pending) i ?_ s (by simp)
  intro t j h
  simpa using h

@[simp] theorem judgeBreach_frame (n : Nat) (s : State) :
    (judgeBreach n s).link = s.link ∧ (judgeBreach n s).enabled = s.enabled ∧
    (judgeBreach n s).capture = s.capture ∧ (judgeBreach n s).clock = s.clock ∧
    (judgeBreach n s).channels = s.channels ∧ (judgeBreach n s).sending = s.sending ∧
    (judgeBreach n s).inputs = s.inputs ∧ (judgeBreach n s).groupFlags = s.groupFlags ∧
    (judgeBreach n s).configured = s.configured ∧ (judgeBreach n s).params = s.params ∧
    (judgeBreach n s).tools = s.tools ∧ (judgeBreach n s).loadPointer = s.loadPointer ∧
    (judgeBreach n s).checkCaptured = s.checkCaptured ∧ (judgeBreach n s).checkFailures = s.checkFailures ∧
    (judgeBreach n s).blocking = s.blocking ∧ (judgeBreach n s).positions = s.positions ∧
    (judgeBreach n s).gaugeWorn = s.gaugeWorn ∧ (judgeBreach n s).angle = s.angle ∧
    (judgeBreach n s).quadrants = s.quadrants ∧ (judgeBreach n s).mass = s.mass ∧
    (judgeBreach n s).stroke = s.stroke ∧ (judgeBreach n s).rings = s.rings ∧
    (judgeBreach n s).starvation = s.starvation ∧ (judgeBreach n s).rotation = s.rotation ∧
    (judgeBreach n s).pulse = s.pulse ∧ (judgeBreach n s).totalPulses = s.totalPulses ∧
    (judgeBreach n s).unattributed = s.unattributed ∧ (judgeBreach n s).surplus = s.surplus ∧
    (judgeBreach n s).rebases = s.rebases ∧ (judgeBreach n s).screw = s.screw ∧
    (judgeBreach n s).pending = s.pending := by
  unfold judgeBreach
  repeat' split
  all_goals simp

@[simp] theorem addHeadCounts_frame (n : Nat) (s : State) :
    (addHeadCounts n s).link = s.link ∧ (addHeadCounts n s).latched = s.latched ∧
    (addHeadCounts n s).enabled = s.enabled ∧ (addHeadCounts n s).capture = s.capture ∧
    (addHeadCounts n s).clock = s.clock ∧ (addHeadCounts n s).channels = s.channels ∧
    (addHeadCounts n s).outputs = s.outputs ∧ (addHeadCounts n s).sending = s.sending ∧
    (addHeadCounts n s).inputs = s.inputs ∧ (addHeadCounts n s).groupFlags = s.groupFlags ∧
    (addHeadCounts n s).cycle = s.cycle ∧ (addHeadCounts n s).tripCause = s.tripCause ∧
    (addHeadCounts n s).furtherCauses = s.furtherCauses ∧ (addHeadCounts n s).configured = s.configured ∧
    (addHeadCounts n s).params = s.params ∧ (addHeadCounts n s).tools = s.tools ∧
    (addHeadCounts n s).loadPointer = s.loadPointer ∧ (addHeadCounts n s).checkCaptured = s.checkCaptured ∧
    (addHeadCounts n s).checkFailures = s.checkFailures ∧ (addHeadCounts n s).blocking = s.blocking ∧
    (addHeadCounts n s).positions = s.positions ∧ (addHeadCounts n s).gaugeWorn = s.gaugeWorn ∧
    (addHeadCounts n s).angle = s.angle ∧ (addHeadCounts n s).cylinders = s.cylinders ∧
    (addHeadCounts n s).quadrants = s.quadrants ∧ (addHeadCounts n s).mass = s.mass ∧
    (addHeadCounts n s).rings = s.rings ∧ (addHeadCounts n s).feed = s.feed ∧
    (addHeadCounts n s).starvation = s.starvation ∧ (addHeadCounts n s).place = s.place ∧
    (addHeadCounts n s).ports = s.ports ∧ (addHeadCounts n s).rotation = s.rotation ∧
    (addHeadCounts n s).pointer = s.pointer ∧ (addHeadCounts n s).pulse = s.pulse ∧
    (addHeadCounts n s).totalPulses = s.totalPulses ∧ (addHeadCounts n s).unattributed = s.unattributed ∧
    (addHeadCounts n s).surplus = s.surplus ∧ (addHeadCounts n s).rebases = s.rebases ∧
    (addHeadCounts n s).screw = s.screw ∧ (addHeadCounts n s).pending = s.pending := by
  unfold addHeadCounts
  repeat' split
  all_goals simp

@[simp] theorem angleSample_frame (c : Nat) (s : State) :
    (angleSample c s).link = s.link ∧ (angleSample c s).enabled = s.enabled ∧
    (angleSample c s).capture = s.capture ∧ (angleSample c s).clock = s.clock ∧
    (angleSample c s).channels = s.channels ∧ (angleSample c s).sending = s.sending ∧
    (angleSample c s).inputs = s.inputs ∧ (angleSample c s).groupFlags = s.groupFlags ∧
    (angleSample c s).params = s.params ∧ (angleSample c s).loadPointer = s.loadPointer ∧
    (angleSample c s).quadrants = s.quadrants ∧ (angleSample c s).mass = s.mass ∧
    (angleSample c s).rings = s.rings ∧ (angleSample c s).starvation = s.starvation ∧
    (angleSample c s).rotation = s.rotation ∧ (angleSample c s).pulse = s.pulse ∧
    (angleSample c s).totalPulses = s.totalPulses ∧ (angleSample c s).unattributed = s.unattributed ∧
    (angleSample c s).surplus = s.surplus ∧ (angleSample c s).rebases = s.rebases ∧
    (angleSample c s).screw = s.screw ∧ (angleSample c s).pending = s.pending := by
  unfold angleSample
  dsimp only
  repeat' split
  all_goals simp

/-! ### Grout and screw -/

@[simp] theorem portPressureSample_frame (p : Fin 6) (value : Nat) (s : State) :
    (portPressureSample p value s).link = s.link ∧ (portPressureSample p value s).enabled = s.enabled ∧
    (portPressureSample p value s).capture = s.capture ∧ (portPressureSample p value s).clock = s.clock ∧
    (portPressureSample p value s).channels = s.channels ∧ (portPressureSample p value s).sending = s.sending ∧
    (portPressureSample p value s).inputs = s.inputs ∧ (portPressureSample p value s).groupFlags = s.groupFlags ∧
    (portPressureSample p value s).cycle = s.cycle ∧ (portPressureSample p value s).tripCause = s.tripCause ∧
    (portPressureSample p value s).furtherCauses = s.furtherCauses ∧
    (portPressureSample p value s).configured = s.configured ∧ (portPressureSample p value s).params = s.params ∧
    (portPressureSample p value s).tools = s.tools ∧ (portPressureSample p value s).loadPointer = s.loadPointer ∧
    (portPressureSample p value s).checkCaptured = s.checkCaptured ∧
    (portPressureSample p value s).checkFailures = s.checkFailures ∧
    (portPressureSample p value s).blocking = s.blocking ∧ (portPressureSample p value s).positions = s.positions ∧
    (portPressureSample p value s).gaugeWorn = s.gaugeWorn ∧ (portPressureSample p value s).angle = s.angle ∧
    (portPressureSample p value s).cylinders = s.cylinders ∧
    (portPressureSample p value s).quadrants = s.quadrants ∧ (portPressureSample p value s).mass = s.mass ∧
    (portPressureSample p value s).stroke = s.stroke ∧ (portPressureSample p value s).rings = s.rings ∧
    (portPressureSample p value s).feed = s.feed ∧ (portPressureSample p value s).starvation = s.starvation ∧
    (portPressureSample p value s).place = s.place ∧ (portPressureSample p value s).rotation = s.rotation ∧
    (portPressureSample p value s).pulse = s.pulse ∧ (portPressureSample p value s).totalPulses = s.totalPulses ∧
    (portPressureSample p value s).unattributed = s.unattributed ∧
    (portPressureSample p value s).surplus = s.surplus ∧ (portPressureSample p value s).rebases = s.rebases ∧
    (portPressureSample p value s).screw = s.screw ∧ (portPressureSample p value s).pending = s.pending := by
  unfold portPressureSample
  dsimp only
  repeat' split
  all_goals simp

@[simp] theorem creditPulses_frame (n : Nat) (s : State) :
    (creditPulses n s).link = s.link ∧ (creditPulses n s).latched = s.latched ∧
    (creditPulses n s).enabled = s.enabled ∧ (creditPulses n s).capture = s.capture ∧
    (creditPulses n s).clock = s.clock ∧ (creditPulses n s).channels = s.channels ∧
    (creditPulses n s).outputs = s.outputs ∧ (creditPulses n s).sending = s.sending ∧
    (creditPulses n s).inputs = s.inputs ∧ (creditPulses n s).groupFlags = s.groupFlags ∧
    (creditPulses n s).cycle = s.cycle ∧ (creditPulses n s).tripCause = s.tripCause ∧
    (creditPulses n s).furtherCauses = s.furtherCauses ∧ (creditPulses n s).configured = s.configured ∧
    (creditPulses n s).params = s.params ∧ (creditPulses n s).tools = s.tools ∧
    (creditPulses n s).loadPointer = s.loadPointer ∧ (creditPulses n s).checkCaptured = s.checkCaptured ∧
    (creditPulses n s).checkFailures = s.checkFailures ∧ (creditPulses n s).blocking = s.blocking ∧
    (creditPulses n s).positions = s.positions ∧ (creditPulses n s).gaugeWorn = s.gaugeWorn ∧
    (creditPulses n s).angle = s.angle ∧ (creditPulses n s).cylinders = s.cylinders ∧
    (creditPulses n s).quadrants = s.quadrants ∧ (creditPulses n s).mass = s.mass ∧
    (creditPulses n s).stroke = s.stroke ∧ (creditPulses n s).rings = s.rings ∧ (creditPulses n s).feed = s.feed ∧
    (creditPulses n s).starvation = s.starvation ∧ (creditPulses n s).place = s.place ∧
    (creditPulses n s).rotation = s.rotation ∧ (creditPulses n s).pointer = s.pointer ∧
    (creditPulses n s).pulse = s.pulse ∧ (creditPulses n s).surplus = s.surplus ∧
    (creditPulses n s).rebases = s.rebases ∧ (creditPulses n s).screw = s.screw ∧
    (creditPulses n s).pending = s.pending := by
  unfold creditPulses
  dsimp only
  repeat' split
  all_goals simp

@[simp] theorem shotVolumeEnd_frame (s : State) :
    (shotVolumeEnd s).link = s.link ∧ (shotVolumeEnd s).latched = s.latched ∧
    (shotVolumeEnd s).enabled = s.enabled ∧ (shotVolumeEnd s).capture = s.capture ∧
    (shotVolumeEnd s).clock = s.clock ∧ (shotVolumeEnd s).channels = s.channels ∧
    (shotVolumeEnd s).outputs = s.outputs ∧ (shotVolumeEnd s).sending = s.sending ∧
    (shotVolumeEnd s).inputs = s.inputs ∧ (shotVolumeEnd s).groupFlags = s.groupFlags ∧
    (shotVolumeEnd s).cycle = s.cycle ∧ (shotVolumeEnd s).tripCause = s.tripCause ∧
    (shotVolumeEnd s).furtherCauses = s.furtherCauses ∧ (shotVolumeEnd s).configured = s.configured ∧
    (shotVolumeEnd s).params = s.params ∧ (shotVolumeEnd s).tools = s.tools ∧
    (shotVolumeEnd s).loadPointer = s.loadPointer ∧ (shotVolumeEnd s).checkCaptured = s.checkCaptured ∧
    (shotVolumeEnd s).checkFailures = s.checkFailures ∧ (shotVolumeEnd s).blocking = s.blocking ∧
    (shotVolumeEnd s).positions = s.positions ∧ (shotVolumeEnd s).gaugeWorn = s.gaugeWorn ∧
    (shotVolumeEnd s).angle = s.angle ∧ (shotVolumeEnd s).cylinders = s.cylinders ∧
    (shotVolumeEnd s).quadrants = s.quadrants ∧ (shotVolumeEnd s).mass = s.mass ∧
    (shotVolumeEnd s).stroke = s.stroke ∧ (shotVolumeEnd s).rings = s.rings ∧ (shotVolumeEnd s).feed = s.feed ∧
    (shotVolumeEnd s).starvation = s.starvation ∧ (shotVolumeEnd s).place = s.place ∧
    (shotVolumeEnd s).rotation = s.rotation ∧ (shotVolumeEnd s).pointer = s.pointer ∧
    (shotVolumeEnd s).pulse = s.pulse ∧ (shotVolumeEnd s).totalPulses = s.totalPulses ∧
    (shotVolumeEnd s).unattributed = s.unattributed ∧ (shotVolumeEnd s).surplus = s.surplus ∧
    (shotVolumeEnd s).rebases = s.rebases ∧ (shotVolumeEnd s).screw = s.screw ∧
    (shotVolumeEnd s).pending = s.pending := by
  unfold shotVolumeEnd
  repeat' split
  all_goals simp

@[simp] theorem pulseSample_frame (c : Nat) (first : Bool) (s : State) :
    (pulseSample c first s).link = s.link ∧ (pulseSample c first s).enabled = s.enabled ∧
    (pulseSample c first s).capture = s.capture ∧ (pulseSample c first s).clock = s.clock ∧
    (pulseSample c first s).channels = s.channels ∧ (pulseSample c first s).sending = s.sending ∧
    (pulseSample c first s).inputs = s.inputs ∧ (pulseSample c first s).groupFlags = s.groupFlags ∧
    (pulseSample c first s).cycle = s.cycle ∧ (pulseSample c first s).tripCause = s.tripCause ∧
    (pulseSample c first s).furtherCauses = s.furtherCauses ∧ (pulseSample c first s).configured = s.configured ∧
    (pulseSample c first s).params = s.params ∧ (pulseSample c first s).tools = s.tools ∧
    (pulseSample c first s).loadPointer = s.loadPointer ∧ (pulseSample c first s).checkCaptured = s.checkCaptured ∧
    (pulseSample c first s).checkFailures = s.checkFailures ∧ (pulseSample c first s).blocking = s.blocking ∧
    (pulseSample c first s).positions = s.positions ∧ (pulseSample c first s).gaugeWorn = s.gaugeWorn ∧
    (pulseSample c first s).angle = s.angle ∧ (pulseSample c first s).cylinders = s.cylinders ∧
    (pulseSample c first s).quadrants = s.quadrants ∧ (pulseSample c first s).mass = s.mass ∧
    (pulseSample c first s).stroke = s.stroke ∧ (pulseSample c first s).feed = s.feed ∧
    (pulseSample c first s).starvation = s.starvation ∧ (pulseSample c first s).place = s.place ∧
    (pulseSample c first s).rotation = s.rotation ∧ (pulseSample c first s).screw = s.screw ∧
    (pulseSample c first s).pending = s.pending := by
  unfold pulseSample
  dsimp only
  repeat' split
  all_goals simp

@[simp] theorem blockExpired_frame (p : Fin 6) (s : State) :
    (blockExpired p s).link = s.link ∧ (blockExpired p s).enabled = s.enabled ∧
    (blockExpired p s).capture = s.capture ∧ (blockExpired p s).clock = s.clock ∧
    (blockExpired p s).channels = s.channels ∧ (blockExpired p s).sending = s.sending ∧
    (blockExpired p s).inputs = s.inputs ∧ (blockExpired p s).groupFlags = s.groupFlags ∧
    (blockExpired p s).cycle = s.cycle ∧ (blockExpired p s).tripCause = s.tripCause ∧
    (blockExpired p s).furtherCauses = s.furtherCauses ∧ (blockExpired p s).configured = s.configured ∧
    (blockExpired p s).params = s.params ∧ (blockExpired p s).tools = s.tools ∧
    (blockExpired p s).loadPointer = s.loadPointer ∧ (blockExpired p s).checkCaptured = s.checkCaptured ∧
    (blockExpired p s).checkFailures = s.checkFailures ∧ (blockExpired p s).blocking = s.blocking ∧
    (blockExpired p s).positions = s.positions ∧ (blockExpired p s).gaugeWorn = s.gaugeWorn ∧
    (blockExpired p s).angle = s.angle ∧ (blockExpired p s).cylinders = s.cylinders ∧
    (blockExpired p s).quadrants = s.quadrants ∧ (blockExpired p s).mass = s.mass ∧
    (blockExpired p s).stroke = s.stroke ∧ (blockExpired p s).rings = s.rings ∧ (blockExpired p s).feed = s.feed ∧
    (blockExpired p s).starvation = s.starvation ∧ (blockExpired p s).place = s.place ∧
    (blockExpired p s).rotation = s.rotation ∧ (blockExpired p s).pulse = s.pulse ∧
    (blockExpired p s).totalPulses = s.totalPulses ∧ (blockExpired p s).unattributed = s.unattributed ∧
    (blockExpired p s).surplus = s.surplus ∧ (blockExpired p s).rebases = s.rebases ∧
    (blockExpired p s).screw = s.screw ∧ (blockExpired p s).pending = s.pending := by
  simp [blockExpired]

@[simp] theorem chamberSample_frame (pressure : Nat) (s : State) :
    (chamberSample pressure s).link = s.link ∧ (chamberSample pressure s).latched = s.latched ∧
    (chamberSample pressure s).enabled = s.enabled ∧ (chamberSample pressure s).capture = s.capture ∧
    (chamberSample pressure s).clock = s.clock ∧ (chamberSample pressure s).channels = s.channels ∧
    (chamberSample pressure s).sending = s.sending ∧ (chamberSample pressure s).inputs = s.inputs ∧
    (chamberSample pressure s).groupFlags = s.groupFlags ∧ (chamberSample pressure s).cycle = s.cycle ∧
    (chamberSample pressure s).tripCause = s.tripCause ∧
    (chamberSample pressure s).furtherCauses = s.furtherCauses ∧
    (chamberSample pressure s).configured = s.configured ∧ (chamberSample pressure s).params = s.params ∧
    (chamberSample pressure s).tools = s.tools ∧ (chamberSample pressure s).loadPointer = s.loadPointer ∧
    (chamberSample pressure s).checkCaptured = s.checkCaptured ∧
    (chamberSample pressure s).checkFailures = s.checkFailures ∧ (chamberSample pressure s).blocking = s.blocking ∧
    (chamberSample pressure s).positions = s.positions ∧ (chamberSample pressure s).gaugeWorn = s.gaugeWorn ∧
    (chamberSample pressure s).angle = s.angle ∧ (chamberSample pressure s).cylinders = s.cylinders ∧
    (chamberSample pressure s).quadrants = s.quadrants ∧ (chamberSample pressure s).mass = s.mass ∧
    (chamberSample pressure s).stroke = s.stroke ∧ (chamberSample pressure s).rings = s.rings ∧
    (chamberSample pressure s).feed = s.feed ∧ (chamberSample pressure s).starvation = s.starvation ∧
    (chamberSample pressure s).place = s.place ∧ (chamberSample pressure s).ports = s.ports ∧
    (chamberSample pressure s).rotation = s.rotation ∧ (chamberSample pressure s).pointer = s.pointer ∧
    (chamberSample pressure s).pulse = s.pulse ∧ (chamberSample pressure s).totalPulses = s.totalPulses ∧
    (chamberSample pressure s).unattributed = s.unattributed ∧ (chamberSample pressure s).surplus = s.surplus ∧
    (chamberSample pressure s).rebases = s.rebases ∧ (chamberSample pressure s).pending = s.pending := by
  unfold chamberSample
  dsimp only
  repeat' split
  all_goals simp

/-! ### Field Port -/

@[simp] theorem takeSample_frame (c : Fin 30) (v : Nat) (s : State) :
    (takeSample c v s).link = s.link ∧ (takeSample c v s).latched = s.latched ∧
    (takeSample c v s).enabled = s.enabled ∧ (takeSample c v s).capture = s.capture ∧
    (takeSample c v s).clock = s.clock ∧ (takeSample c v s).outputs = s.outputs ∧
    (takeSample c v s).sending = s.sending ∧ (takeSample c v s).inputs = s.inputs ∧
    (takeSample c v s).groupFlags = s.groupFlags ∧ (takeSample c v s).cycle = s.cycle ∧
    (takeSample c v s).tripCause = s.tripCause ∧ (takeSample c v s).furtherCauses = s.furtherCauses ∧
    (takeSample c v s).configured = s.configured ∧ (takeSample c v s).params = s.params ∧
    (takeSample c v s).tools = s.tools ∧ (takeSample c v s).loadPointer = s.loadPointer ∧
    (takeSample c v s).checkCaptured = s.checkCaptured ∧ (takeSample c v s).checkFailures = s.checkFailures ∧
    (takeSample c v s).blocking = s.blocking ∧ (takeSample c v s).positions = s.positions ∧
    (takeSample c v s).gaugeWorn = s.gaugeWorn ∧ (takeSample c v s).angle = s.angle ∧
    (takeSample c v s).cylinders = s.cylinders ∧ (takeSample c v s).quadrants = s.quadrants ∧
    (takeSample c v s).mass = s.mass ∧ (takeSample c v s).stroke = s.stroke ∧ (takeSample c v s).rings = s.rings ∧
    (takeSample c v s).feed = s.feed ∧ (takeSample c v s).starvation = s.starvation ∧
    (takeSample c v s).place = s.place ∧ (takeSample c v s).ports = s.ports ∧
    (takeSample c v s).rotation = s.rotation ∧ (takeSample c v s).pointer = s.pointer ∧
    (takeSample c v s).pulse = s.pulse ∧ (takeSample c v s).totalPulses = s.totalPulses ∧
    (takeSample c v s).unattributed = s.unattributed ∧ (takeSample c v s).surplus = s.surplus ∧
    (takeSample c v s).rebases = s.rebases ∧ (takeSample c v s).screw = s.screw ∧
    (takeSample c v s).pending = s.pending := by
  simp [takeSample]

/-- What no sample changes, whatever its channel (R22). -/
@[simp] theorem deliver_frame (c : Fin 30) (value : Nat) (first : Bool) (before : State) (s : State) :
    (deliver c value first before s).link = s.link ∧ (deliver c value first before s).enabled = s.enabled ∧
    (deliver c value first before s).capture = s.capture ∧ (deliver c value first before s).clock = s.clock ∧
    (deliver c value first before s).channels = s.channels ∧ (deliver c value first before s).sending = s.sending ∧
    (deliver c value first before s).inputs = s.inputs ∧
    (deliver c value first before s).groupFlags = s.groupFlags ∧
    (deliver c value first before s).params = s.params ∧
    (deliver c value first before s).loadPointer = s.loadPointer ∧
    (deliver c value first before s).quadrants = s.quadrants ∧
    (deliver c value first before s).starvation = s.starvation ∧
    (deliver c value first before s).rotation = s.rotation ∧ (deliver c value first before s).pending = s.pending := by
  unfold deliver
  repeat' split
  all_goals simp

@[simp] theorem arrive_frame (c : Fin 30) (v : Nat) (s : State) :
    (arrive c v s).link = s.link ∧ (arrive c v s).enabled = s.enabled ∧ (arrive c v s).capture = s.capture ∧
    (arrive c v s).clock = s.clock ∧ (arrive c v s).sending = s.sending ∧ (arrive c v s).inputs = s.inputs ∧
    (arrive c v s).groupFlags = s.groupFlags ∧ (arrive c v s).params = s.params ∧
    (arrive c v s).loadPointer = s.loadPointer ∧ (arrive c v s).quadrants = s.quadrants ∧
    (arrive c v s).starvation = s.starvation ∧ (arrive c v s).rotation = s.rotation ∧
    (arrive c v s).pending = s.pending := by
  simp [arrive]

@[simp] theorem tellStale_frame (c : Fin 30) (s : State) :
    (tellStale c s).link = s.link ∧ (tellStale c s).latched = s.latched ∧ (tellStale c s).enabled = s.enabled ∧
    (tellStale c s).capture = s.capture ∧ (tellStale c s).clock = s.clock ∧ (tellStale c s).channels = s.channels ∧
    (tellStale c s).sending = s.sending ∧ (tellStale c s).inputs = s.inputs ∧
    (tellStale c s).groupFlags = s.groupFlags ∧ (tellStale c s).cycle = s.cycle ∧
    (tellStale c s).tripCause = s.tripCause ∧ (tellStale c s).furtherCauses = s.furtherCauses ∧
    (tellStale c s).configured = s.configured ∧ (tellStale c s).params = s.params ∧
    (tellStale c s).tools = s.tools ∧ (tellStale c s).loadPointer = s.loadPointer ∧
    (tellStale c s).checkCaptured = s.checkCaptured ∧ (tellStale c s).checkFailures = s.checkFailures ∧
    (tellStale c s).blocking = s.blocking ∧ (tellStale c s).positions = s.positions ∧
    (tellStale c s).gaugeWorn = s.gaugeWorn ∧ (tellStale c s).cylinders = s.cylinders ∧
    (tellStale c s).quadrants = s.quadrants ∧ (tellStale c s).stroke = s.stroke ∧ (tellStale c s).rings = s.rings ∧
    (tellStale c s).feed = s.feed ∧ (tellStale c s).starvation = s.starvation ∧ (tellStale c s).place = s.place ∧
    (tellStale c s).rotation = s.rotation ∧ (tellStale c s).totalPulses = s.totalPulses ∧
    (tellStale c s).unattributed = s.unattributed ∧ (tellStale c s).surplus = s.surplus ∧
    (tellStale c s).rebases = s.rebases ∧ (tellStale c s).pending = s.pending := by
  unfold tellStale
  dsimp only
  repeat' split
  all_goals simp

@[simp] theorem staleExpired_frame (c : Fin 30) (s : State) :
    (staleExpired c s).link = s.link ∧ (staleExpired c s).latched = s.latched ∧
    (staleExpired c s).enabled = s.enabled ∧ (staleExpired c s).capture = s.capture ∧
    (staleExpired c s).clock = s.clock ∧ (staleExpired c s).sending = s.sending ∧
    (staleExpired c s).inputs = s.inputs ∧ (staleExpired c s).groupFlags = s.groupFlags ∧
    (staleExpired c s).cycle = s.cycle ∧ (staleExpired c s).tripCause = s.tripCause ∧
    (staleExpired c s).furtherCauses = s.furtherCauses ∧ (staleExpired c s).configured = s.configured ∧
    (staleExpired c s).params = s.params ∧ (staleExpired c s).tools = s.tools ∧
    (staleExpired c s).loadPointer = s.loadPointer ∧ (staleExpired c s).checkCaptured = s.checkCaptured ∧
    (staleExpired c s).checkFailures = s.checkFailures ∧ (staleExpired c s).blocking = s.blocking ∧
    (staleExpired c s).positions = s.positions ∧ (staleExpired c s).gaugeWorn = s.gaugeWorn ∧
    (staleExpired c s).cylinders = s.cylinders ∧ (staleExpired c s).quadrants = s.quadrants ∧
    (staleExpired c s).stroke = s.stroke ∧ (staleExpired c s).rings = s.rings ∧ (staleExpired c s).feed = s.feed ∧
    (staleExpired c s).starvation = s.starvation ∧ (staleExpired c s).place = s.place ∧
    (staleExpired c s).rotation = s.rotation ∧ (staleExpired c s).totalPulses = s.totalPulses ∧
    (staleExpired c s).unattributed = s.unattributed ∧ (staleExpired c s).surplus = s.surplus ∧
    (staleExpired c s).rebases = s.rebases ∧ (staleExpired c s).pending = s.pending := by
  simp [staleExpired]

@[simp] theorem beginMessage_frame (s : State) :
    (beginMessage s).link = s.link ∧ (beginMessage s).latched = s.latched ∧ (beginMessage s).enabled = s.enabled ∧
    (beginMessage s).capture = s.capture ∧ (beginMessage s).clock = s.clock ∧
    (beginMessage s).channels = s.channels ∧ (beginMessage s).inputs = s.inputs ∧
    (beginMessage s).groupFlags = s.groupFlags ∧ (beginMessage s).cycle = s.cycle ∧
    (beginMessage s).tripCause = s.tripCause ∧ (beginMessage s).furtherCauses = s.furtherCauses ∧
    (beginMessage s).configured = s.configured ∧ (beginMessage s).params = s.params ∧
    (beginMessage s).tools = s.tools ∧ (beginMessage s).loadPointer = s.loadPointer ∧
    (beginMessage s).checkCaptured = s.checkCaptured ∧ (beginMessage s).checkFailures = s.checkFailures ∧
    (beginMessage s).blocking = s.blocking ∧ (beginMessage s).positions = s.positions ∧
    (beginMessage s).gaugeWorn = s.gaugeWorn ∧ (beginMessage s).angle = s.angle ∧
    (beginMessage s).cylinders = s.cylinders ∧ (beginMessage s).quadrants = s.quadrants ∧
    (beginMessage s).mass = s.mass ∧ (beginMessage s).stroke = s.stroke ∧ (beginMessage s).rings = s.rings ∧
    (beginMessage s).feed = s.feed ∧ (beginMessage s).starvation = s.starvation ∧
    (beginMessage s).place = s.place ∧ (beginMessage s).ports = s.ports ∧ (beginMessage s).rotation = s.rotation ∧
    (beginMessage s).pointer = s.pointer ∧ (beginMessage s).pulse = s.pulse ∧
    (beginMessage s).totalPulses = s.totalPulses ∧ (beginMessage s).unattributed = s.unattributed ∧
    (beginMessage s).surplus = s.surplus ∧ (beginMessage s).rebases = s.rebases ∧
    (beginMessage s).screw = s.screw ∧ (beginMessage s).pending = s.pending := by
  unfold beginMessage
  repeat' split
  all_goals simp

/-! ### Discrete inputs -/

@[simp] theorem groupEvent_frame (i : Fin 12) (s : State) :
    (groupEvent i s).link = s.link ∧ (groupEvent i s).enabled = s.enabled ∧ (groupEvent i s).capture = s.capture ∧
    (groupEvent i s).clock = s.clock ∧ (groupEvent i s).channels = s.channels ∧
    (groupEvent i s).outputs = s.outputs ∧ (groupEvent i s).sending = s.sending ∧
    (groupEvent i s).inputs = s.inputs ∧ (groupEvent i s).cycle = s.cycle ∧
    (groupEvent i s).tripCause = s.tripCause ∧ (groupEvent i s).furtherCauses = s.furtherCauses ∧
    (groupEvent i s).configured = s.configured ∧ (groupEvent i s).params = s.params ∧
    (groupEvent i s).tools = s.tools ∧ (groupEvent i s).loadPointer = s.loadPointer ∧
    (groupEvent i s).checkCaptured = s.checkCaptured ∧ (groupEvent i s).checkFailures = s.checkFailures ∧
    (groupEvent i s).blocking = s.blocking ∧ (groupEvent i s).positions = s.positions ∧
    (groupEvent i s).gaugeWorn = s.gaugeWorn ∧ (groupEvent i s).angle = s.angle ∧
    (groupEvent i s).cylinders = s.cylinders ∧ (groupEvent i s).quadrants = s.quadrants ∧
    (groupEvent i s).mass = s.mass ∧ (groupEvent i s).stroke = s.stroke ∧ (groupEvent i s).rings = s.rings ∧
    (groupEvent i s).feed = s.feed ∧ (groupEvent i s).starvation = s.starvation ∧
    (groupEvent i s).place = s.place ∧ (groupEvent i s).ports = s.ports ∧ (groupEvent i s).rotation = s.rotation ∧
    (groupEvent i s).pointer = s.pointer ∧ (groupEvent i s).pulse = s.pulse ∧
    (groupEvent i s).totalPulses = s.totalPulses ∧ (groupEvent i s).unattributed = s.unattributed ∧
    (groupEvent i s).surplus = s.surplus ∧ (groupEvent i s).rebases = s.rebases ∧
    (groupEvent i s).screw = s.screw ∧ (groupEvent i s).pending = s.pending := by
  unfold groupEvent
  repeat' split
  all_goals simp

@[simp] theorem useInput_frame (i : Fin 12) (event : Bool) (before : State) (s : State) :
    (useInput i event before s).link = s.link ∧ (useInput i event before s).enabled = s.enabled ∧
    (useInput i event before s).capture = s.capture ∧ (useInput i event before s).clock = s.clock ∧
    (useInput i event before s).channels = s.channels ∧ (useInput i event before s).sending = s.sending ∧
    (useInput i event before s).inputs = s.inputs ∧ (useInput i event before s).groupFlags = s.groupFlags ∧
    (useInput i event before s).configured = s.configured ∧ (useInput i event before s).params = s.params ∧
    (useInput i event before s).tools = s.tools ∧ (useInput i event before s).loadPointer = s.loadPointer ∧
    (useInput i event before s).checkCaptured = s.checkCaptured ∧
    (useInput i event before s).checkFailures = s.checkFailures ∧
    (useInput i event before s).blocking = s.blocking ∧ (useInput i event before s).positions = s.positions ∧
    (useInput i event before s).gaugeWorn = s.gaugeWorn ∧ (useInput i event before s).angle = s.angle ∧
    (useInput i event before s).quadrants = s.quadrants ∧ (useInput i event before s).mass = s.mass ∧
    (useInput i event before s).stroke = s.stroke ∧ (useInput i event before s).rotation = s.rotation ∧
    (useInput i event before s).pulse = s.pulse ∧ (useInput i event before s).totalPulses = s.totalPulses ∧
    (useInput i event before s).unattributed = s.unattributed ∧ (useInput i event before s).surplus = s.surplus ∧
    (useInput i event before s).rebases = s.rebases ∧ (useInput i event before s).screw = s.screw ∧
    (useInput i event before s).pending = s.pending := by
  unfold useInput
  repeat' split
  all_goals simp

@[simp] theorem takeInput_frame (i : Fin 12) (input : Input) (event : Bool) (s : State) :
    (takeInput i input event s).link = s.link ∧ (takeInput i input event s).enabled = s.enabled ∧
    (takeInput i input event s).capture = s.capture ∧ (takeInput i input event s).clock = s.clock ∧
    (takeInput i input event s).channels = s.channels ∧ (takeInput i input event s).sending = s.sending ∧
    (takeInput i input event s).configured = s.configured ∧ (takeInput i input event s).params = s.params ∧
    (takeInput i input event s).tools = s.tools ∧ (takeInput i input event s).loadPointer = s.loadPointer ∧
    (takeInput i input event s).checkCaptured = s.checkCaptured ∧
    (takeInput i input event s).checkFailures = s.checkFailures ∧
    (takeInput i input event s).blocking = s.blocking ∧ (takeInput i input event s).positions = s.positions ∧
    (takeInput i input event s).gaugeWorn = s.gaugeWorn ∧ (takeInput i input event s).angle = s.angle ∧
    (takeInput i input event s).quadrants = s.quadrants ∧ (takeInput i input event s).mass = s.mass ∧
    (takeInput i input event s).stroke = s.stroke ∧ (takeInput i input event s).rotation = s.rotation ∧
    (takeInput i input event s).pulse = s.pulse ∧ (takeInput i input event s).totalPulses = s.totalPulses ∧
    (takeInput i input event s).unattributed = s.unattributed ∧ (takeInput i input event s).surplus = s.surplus ∧
    (takeInput i input event s).rebases = s.rebases ∧ (takeInput i input event s).screw = s.screw ∧
    (takeInput i input event s).pending = s.pending := by
  unfold takeInput
  cases event <;> simp

end Sys2Proof.Machine
end

