-- ==== Sys2Proof/Laws/Requests.lean ====
section
/-! SUPPORT. How a request is answered and how a step goes: the fields of an answered state, what `takeRequest` does for a
good and for a wrong length, `exec` of any command that is one request, and the two cases of `step`. -/

namespace Sys2Proof.Machine

/-! ### The answer -/

section respond

variable (kind : Byte) (r : Request) (a : Answer) (t : Taken)

@[simp] theorem respond_answer : (respond kind r a t).link.answer = ⟨kind, r.tag, t.status, t.results⟩ := rfl
@[simp] theorem respond_shifted : (respond kind r a t).link.shifted = a.wire (64 + r.extra) := rfl
@[simp] theorem respond_capture : (respond kind r a t).capture =
    if t.status.refused then t.state.capture.note kind r t.status else t.state.capture := rfl
@[simp] theorem respond_latched : (respond kind r a t).latched = t.state.latched := rfl
@[simp] theorem respond_enabled : (respond kind r a t).enabled = t.state.enabled := rfl
@[simp] theorem respond_clock : (respond kind r a t).clock = t.state.clock := rfl
@[simp] theorem respond_channels : (respond kind r a t).channels = t.state.channels := rfl
@[simp] theorem respond_outputs : (respond kind r a t).outputs = t.state.outputs := rfl
@[simp] theorem respond_sending : (respond kind r a t).sending = t.state.sending := rfl
@[simp] theorem respond_inputs : (respond kind r a t).inputs = t.state.inputs := rfl
@[simp] theorem respond_groupFlags : (respond kind r a t).groupFlags = t.state.groupFlags := rfl
@[simp] theorem respond_cycle : (respond kind r a t).cycle = t.state.cycle := rfl
@[simp] theorem respond_tripCause : (respond kind r a t).tripCause = t.state.tripCause := rfl
@[simp] theorem respond_furtherCauses : (respond kind r a t).furtherCauses = t.state.furtherCauses := rfl
@[simp] theorem respond_configured : (respond kind r a t).configured = t.state.configured := rfl
@[simp] theorem respond_params : (respond kind r a t).params = t.state.params := rfl
@[simp] theorem respond_tools : (respond kind r a t).tools = t.state.tools := rfl
@[simp] theorem respond_loadPointer : (respond kind r a t).loadPointer = t.state.loadPointer := rfl
@[simp] theorem respond_checkCaptured : (respond kind r a t).checkCaptured = t.state.checkCaptured := rfl
@[simp] theorem respond_checkFailures : (respond kind r a t).checkFailures = t.state.checkFailures := rfl
@[simp] theorem respond_blocking : (respond kind r a t).blocking = t.state.blocking := rfl
@[simp] theorem respond_positions : (respond kind r a t).positions = t.state.positions := rfl
@[simp] theorem respond_gaugeWorn : (respond kind r a t).gaugeWorn = t.state.gaugeWorn := rfl
@[simp] theorem respond_angle : (respond kind r a t).angle = t.state.angle := rfl
@[simp] theorem respond_cylinders : (respond kind r a t).cylinders = t.state.cylinders := rfl
@[simp] theorem respond_quadrants : (respond kind r a t).quadrants = t.state.quadrants := rfl
@[simp] theorem respond_mass : (respond kind r a t).mass = t.state.mass := rfl
@[simp] theorem respond_stroke : (respond kind r a t).stroke = t.state.stroke := rfl
@[simp] theorem respond_rings : (respond kind r a t).rings = t.state.rings := rfl
@[simp] theorem respond_feed : (respond kind r a t).feed = t.state.feed := rfl
@[simp] theorem respond_starvation : (respond kind r a t).starvation = t.state.starvation := rfl
@[simp] theorem respond_place : (respond kind r a t).place = t.state.place := rfl
@[simp] theorem respond_ports : (respond kind r a t).ports = t.state.ports := rfl
@[simp] theorem respond_rotation : (respond kind r a t).rotation = t.state.rotation := rfl
@[simp] theorem respond_pointer : (respond kind r a t).pointer = t.state.pointer := rfl
@[simp] theorem respond_pulse : (respond kind r a t).pulse = t.state.pulse := rfl
@[simp] theorem respond_totalPulses : (respond kind r a t).totalPulses = t.state.totalPulses := rfl
@[simp] theorem respond_unattributed : (respond kind r a t).unattributed = t.state.unattributed := rfl
@[simp] theorem respond_surplus : (respond kind r a t).surplus = t.state.surplus := rfl
@[simp] theorem respond_rebases : (respond kind r a t).rebases = t.state.rebases := rfl
@[simp] theorem respond_screw : (respond kind r a t).screw = t.state.screw := rfl
@[simp] theorem respond_pending : (respond kind r a t).pending = t.state.pending := rfl

end respond

/-! ### Taking a request -/

/-- A request of the index's length is carried out by its owner. -/
theorem takeRequest_good {kind : Byte} {count : Nat} {f : Handler} {r : Request} {s : State}
    (h : r.args.length = count) (small : count ≤ 56) :
    takeRequest kind count f r s = respond kind r s.link.answer (f r.args s) := by
  simp [takeRequest, h, Nat.not_lt.mpr small]

/-- A request of another length that fits a frame is refused BAD_LENGTH. -/
theorem takeRequest_badLength {kind : Byte} {count : Nat} {f : Handler} {r : Request} {s : State}
    (fits : r.args.length ≤ 56) (h : r.args.length ≠ count) :
    takeRequest kind count f r s = respond kind r s.link.answer ⟨s, .badLength, []⟩ := by
  simp [takeRequest, Nat.not_lt.mpr fits, h, refuse]

/-- Whatever the request, the answered state is the owner's, the state as it was, or nothing else. -/
theorem takeRequest_cases (kind : Byte) (count : Nat) (f : Handler) (r : Request) (s : State) :
    ∃ t, takeRequest kind count f r s = respond kind r s.link.answer t ∧
      (t = f r.args s ∨ ∃ st, t = ⟨s, st, []⟩) := by
  by_cases h : 56 < r.args.length
  · exact ⟨_, by simp [takeRequest, h]; rfl, .inr ⟨.linkCheck, rfl⟩⟩
  · by_cases g : r.args.length = count
    · exact ⟨_, takeRequest_good g (by omega), .inl rfl⟩
    · exact ⟨_, takeRequest_badLength (by omega) g, .inr ⟨.badLength, rfl⟩⟩

@[simp] theorem inStates_true {ok : Cycle → Bool} {f : Handler} {args : List Byte} {s : State} (h : ok s.cycle = true) :
    inStates ok f args s = f args s := by simp [inStates, h]

@[simp] theorem inStates_false {ok : Cycle → Bool} {f : Handler} {args : List Byte} {s : State}
    (h : ok s.cycle = false) : inStates ok f args s = ⟨s, .wrongState, []⟩ := by simp [inStates, h, refuse]

theorem ifConfigured_of_ne {f : Handler} {args : List Byte} {s : State} (h : s.cycle ≠ .unconfigured) :
    ifConfigured f args s = f args s := by simp [ifConfigured, h]

theorem ifConfigured_unconfigured {f : Handler} {args : List Byte} {s : State} (h : s.cycle = .unconfigured) :
    ifConfigured f args s = ⟨s, .notConfigured, []⟩ := by simp [ifConfigured, h, refuse]

/-! ### Commands and steps -/

/-- A command that is one request is taken by its kind. -/
theorem exec_request {c : Instr} {kind : Byte} {r : Request} (h : requestOf c = some (kind, r)) (s : State) :
    exec c s = .next (takeByKind kind r s) := by
  cases c <;> simp only [requestOf, Option.some.injEq, Prod.mk.injEq, reduceCtorEq] at h <;>
    obtain ⟨rfl, rfl⟩ := h <;> rfl

/-- A waiting command runs on the state with the queue's rest. -/
theorem step_of_pending {s : State} {c : Instr} {rest : List Instr} (h : s.pending = c :: rest) :
    step s = exec c { s with pending := rest } := by simp [step, h]

/-- With none waiting the part idles. -/
theorem step_of_empty {s : State} (h : s.pending = []) : step s = .next (idle s) := by simp [step, h]

/-- The only ways a step goes on. -/
theorem step_next {s t : State} (h : step s = .next t) :
    (s.pending = [] ∧ t = idle s) ∨
      ∃ c rest, s.pending = c :: rest ∧ exec c { s with pending := rest } = .next t := by
  cases hp : s.pending with
  | nil => left; rw [step_of_empty hp] at h; injection h with e; exact ⟨rfl, e.symm⟩
  | cons c rest => right; rw [step_of_pending hp] at h; exact ⟨c, rest, rfl, h⟩

end Sys2Proof.Machine
end

