-- ==== Sys2Proof/Laws/Values.lean ====
section
/-! SUPPORT. What the writes to output words leave: one lemma each for the value, the mark and the words not written. -/

namespace Sys2Proof.Machine

/-! ### One output word (R26) -/

@[simp] theorem Output.write_value (o : Output) (v : Nat) : (o.write v).value = v := by
  unfold Output.write; split <;> simp_all

theorem Output.write_mark {o : Output} {v : Nat} (h : o.mark = true ∨ o.value ≠ v) : (o.write v).mark = true := by
  unfold Output.write; split <;> simp_all

theorem writeOutput_get (i o : Fin 25) (v : Nat) (s : State) :
    (writeOutput i v s).outputs[o] = if o = i then s.outputs[i].write v else s.outputs[o] := by
  by_cases h : o = i
  · subst h; simp [writeOutput]
  · have h' : i.val ≠ o.val := fun e => h (Fin.ext e.symm)
    simp only [writeOutput, if_neg h, Fin.getElem_fin]
    exact Vector.getElem_set_ne _ _ h'

theorem writeOutput_value_self (i : Fin 25) (v : Nat) (s : State) :
    (writeOutput i v s).outputs[i].value = v := by rw [writeOutput_get, if_pos rfl, Output.write_value]

theorem writeOutput_other {i o : Fin 25} (h : o ≠ i) (v : Nat) (s : State) :
    (writeOutput i v s).outputs[o] = s.outputs[o] := by rw [writeOutput_get, if_neg h]

/-! ### Group setpoints (R93) -/

theorem deriveSetpoints_get (o : Fin 25) (s : State) :
    (deriveSetpoints s).outputs[o] =
      if h : 1 ≤ o.val ∧ o.val ≤ 4 then s.outputs[o].write (groupSetpoint s ⟨o.val - 1, by omega⟩)
      else s.outputs[o] := by
  simp [deriveSetpoints]

theorem deriveSetpoints_group (g : Fin 4) (s : State) :
    (deriveSetpoints s).outputs[groupOutput g].value = groupSetpoint s g := by
  have h : 1 ≤ (groupOutput g).val ∧ (groupOutput g).val ≤ 4 := by simp only [groupOutput]; omega
  rw [deriveSetpoints_get, dif_pos h, Output.write_value]
  congr 1
  ext
  simp [groupOutput]

/-! ### Cylinder commands (R89, R90) -/

theorem commandWhere_get (chosen : Fin 16 → Bool) (c : Command) (owner : Option Owner) (o : Fin 25) (s : State) :
    (commandWhere chosen c owner s).outputs[o] =
      if h : 5 ≤ o.val ∧ o.val ≤ 20 then
        if chosen ⟨o.val - 5, by omega⟩ then s.outputs[o].write c.code else s.outputs[o]
      else s.outputs[o] := by
  simp [commandWhere]

theorem commandWhere_output (chosen : Fin 16 → Bool) (c : Command) (owner : Option Owner) (i : Fin 16) (s : State) :
    (commandWhere chosen c owner s).outputs[cylinderOutput i] =
      if chosen i then s.outputs[cylinderOutput i].write c.code else s.outputs[cylinderOutput i] := by
  have h : 5 ≤ (cylinderOutput i).val ∧ (cylinderOutput i).val ≤ 20 := by simp only [cylinderOutput]; omega
  have e : (⟨(cylinderOutput i).val - 5, by omega⟩ : Fin 16) = i := by ext; simp [cylinderOutput]
  rw [commandWhere_get, dif_pos h, e]

theorem commandWhere_cylinder (chosen : Fin 16 → Bool) (c : Command) (owner : Option Owner) (i : Fin 16) (s : State) :
    (commandWhere chosen c owner s).cylinders[i] =
      if chosen i then ⟨timerOnCommand s i c, owner.getD s.cylinders[i].owner⟩ else s.cylinders[i] := by
  simp [commandWhere]

@[simp] theorem Command.ofCode_code (c : Command) : Command.ofCode c.code = c := by cases c <;> rfl

/-- The chosen cylinders take the command, every other keeps its own. -/
theorem commandWhere_command (chosen : Fin 16 → Bool) (c : Command) (owner : Option Owner) (i : Fin 16) (s : State) :
    command (commandWhere chosen c owner s) i = if chosen i then c else command s i := by
  unfold command
  rw [commandWhere_output]
  split <;> simp

/-- A word that is no cylinder's is not written by a command to cylinders. -/
theorem commandWhere_other (chosen : Fin 16 → Bool) (c : Command) (owner : Option Owner) {o : Fin 25}
    (h : ¬ (5 ≤ o.val ∧ o.val ≤ 20)) (s : State) :
    (commandWhere chosen c owner s).outputs[o] = s.outputs[o] := by
  rw [commandWhere_get, dif_neg h]

/-- A word that is no group's is not written when the group setpoints are derived. -/
theorem deriveSetpoints_other {o : Fin 25} (h : ¬ (1 ≤ o.val ∧ o.val ≤ 4)) (s : State) :
    (deriveSetpoints s).outputs[o] = s.outputs[o] := by
  rw [deriveSetpoints_get, dif_neg h]

/-- The permit is what R38 calls for once it has been re-evaluated. -/
theorem evalPermit_value (s : State) :
    (evalPermit s).outputs[(0 : Fin 25)].value = if permitDue s then 1 else 0 := by
  simp only [evalPermit, writeOutput_value_self]

theorem evalPermit_other {o : Fin 25} (h : o ≠ 0) (s : State) : (evalPermit s).outputs[o] = s.outputs[o] :=
  writeOutput_other h _ s

/-! ### Timers -/

@[simp] theorem Timer.pass_running (t : Timer) : t.pass.running = t.running := by
  unfold Timer.pass; split <;> simp_all

@[simp] theorem Timer.freeze_value (t : Timer) : t.freeze.value = t.value := rfl
@[simp] theorem Timer.freeze_running (t : Timer) : t.freeze.running = false := rfl

end Sys2Proof.Machine
end

