-- ==== Sys2Proof/WellFormed.lean ====
section
/-! DEFINITION. Which commands are what their row says. The meanings do not rest on it: a command whose operands are
another row's is taken for what its bytes say (log 8). -/

namespace Sys2Proof

/-- A request fits a frame (R3): at most 56 argument bytes. -/
def Request.fits (r : Request) : Bool := decide (r.args.length ≤ 56)

/-- The identifiers of the geometry parameters (spec/11 section 11.1). -/
def geometryIds : List Nat := [0x01, 0x02, 0x03, 0x04, 0x05, 0x06, 0x07]

/-- The identifier of CHECK_CAPTURE (spec/11 section 11.1). -/
def checkCaptureId : Nat := 0x40

/-- The first argument byte as a number, 0 where there is none. -/
def Request.first (r : Request) : Nat := (r.args.getD 0 0).toNat

/-- The operands fit the row: a full or cut-short transaction, a frame that fails R3, a kind outside the index,
and for rows that share a kind the arguments that choose the row. -/
def Instr.wellFormed : Instr → Bool
  | .powerOnReset _ received => decide (received.length < 64)
  | .transactionCutShort bytes => decide (bytes.length < 64)
  | .linkCheck bytes => decide (64 ≤ bytes.length) && !frameChecks (bytes.take 64)
  | .unknownRequest kind r => r.fits && (indexCount kind).isNone
  | .noRequest r => r.fits
  | .readStatus r => r.fits
  | .readNotices r => r.fits
  | .clearNotices r => r.fits
  | .setNoticeEnable r => r.fits
  | .readErrorCapture r => r.fits
  | .controllerReset r => r.fits
  | .setParamGeometry r => r.fits && (r.args.length != 5 || geometryIds.contains r.first)
  | .setParamTuning r =>
      r.fits && (r.args.length != 5 || !(geometryIds.contains r.first || r.first == checkCaptureId))
  | .checkCaptureEmpty r => r.fits && (r.args.length != 5 || r.first == checkCaptureId)
  | .getParam r => r.fits
  | .setSense r => r.fits
  | .readInputs r => r.fits
  | .readChannel r => r.fits
  | .beginStroke r => r.fits
  | .endStroke r => r.fits
  | .beginBuild r => r.fits
  | .enterIntervention r => r.fits
  | .leaveIntervention r => r.fits
  | .clearTrip r => r.fits
  | .setLoadPointer r => r.fits
  | .toolLoad r => r.fits
  | .toolRead r => r.fits
  | .toolAmendLimits r => r.fits && (r.args.length != 14 || !(r.args.getD 1 0).getLsbD 1)
  | .toolAmendDuty r => r.fits && (r.args.length != 14 || (r.args.getD 1 0).getLsbD 1)
  | .toolLockOut r => r.fits
  | .toolRetire r => r.fits
  | .toolFit r => r.fits
  | .toolRelease r => r.fits
  | .storageFault _ => true
  | .setThrust r => r.fits
  | .readCylinder r => r.fits
  | .readStroke r => r.fits
  | .readBalance r => r.fits
  | .ringPlan r => r.fits
  | .ringCancel r => r.fits
  | .ringRetire r => r.fits
  | .readRing r => r.fits
  | .segmentEnqueue r => r.fits
  | .segmentWithdraw r => r.fits
  | .readFeed r => r.fits
  | .placeNext r => r.fits
  | .placeRun r => r.fits
  | .erectorHold r => r.fits
  | .erectorAbort r => r.fits
  | .erectorResume r => r.fits
  | .erectorReturn r => r.fits
  | .setRotation r => r.fits
  | .setPort r => r.fits
  | .portOutOfService r => r.fits
  | .portRestore r => r.fits
  | .portClear r => r.fits
  | .groutRate r => r.fits
  | .readPort r => r.fits
  | .readGrout r => r.fits
  | .setScrewModeManual r => r.fits && (r.args.length != 3 || r.first != 0)
  | .setScrewModeAuto r => r.fits && (r.args.length != 3 || r.first == 0)
  | .sampleArrival _ _ => true
  | .sampleMessageDiscarded channel value check =>
      decide (29 < channel.toNat) || check != sampleCheck channel value
  | .staleTimerExpiry _ => true
  | .setpointMessage => true
  | .lineChange _ _ => true
  | .retractTimerExpiry _ => true
  | .stepTimerExpiry => true
  | .blockTimerExpiry _ => true
  | .setpointMessageEnd => true

end Sys2Proof
end

