-- ==== Sys2Proof/Tests/Slice0.lean ====
section
/-! SUPPORT. Tests of the model, one step each, with expected values from the spec's worked examples and tables; the
smoke tests of WellFormed; and for every statement of Certificates/Slice0 with hypotheses a witness that meets them. -/

open Sys2Proof Sys2Proof.Machine

namespace Sys2Proof.Tests

set_option Elab.async false

/-! ### Builders -/

/-- A request with tag 0x42. -/
def req (args : List Byte) : Request := ⟨0x42, args, 0⟩

/-- The state after a command. -/
def after (c : Instr) (s : State) : State := match exec c s with
  | .next t => t
  | .fault _ => s
  | .refused _ => s

/-- The status of the answer after a command. -/
def statusOf (c : Instr) (s : State) : Status := (after c s).link.answer.status

/-- A configured part in a cycle state, with the parameters of the worked stroke of section 6.5. -/
def ready (c : Cycle) : State :=
  { State.reset with
    cycle := c, configured := true
    params := { faceArea := some 350460, voidArea := some 33771, ringWidth := some 15000, tailLength := some 31000 } }

/-- A part that builds ring 130 of section 8.7 with slot 2 next, every cylinder commanded EXTEND. -/
def ring130 : Ring :=
  { number := 130, type := .straight, key := 14, order := #v[2, 1, 3, 0, 4, 5], state := .building }

def building : State :=
  { ready .building with
    rings := [ring130], starvation := 12
    feed := [⟨81201, .ordinary, .straight, false⟩, ⟨81207, .key, .straight, false⟩, ⟨80990, .ordinary, .left, false⟩]
    outputs := Vector.ofFn fun o => if 5 ≤ o.val ∧ o.val ≤ 20 then ⟨1, false⟩ else ⟨0, false⟩ }

/-- The same with the erector in a state, for slot 2. -/
def erecting (e : Erector) (i : Option Step) : State :=
  { building with place := { erector := e, current := some 2, interrupted := i } }

/-- Ring 130 with slot 2 on the erector. -/
def gripped : Ring := ring130.setSlot 2 ⟨.onErector, some 81201⟩

/-- A sound record: the disc of position 47 of section 4.7. -/
def disc47 : ToolFields :=
  { state := .watch, zone := .gauge, radius := 3250, serial := some 38551, fittedAt := some 176, duty := 47990
    watch := 40000, wear := 48000, lifetime := 312640 }

/-- A part in a cycle state with that disc at position 47, or with another record there. -/
def withDisc (c : Cycle) (t : ToolFields) : State :=
  { ready c with tools := (State.reset.tools).set 47 (Tool.fresh t), positions := 1 }

/-! ### WellFormed refuses -/

/-- A request that no frame carries. -/
theorem test_wf_refuses_long_request : (Instr.noRequest (req (List.replicate 57 0))).wellFormed = false := by decide

theorem test_wf_refuses_full_transaction_as_cut_short :
    (Instr.transactionCutShort (List.replicate 64 0)).wellFormed = false := by decide

theorem test_wf_refuses_received_frame_at_reset :
    (Instr.powerOnReset 0 (List.replicate 64 0)).wellFormed = false := by decide

theorem test_wf_refuses_short_link_check : (Instr.linkCheck [0xA5]).wellFormed = false := by decide

theorem test_wf_refuses_sound_frame_as_link_check :
    (Instr.linkCheck ([0xA5, 0x00, 0x01, 0x00, 0x15] ++ List.replicate 59 0)).wellFormed = false := by decide +kernel

theorem test_wf_refuses_known_kind : (Instr.unknownRequest 0x04 (req [])).wellFormed = false := by decide

theorem test_wf_refuses_tuning_as_geometry :
    (Instr.setParamGeometry (req [0x16, 0, 0, 0, 1])).wellFormed = false := by decide

theorem test_wf_refuses_geometry_as_tuning :
    (Instr.setParamTuning (req [0x01, 0, 0, 0, 1])).wellFormed = false := by decide

theorem test_wf_refuses_other_parameter_as_check_capture :
    (Instr.checkCaptureEmpty (req [0x10, 0, 0, 0, 0])).wellFormed = false := by decide

theorem test_wf_refuses_duty_as_limits :
    (Instr.toolAmendLimits (req (0 :: 2 :: List.replicate 12 0))).wellFormed = false := by decide

theorem test_wf_refuses_limits_as_duty :
    (Instr.toolAmendDuty (req (0 :: 1 :: List.replicate 12 0))).wellFormed = false := by decide

theorem test_wf_refuses_auto_as_manual : (Instr.setScrewModeManual (req [0, 0, 0])).wellFormed = false := by decide

theorem test_wf_refuses_manual_as_auto : (Instr.setScrewModeAuto (req [1, 0, 0])).wellFormed = false := by decide

theorem test_wf_refuses_sound_message :
    (Instr.sampleMessageDiscarded 20 1000 (sampleCheck 20 1000)).wellFormed = false := by decide +kernel

/-! ### The links -/

/-- The worked check of section 1.1: the register after 0x00, 0x01, 0x00, and after one more 0x00. -/
theorem test_crc_worked_example : crc8 [0x00, 0x01, 0x00] = 0x15 ∧ crc8 [0x00, 0x01, 0x00, 0x00] = 0x6B := by decide +kernel

/-- The frames of section 1.1: NO_REQUEST with tag 0x01, and its answer. -/
theorem test_no_request_frames : requestFrame 0x00 0x01 [] = [0xA5, 0x00, 0x01, 0x00, 0x15] ∧
    (Answer.frame ⟨0x00, 0x01, .done, []⟩) = [0x5A, 0x00, 0x01, 0x00, 0x00, 0x6B] := by decide +kernel

/-- R3: one wrong bit in the check byte fails the frame. -/
theorem test_wrong_check_byte :
    frameChecks ([0xA5, 0x00, 0x01, 0x00, 0x14] ++ List.replicate 59 0) = false := by decide +kernel

/-- R3: the transaction of a whole NO_REQUEST frame answers it. -/
theorem test_transaction_answers :
    (after (.linkCheck ([0xA5, 0x00, 0x01, 0x00, 0x15] ++ List.replicate 59 0)) State.reset).link.answer =
      ⟨0x00, 0x01, .done, []⟩ := by decide +kernel

/-- The names of section 1.6: 52 kinds, each once. -/
theorem test_index_kinds : indexCounts.length = 52 ∧ (indexCounts.map Prod.fst).Nodup := by decide +kernel

/-- Section 1.3: the notices' numbers. -/
theorem test_notice_numbers : Notice.tripped.number = 0 ∧ Notice.strokeEnded.number = 11 ∧
    Notice.countRebased.number = 16 ∧ Notice.inputGroupChange.number = 23 := by decide

/-- R10, R23: naming every notice clears the events; TRIPPED stays, and CHANNEL_STALE with channel 20 STALE and in use. -/
theorem test_clear_notices_keeps_conditions :
    pendingSet (after (.clearNotices (req [0xFF, 0xFF, 0xFF])) { ready .tripped with latched := 0x010800 }) =
      9 := by decide +kernel

/-! ### Strokes, trips and interventions -/

/-- The worked stroke of section 6.5: the account that BEGIN_STROKE opens. -/
theorem test_begin_stroke_opens_account :
    let s := after (.beginStroke (req [])) { ready .standstill with stroke := { state := .spent, number := 40 } }
    s.stroke.number = 41 ∧ s.cycle = .boring ∧ s.outputs[0].value = 1 ∧ s.outputs[5].value = 1 := by decide

/-- Section 6.5: references 1 330, 1 212, 1 196, 1 204 against a high-water mark of 1 203 give 32 units and 112 L with
14 720 carried. -/
theorem test_first_increment_of_worked_stroke :
    let s := { ready .boring with
      stroke := { state := .opened, number := 41, base := 1203, high := 1203 }
      channels := Vector.ofFn fun c =>
        ⟨if c = 4 then 1212 else if c = 8 then 1196 else 1204, true, ⟨500, true⟩, 0, false⟩ }
    let t := after (.sampleArrival 0 1330) s
    t.stroke.high = 1235 ∧ t.stroke.advance = 32 ∧ t.stroke.litres = 112 ∧ t.stroke.remainder = 14720 := by
  decide +kernel

/-- R48: 33 001 kPa trips at P_MAX 30 000, 33 000 does not. -/
theorem test_over_thrust_threshold :
    (after (.sampleArrival 16 33001) (ready .boring)).tripCause = some .overThrust ∧
      (after (.sampleArrival 16 33000) (ready .boring)).cycle = .boring := by decide +kernel

/-- R51: a trip is not cleared while STOP is asserted. -/
theorem test_clear_trip_interlock :
    statusOf (.clearTrip (req [])) (after (.lineChange 0 .low) (ready .standstill)) = .interlock := by decide +kernel

/-! ### Tools and duty -/

/-- Section 4.7: one revolution takes the disc of position 47 to WORN at 48 010 with 1 763 328 000 000 carried. -/
theorem test_revolution_of_gauge_disc :
    let t := accrued disc47 4096 1000
    t.duty = 48010 ∧ t.remainder = 1763328000000 ∧ t.lifetime = 312660 ∧ t.state = .worn := by decide

/-- Section 5.7: position 45 saturates and its remainder becomes 0. -/
theorem test_duty_saturates :
    let t := accrued { disc47 with duty := 4294967290, remainder := 250926000000, lifetime := 4294967290 } 4096 4000
    t.duty = 4294967295 ∧ t.remainder = 0 ∧ t.lifetime = 4294967295 := by decide

/-- R76: the worked differences of section 5.6, across the wrap and backwards. -/
theorem test_rotation_amounts :
    rotationAmount 0 64512 = 1024 ∧ rotationAmount 65024 0 = 512 ∧ rotationAmount 20000 65024 = 20512 := by decide

/-- Section 4.8: a damaged record reads SUSPECT, the capture holds it, and the blocking count is 1. -/
theorem test_damaged_record_found :
    let s := after (.toolRead (req [47])) (after (.storageFault 47) (withDisc .standstill disc47))
    s.tools[47].state = .suspect ∧ s.checkCaptured = some 47 ∧ s.blocking = 1 ∧ s.cycle = .standstill := by
  decide +kernel

/-- R67: a lowered duty lowers the lifetime duty with it and derives the state again. -/
theorem test_amend_duty :
    let t := amended disc47 none (some 39990)
    t.duty = 39990 ∧ t.lifetime = 304640 ∧ t.state = .fitted ∧ t.remainder = 0 := by decide

/-! ### Rings, feed and placement -/

/-- The spans of section 8.7 for key position 14. -/
theorem test_spans_of_ring_130 : span 14 2 = [4, 5, 6] ∧ span 14 1 = [2, 3] ∧ span 14 3 = [7, 8] ∧
    span 14 0 = [15, 0, 1] ∧ span 14 4 = [9, 10, 11] ∧ span 14 5 = [12, 13] ∧ span 14 6 = [14] := by decide

/-- The erector commands of section 8.7. -/
theorem test_goto_values : (ErectorCommand.goto (spanFirst 14 2)).code = 20 ∧
    (ErectorCommand.goto (spanFirst 14 0)).code = 31 ∧ (ErectorCommand.goto (spanFirst 14 6)).code = 30 := by decide

/-- Section 7.4, first increment: ring 62. -/
theorem test_exposure_of_ring_62 :
    let r : Ring := { ring130 with
      state := .grouting, advance := 44500, exposure := 13500, target := 59268105000, delivered := 590000
      voidArea := some 33771, groutFactor := some 130 }
    let r' := r.advanced 31000 15000 1000
    r'.advance = 45500 ∧ r'.exposure = 14500 ∧ r'.target = 63658335000 ∧ r'.state = .grouting := by decide

/-- Section 8.7: the first match of the run reserves 81 201. -/
theorem test_place_run_reserves :
    let s := after (.placeRun (req [])) building
    s.place.erector = .working .picking ∧ s.place.current = some 2 ∧ s.outputs[21].value = 1 ∧
      (s.feed.map Segment.reserved) = [true, false, false] := by decide +kernel

/-- Section 8.7: at the slot the span is extended and the erector seats. -/
theorem test_at_slot_seats :
    let s := after (.lineChange 4 .high) (erecting (.working .positioning) none)
    s.place.erector = .working .seating ∧ s.outputs[21].value = 2 := by decide +kernel

/-- R110: a ring that is not GROUTED is not retired. -/
theorem test_retire_needs_grouted : statusOf (.ringRetire (req [0, 130])) building = .wrongState := by decide

/-! ### Grouting and the screw -/

/-- R148: with the defaults a held port is released by 369 kPa and kept by 370 kPa. -/
theorem test_pressure_hold_release :
    let s := { ready .standstill with ports := Vector.replicate 6 { state := .pressureHold } }
    (after (.sampleArrival 24 369) s).ports[0].state = .idle ∧
      (after (.sampleArrival 24 370) s).ports[0].state = .pressureHold := by decide +kernel

/-- R165: the steps of section 10.7 at FACE_TARGET 200, gain 400, step 10. -/
theorem test_auto_steps : autoStep (ready .boring) 235 = 10 ∧ autoStep (ready .boring) 222 = 8 ∧
    autoStep (ready .boring) 195 = -2 ∧ autoStep (ready .boring) 197 = -1 ∧ autoStep (ready .boring) 199 = 0 := by
  decide

/-- R168: MANUAL 150 below the ceiling is kept and answered DONE. -/
theorem test_manual_speed :
    let s := after (.setScrewModeManual (req [1, 0, 150])) (ready .standstill)
    s.screw.manual = 150 ∧ s.link.answer.status = .done ∧ s.outputs[22].value = 0 := by decide +kernel

/-! ### The Field Port and the inputs -/

/-- Section 2.2: the sample that ends a gap of 400 ms. -/
theorem test_last_lapse :
    let s := { ready .standstill with
      channels := State.reset.channels.set 20 ⟨1040, false, ⟨-400, true⟩, 0, false⟩ }
    (after (.sampleArrival 20 1300) s).channels[20] = ⟨1300, true, ⟨500, true⟩, 400, false⟩ := by decide +kernel

/-- R18: a damaged message and one to channel 30 change nothing. -/
theorem test_bad_messages_discarded :
    (after (.sampleMessageDiscarded 20 1000 (sampleCheck 20 1000 ^^^ 1)) State.reset).channels[20].fresh = false ∧
      (after (.sampleMessageDiscarded 20 1000 (sampleCheck 20 1000)) State.reset).channels[20].fresh = true := by
  decide +kernel

/-- R27: the lowest-numbered marked output goes first. -/
theorem test_first_setpoint_message : (after .setpointMessage State.reset).sending = some ⟨0, 0⟩ := by decide +kernel

/-- Section 2.4: LOCK_DOOR set to FALLING with the door closed is no longer asserted, and the door opened raises the
group event. -/
theorem test_door_wired_the_other_way :
    let s := { ready .standstill with inputs := State.reset.inputs.set 2 ⟨.high, .rising, false⟩ }
    let t := after (.setSense (req [2, 2, 1])) s
    let u := after (.lineChange 2 .low) t
    doorOpen s = true ∧ doorOpen t = false ∧ t.latched = 0 ∧ doorOpen u = true ∧ u.groupFlags[0] = true ∧
      u.latched = Notice.inputGroupChange.bit := by decide +kernel

/-- Log 1: what an idle millisecond does before timers expire: the first message begins and the clock moves. -/
theorem test_idle_millisecond : (countDown (beginMessage State.reset)).clock = 1 ∧
    (countDown (beginMessage State.reset)).sending = some ⟨0, 0⟩ := by decide +kernel

/-- Section 11.1: a parameter above its range is stored at the range's end. -/
theorem test_tuning_clamped :
    let s := after (.setParamTuning (req [0x16, 0, 1, 0, 0])) State.reset
    s.params.pMax = 45000 ∧ s.link.answer = ⟨0x10, 0x42, .doneClamped, [0x16, 0, 0, 0xAF, 0xC8]⟩ := by decide +kernel

/-! ### Witnesses: states and operands that meet the hypotheses of the statements -/

/-- R171, R174: FACE_AREA set to 350 460 reads back with the flag, and not set without it. -/
theorem test_get_face_area :
    (after (.getParam (req [0x01])) (ready .boring)).link.answer.results = [0x01, 0x01, 0x00, 0x05, 0x58, 0xFC] ∧
    (after (.getParam (req [0x01])) State.reset).link.answer.results = [0x01, 0x00, 0x00, 0x00, 0x00, 0x00] := by
  decide +kernel

/-- The lines with DI0 LOW, so that STOP is asserted. -/
def stopped (s : State) : State := { s with inputs := s.inputs.set 0 ⟨.low, .low, false⟩ }

/-- Every channel FRESH at a value. -/
def freshAt (v : Nat) (s : State) : State :=
  { s with channels := Vector.replicate 30 ⟨v, true, ⟨500, true⟩, 0, false⟩ }

/-- The span of slot 2 of ring 130, cylinders 4 to 6, commanded RETRACT. -/
def spanRetracted : State :=
  { building with outputs := Vector.ofFn fun o => if 9 ≤ o.val ∧ o.val ≤ 11 then ⟨2, false⟩ else ⟨1, false⟩ }

/-- One cylinder commanded RETRACT and MIN_HOLD 13: the span of slot 2 passes the hold limit. -/
def tightHold : State :=
  { building with outputs := building.outputs.set 12 ⟨2, false⟩, params := { building.params with minHold := 13 } }

/-- Ring 130 PLANNED, and GROUTING with the exposure of an advance of 45 500. -/
def planned130 : Ring := { ring130 with state := .planned }
def grouting130 : Ring :=
  { ring130 with
    state := .grouting, advance := 45500, exposure := 14500, target := 63658335000, voidArea := some 33771
    groutFactor := some 130 }

/-- A part that grouts: ring 130 is GROUTING and port 2 is SERVING, named by entry 3 of the rotation. -/
def grouting : State :=
  { freshAt 100 (ready .standstill) with
    rings := [grouting130], rotation := (Vector.replicate 16 none).set 3 (some 2)
    ports := (Vector.replicate 6 {}).set 2 { state := .serving, timer := ⟨15000, true⟩ }
    outputs := (State.reset.outputs.set 23 ⟨2, true⟩).set 24 ⟨1200, true⟩, pulse := ⟨10000, false⟩ }

/-- The same with no port SERVING. -/
def idleGrout : State := { grouting with ports := Vector.replicate 6 {} }

/-- A part that grouts, with timers that reach zero in the next millisecond: of channel 22, of cylinder 3, commanded
RETRACT and still RETRACTING, of the placement, and of the SERVING port 2. -/
def timersDue : State :=
  { grouting with
    channels :=
      (grouting.channels.set 22 ⟨0, true, ⟨1, true⟩, 0, false⟩).set 3 ⟨9000, true, ⟨500, true⟩, 0, false⟩
    cylinders := grouting.cylinders.set 3 ⟨⟨1, true⟩, .build 130 2⟩, outputs := grouting.outputs.set 8 ⟨2, false⟩
    place := { timer := ⟨1, true⟩ }, ports := (Vector.replicate 6 {}).set 2 { state := .serving, timer := ⟨1, true⟩ } }

theorem witness_IdleMillisecondAgesTimers : State.reset.pending = [] ∧ timersDue.pending = [] ∧
    (timersDue.channels[(22 : Fin 30)].timer = ⟨1, true⟩ ∧ timersDue.channels[(23 : Fin 30)].timer ≠ ⟨1, true⟩) ∧
    (timersDue.cylinders[(3 : Fin 16)].timer = ⟨1, true⟩ ∧ command timersDue 3 = .retract ∧
      timersDue.params.retractedAt < extension timersDue 3) ∧
    timersDue.place.timer = ⟨1, true⟩ ∧ timersDue.ports[(2 : Fin 6)].timer = ⟨1, true⟩ ∧
    timersDue.ports[(2 : Fin 6)].state = .serving ∧ 0 < timersDue.params.blockTime ∧
    (timersDue.sending = none ∧ timersDue.outputs[(0 : Fin 25)].mark = true) ∧
    (after .setpointMessage timersDue).sending ≠ none := by decide +kernel

theorem witness_IdleMillisecondAgesTimers_one : OneServing timersDue ∧
    (∀ p : Fin 6, ¬ (grouting.ports[p].state = .serving ∧ grouting.ports[p].timer.value = 1)) := by
  unfold OneServing; decide +kernel

/-- Channel 23 going STALE in that millisecond: alone, and together with the block timer. -/
theorem witness_IdleMillisecondAgesTimers_stale :
    { grouting with
      channels := grouting.channels.set 23 ⟨9, true, ⟨1, true⟩, 0, false⟩ }.channels[(23 : Fin 30)].timer = ⟨1, true⟩ ∧
    { timersDue with
      channels := timersDue.channels.set 23 ⟨9, true, ⟨1, true⟩, 0, false⟩ }.ports[(2 : Fin 6)].timer = ⟨1, true⟩ := by
  decide +kernel

theorem witness_PowerOnReset : (0xFFF : BitVec 12).getLsbD 0 = true ∧ (0xFFE : BitVec 12).getLsbD 0 = false := by decide

theorem witness_ControllerReset : (req []).args = [] ∧
    (erecting (.working .clearing) none).place.erector = .working .clearing ∧
    (erecting .halted (some .picking)).place.erector.underWay = false ∧
    State.reset.place.erector.underWay = false ∧ stopAsserted State.reset = false ∧
    stopAsserted (stopped State.reset) = true := by decide

theorem witness_RequestFrameRoundTrip : (List.replicate 56 (0 : Byte)).length ≤ 56 := by decide

theorem witness_FramedRequestRunsItsCommand :
    requestOf (.noRequest (req [])) = some (0x00, req []) ∧
      (requestFrame 0x00 0x42 [] ++ List.replicate 59 0x00).length = 64 + (req []).extra ∧
    requestOf (.unknownRequest 0x07 (req (List.replicate 56 0))) = some (0x07, req (List.replicate 56 0)) ∧
      (requestFrame 0x07 0x42 (List.replicate 56 0) ++ [1, 2, 3]).length = 64 := by decide +kernel

theorem witness_FailedRequestsOnlyAnswer :
    (64 ≤ (List.replicate 64 (0 : Byte)).length ∧ frameChecks ((List.replicate 64 0).take 64) = false) ∧
    (List.replicate 63 (0 : Byte)).length < 64 ∧ ((req []).args.length ≤ 56 ∧ indexCount 0x07 = none) ∧
    (requestOf (.readStatus (req [0])) = some (0x01, req [0]) ∧ indexCount 0x01 = some 0 ∧
      (req [0]).args.length ≠ 0) := by decide +kernel

theorem witness_RefusalsChangeNothing : ∃ t, requestOf (.clearTrip (req [])) = some (0x25, req []) ∧
    (0x25 : Byte) ∉ [0x31#8, 0x32#8, 0x33#8, 0x34#8, 0x35#8, 0x36#8, 0x37#8] ∧
    exec (.clearTrip (req [])) State.reset = .next t ∧ t.link.answer.status.refused = true :=
  ⟨_, rfl, by decide, rfl, by decide⟩

theorem witness_ErrorsCaptured : requestOf (.clearTrip (req [])) = some (0x25, req []) ∧
    (0x25 : Byte) ≠ 0x05 ∧ (0x25 : Byte) ≠ 0x06 ∧ (statusOf (.clearTrip (req [])) State.reset).refused = true ∧
    requestOf (.noRequest (req [])) = some (0x00, req []) ∧
    (statusOf (.noRequest (req [])) State.reset).refused = false ∧ State.reset.capture.first = none ∧
    (after (.clearTrip (req [])) State.reset).capture.first.isSome = true ∧ (req [0]).args ≠ [] := by decide

theorem witness_ClearAndEnableNotices : (req [0xFF, 0, 1]).args.length = 3 := by decide

/-- R13: with every notice disabled none is both pending and enabled. -/
theorem witness_PendingSetAndAttention :
    let s : State := { ready .tripped with enabled := 0 }
    ∀ n : Notice, ¬ ((pendingSet s).getLsbD n.number = true ∧ s.enabled.getLsbD n.number = true) := by
  intro s n h
  have off : ∀ k : Fin 24, s.enabled.getLsbD k.val = false := by decide
  cases n <;> exact absurd (h.2.symm.trans (off ⟨_, by decide⟩)) (by decide)

theorem witness_ReadsAnswer : (req [0]).args ≠ [] ∧ (req [29]).args = [29] ∧ (29 : Byte).toNat = (29 : Fin 30).val ∧
    30 ≤ (30 : Byte).toNat ∧ (ready .tripped).cycle ≠ .unconfigured ∧ (5 : Byte).toNat = (5 : Fin 6).val ∧
    (req [6]).args = [6] ∧ 5 < (6 : Byte).toNat ∧ State.reset.cycle = .unconfigured := by decide

theorem witness_CycleAndRecordReads :
    ((15 : Byte).toNat = (15 : Fin 16).val ∧ (3 : Fin 4).val = (15 : Fin 16).val / 4) ∧ 16 ≤ (16 : Byte).toNat ∧
    ((req [0, 130]).args.length = 2 ∧ field (req [0, 130]).args 0 2 ≠ 0 ∧ building.rings = [] ++ ring130 :: [] ∧
      ring130.number = field (req [0, 130]).args 0 2) ∧
    (field (req [0, 0]).args 0 2 = 0) ∧
    (field (req [0, 131]).args 0 2 ≠ 0 ∧ ∀ x ∈ building.rings, x.number ≠ field (req [0, 131]).args 0 2) := by
  decide +kernel

theorem witness_StrokeBegins : (ready .boring).cycle ≠ .standstill ∧
    ((ready .standstill).cycle = .standstill ∧ (ready .standstill).blocking = 0 ∧
      doorOpen (ready .standstill) = false ∧ (ready .standstill).rings = [] ∧
      referenceAtLimit (ready .standstill) = false) ∧
    0 < (after (.toolRead (req [47])) (after (.storageFault 47) (withDisc .standstill disc47))).blocking ∧
    ([planned130] ≠ [] ∧ ∀ x ∈ [planned130], x.state = .planned ∨ x.state = .building) ∧
    referenceAtLimit (freshAt 22000 (ready .standstill)) = true ∧ AccountState.opensAnew .none = true ∧
    AccountState.opensAnew .spent = true := by decide +kernel

theorem witness_StrokeEnds : (ready .boring).cycle = .boring ∧
    ({ ready .standstill with stroke := { state := .opened } }.cycle = .standstill ∧
      { ready .standstill with stroke := { state := .opened } }.stroke.state = .opened) ∧
    ¬ ((ready .building).cycle = .boring ∨
      ((ready .building).cycle = .standstill ∧ (ready .building).stroke.state = .opened)) := by decide

/-- A GROUTING ring 130, and a PLANNED ring of a number after it. -/
def followed (n : Nat) : State :=
  { ready .standstill with rings := [grouting130, { planned130 with number := n }] }

theorem witness_BuildBegins :
    ((followed 131).rings = [grouting130] ++ { planned130 with number := 131 } :: [] ∧
      (∀ y ∈ [grouting130], y.state ≠ .planned) ∧ newestClosed (followed 131) = some grouting130 ∧
      (if grouting130.number = 65535 then 1 else grouting130.number + 1) = 131) ∧
    ((followed 132).rings = [grouting130] ++ { planned130 with number := 132 } :: [] ∧
      newestClosed (followed 132) = some grouting130 ∧
      (if grouting130.number = 65535 then 1 else grouting130.number + 1) ≠ 132) ∧
    ({ ready .standstill with stroke := { state := .closed, advance := 14999 } }.stroke.advance <
        (ready .standstill).params.ringWidth.getD 0 ∧
      referenceAtLimit { ready .standstill with stroke := { state := .closed, advance := 14999 } } = false) ∧
    (∀ y ∈ (ready .standstill).rings, y.state ≠ .planned) ∧ (ready .boring).cycle ≠ .standstill := by decide +kernel

theorem witness_BuildBegins_room : RoomForRing (followed 131) ∧
    RoomForRing { followed 132 with stroke := { state := .closed, advance := 15000 } } :=
  ⟨.inl rfl, .inr ⟨rfl, .inl (by decide)⟩⟩

theorem witness_Interventions : headTurning (ready .standstill) = false ∧
    headTurning { ready .standstill with inputs := State.reset.inputs.set 1 ⟨.high, .any, false⟩ } = true ∧
    (∀ i : Fin 64, (ready .intervention).tools[i].state ≠ .lockedOut) ∧
    (withDisc .intervention { disc47 with state := .lockedOut }).tools[(47 : Fin 64)].state = .lockedOut ∧
    (ready .boring).cycle ≠ .standstill ∧ (ready .boring).cycle ≠ .intervention := by decide +kernel

theorem witness_OverThrustTrips : (33001 : Word16).toNat = 33001 ∧
    (ready .boring).params.pMax + (ready .boring).params.pMax / 10 = 33000 ∧ (ready .boring).cycle ≠ .tripped ∧
    (ready .tripped).cycle = .tripped ∧ (erecting (.working .seating) none).place.erector = .working .seating ∧
    (ready .boring).place.erector = .idle ∧ (erecting .halted none).place.erector = .halted := by decide

theorem witness_OverThrustTrips_law : GroutLaw State.reset ∧ GroutLaw grouting := by
  unfold GroutLaw; decide +kernel

theorem witness_TripCleared : stopAsserted (stopped (ready .tripped)) = true ∧ (ready .tripped).cycle = .tripped ∧
    stopAsserted (ready .tripped) = false ∧ (ready .boring).cycle ≠ .tripped ∧
    { ready .tripped with stroke := { state := .opened } }.stroke.state = .opened := by decide

theorem witness_SetParameters : ParamId.ofCode (field (req [0x00, 0, 0, 0, 0]).args 0 1) = none ∧
    (ParamId.ofCode (field (req [0x03, 0, 0, 0, 0]).args 0 1) = some (.geometry .ringWidth) ∧
      (ready .boring).cycle ≠ .unconfigured ∧ (ready .boring).cycle ≠ .standstill) ∧
    (∃ x ∈ grouting.rings, x.state.isClosed = true) ∧
    (ParamId.ofCode (field (req [0x06, 0, 0, 0x27, 0x10]).args 0 1) = some (.geometry .strokeLimit) ∧
      (ready .standstill).cycle = .standstill ∧ (ready .standstill).stroke.state = .none ∧
      ∀ x ∈ (ready .standstill).rings, x.state.isClosed = false) ∧
    (ParamId.ofCode (field (req [0x16, 0, 0, 0, 0]).args 0 1) = some (.tuning .pMax) ∧
      (tuningRange (ready .boring).params .pMax).1 ≤ (tuningRange (ready .boring).params .pMax).2) ∧
    field (req [0x40, 0, 0, 0, 0]).args 0 1 = 0x40 := by decide +kernel

/-- The upper ends of the ranges of section 11.1, and the last cylinder of each group. -/
theorem witness_SetParameters_takes :
    let p := (ready .standstill).params
    GeometryTakes .faceArea [0x01, 0, 9, 0x27, 0xC0] p { p with faceArea := some 600000 } ∧
    GeometryTakes .voidArea [0x02, 0, 1, 0x86, 0xA0] p { p with voidArea := some 100000 } ∧
    GeometryTakes .ringWidth [0x03, 0, 0, 0x4E, 0x20] p { p with ringWidth := some 20000 } ∧
    GeometryTakes .tailLength [0x04, 0, 0, 0xEA, 0x60] p { p with tailLength := some 60000 } ∧
    GeometryTakes .refCylinders [0x05, 3, 7, 11, 15] p { p with refCylinders := #v[3, 7, 11, 15] } ∧
    GeometryTakes .strokeLimit [0x06, 0, 0, 0x5D, 0xC0] p { p with strokeLimit := 24000 } ∧
    GeometryTakes .minHold [0x07, 0, 0, 0, 13] p { p with minHold := 13 } := by
  refine ⟨⟨by decide, by decide, ?_, rfl⟩, ⟨by decide, by decide, ?_, rfl⟩, ⟨by decide, by decide, rfl⟩,
    ⟨by decide, rfl⟩, ⟨by decide, by decide, rfl⟩, ⟨by decide, by decide, rfl⟩, ⟨by decide, by decide, rfl⟩⟩ <;>
  · intro w h; cases h; decide

/-- One above the range, a void area no smaller than the face, and a reference cylinder of another group. -/
theorem witness_SetParameters_refused :
    let p := (ready .standstill).params
    (∀ p', ¬ GeometryTakes .minHold [0x07, 0, 0, 0, 14] p p') ∧
    (∀ p', ¬ GeometryTakes .voidArea [0x02, 0, 1, 0x86, 0xA0] { p with faceArea := some 100000 } p') ∧
    (∀ p', ¬ GeometryTakes .refCylinders [0x05, 4, 7, 11, 15] p p') :=
  ⟨fun _ h => absurd h.2.1 (by decide), fun _ h => absurd (h.2.2.1 100000 rfl) (by decide),
    fun _ h => absurd (h.1 0) (by decide)⟩

/-- The last mandatory parameter of an UNCONFIGURED part with a tool makes it configured. -/
theorem witness_SetParameters_configures :
    let s := { ready .unconfigured with
      configured := false, positions := 1, params := { (ready .standstill).params with tailLength := none } }
    s.configured = false ∧ s.cycle = .unconfigured ∧
    (after (.setParamGeometry (req [0x04, 0, 0, 0x79, 0x18])) s).configured = true ∧
    (after (.setParamGeometry (req [0x04, 0, 0, 0x79, 0x18])) s).cycle = .standstill := by decide +kernel

theorem witness_ParametersReadBack : (req [0x16, 0, 1, 0, 0]).args.length = 5 ∧
    (req [0x16]).args = (req [0x16, 0, 1, 0, 0]).args.take 1 ∧
    (statusOf (.setParamTuning (req [0x16, 0, 1, 0, 0])) State.reset).refused = false ∧
    ParamId.ofCode (field (req [0xFF]).args 0 1) = none := by decide +kernel

/-- A mandatory parameter set and not set, and an identifier of each class. -/
theorem witness_ParametersReadBack_held : (ready .boring).params.faceArea = some 350460 ∧
    State.reset.params.faceArea = none ∧ ((0x01 : Byte).toNat, .geometry .faceArea) ∈ paramIds ∧
    ((0x2C : Byte).toNat, .tuning .pumpMax) ∈ paramIds ∧ ((0x40 : Byte).toNat, .checkCapture) ∈ paramIds ∧
    paramIds.length = 34 := by decide +kernel

/-- TOOL_LOAD of section 4.8: FITTED, CENTRE, DISC, radius 310, serial 36 904, ring 198, duty 9 112, limits 20 000 and
26 000. -/
def loadArgs : List Byte :=
  [2, 0, 0, 0x01, 0x36, 0x00, 0x90, 0x28, 0x00, 0xC6, 0, 0, 0x23, 0x98, 0, 0, 0x4E, 0x20, 0, 0, 0x65, 0x90]

def loaded : ToolFields :=
  { state := .fitted, radius := 310, serial := some 36904, fittedAt := some 198, duty := 9112, watch := 20000
    wear := 26000, lifetime := 9112 }

theorem witness_ToolsLoaded : loadStates (ready .standstill).cycle = true ∧ Loads loadArgs loaded ∧
    OthersSound 0 (ready .standstill) ∧ SerialFree 0 36904 (ready .standstill) ∧
    (∀ x, ¬ Loads (List.replicate 22 0xFF) x) ∧ loadStates (ready .boring).cycle = false ∧
    (withDisc .standstill { disc47 with serial := some 36904 }).tools[(47 : Fin 64)].serial = some 36904 := by
  refine ⟨rfl, .inr ⟨.centre, .disc, rfl, rfl, by decide, by decide, .inr ⟨by decide, by decide +kernel⟩⟩, ?_, ?_, ?_, rfl,
    by decide +kernel⟩
  · unfold OthersSound; decide +kernel
  · unfold SerialFree; decide +kernel
  · intro x h
    have z : field (List.replicate 22 0xFF) 0 1 ≠ 0 := by decide
    have o : Zone.ofCode (field (List.replicate 22 0xFF) 1 1) = none := by decide
    unfold Loads at h
    rcases h with h | ⟨zone, kind, hz, _⟩
    · exact z h.1
    · rw [o] at hz; cases hz

/-- R37: the load that makes position 47 the only position configures the part, and the load that makes it ABSENT again
takes the part back to UNCONFIGURED. -/
theorem witness_ToolsLoaded_configures :
    let a : State := { ready .unconfigured with configured := false }
    let b : State := { withDisc .standstill disc47 with loadPointer := 47 }
    (a.tools[a.loadPointer].state = .absent ∧ loaded.state ≠ .absent ∧
      (after (.toolLoad (req loadArgs)) a).configured = true ∧
      (after (.toolLoad (req loadArgs)) a).cycle = .standstill) ∧
    (b.tools[b.loadPointer].state ≠ .absent ∧ (after (.toolLoad (req (List.replicate 22 0))) b).configured = false ∧
      (after (.toolLoad (req (List.replicate 22 0))) b).cycle = .unconfigured) := by decide +kernel

theorem witness_StorageFaultFoundByReading : (47 : Byte).toNat = (47 : Fin 64).val ∧
    (after (.storageFault 47) (withDisc .boring disc47)).tools[(47 : Fin 64)].damaged = true ∧
    (withDisc .boring disc47).tools[(47 : Fin 64)].damaged = false ∧ 64 ≤ (64 : Byte).toNat ∧
    (withDisc .standstill disc47).tools[(47 : Fin 64)].state ≠ .absent := by decide +kernel

/-- A LOCKED_OUT position 47 with no tool, and damaged records at 3 and 5. -/
def damagedOthers : State :=
  { withDisc .intervention { state := .lockedOut } with
    tools := ((withDisc .intervention { state := .lockedOut }).tools.set 3
      { Tool.fresh disc47 with damaged := true }).set 5 { Tool.fresh disc47 with damaged := true } }

theorem witness_StorageFaultFoundByReading_requests :
    ((withDisc .intervention disc47).cycle = .intervention ∧
      (after (.storageFault 47) (withDisc .intervention disc47)).tools[(47 : Fin 64)].damaged = true) ∧
    (field [47, 3, 0, 0, 0, 1, 0, 0, 0, 1, 0, 0, 0, 3] 0 1 = (47 : Fin 64).val ∧
      field [47, 3, 0, 0, 0, 1, 0, 0, 0, 1, 0, 0, 0, 3] 1 1 = 3 ∧
      field [47, 3, 0, 0, 0, 1, 0, 0, 0, 1, 0, 0, 0, 3] 2 4 ≤ field [47, 3, 0, 0, 0, 1, 0, 0, 0, 1, 0, 0, 0, 3] 6 4) ∧
    field [47, 0, 0x9D, 0x0B, 0, 212] 1 3 ≠ 0 ∧
    (damagedOthers.tools[(47 : Fin 64)].damaged = false ∧ damagedOthers.tools[(47 : Fin 64)].state = .lockedOut ∧
      damagedOthers.tools[(47 : Fin 64)].serial = none) ∧
    (damagedOthers.tools[(3 : Fin 64)].damaged = true ∧
      ∀ k : Fin 64, k ≠ 47 → k < 3 → damagedOthers.tools[k].damaged = false) := by decide +kernel

theorem witness_StorageFaultFoundByReading_accrual :
    let s : State := { damagedOthers with
      cycle := .boring, angle := ⟨61440, false⟩, outputs := State.reset.outputs.set 0 ⟨1, true⟩ }
    (s.angle.rebase = false ∧ s.angle.prev < 65536 ∧ (61456 : Word16).toNat = (s.angle.prev + 16) % 65536) ∧
    (s.tools[(3 : Fin 64)].state ≠ .suspect ∧ s.tools[(3 : Fin 64)].damaged = true ∧
      ∀ j : Fin 64, j < 3 → s.tools[j].state = .suspect ∨ s.tools[j].damaged = false) ∧
    (s.cycle = .boring ∧ s.outputs[(0 : Fin 25)].value = 1) ∧ { s with cycle := .tripped }.cycle = .tripped ∧
    s.tools[(47 : Fin 64)].damaged = false ∧
    (after (.sampleArrival 20 61456) s).tools[(3 : Fin 64)].state = .suspect := by decide +kernel

theorem witness_ToolAmended :
    let args : List Byte := [47, 3, 0, 0, 0, 1, 0, 0, 0, 2, 0, 0, 0, 3]
    args.length = 14 ∧ field args 0 1 = (47 : Fin 64).val ∧ field args 1 1 = 3 ∧
    (withDisc .standstill disc47).tools[(47 : Fin 64)].damaged = false ∧
    (withDisc .standstill disc47).tools[(47 : Fin 64)].state ≠ .absent ∧
    (withDisc .standstill disc47).tools[(47 : Fin 64)].state ≠ .suspect ∧
    (withDisc .standstill disc47).cycle = .standstill ∧
    (withDisc .standstill disc47).tools[(47 : Fin 64)].serial.isSome = true ∧
    field args 2 4 ≤ field args 6 4 ∧ 64 ≤ field [64, 1] 0 1 ∧ 3 < field [0, 4] 1 1 := by decide +kernel

theorem witness_ToolAmended_refused :
    (field (req (47 :: 1 :: [0, 0, 0, 2, 0, 0, 0, 1] ++ List.replicate 4 0)).args 6 4 <
      field (req (47 :: 1 :: [0, 0, 0, 2, 0, 0, 0, 1] ++ List.replicate 4 0)).args 2 4 ∧
      (ready .boring).cycle ≠ .tripped) ∧
    ((ready .boring).cycle ≠ .standstill ∧ (ready .boring).cycle ≠ .intervention) ∧
    (State.reset.tools[(3 : Fin 64)].state = .absent ∧ State.reset.tools[(3 : Fin 64)].damaged = false) ∧
    (withDisc .standstill { state := .empty }).tools[(47 : Fin 64)].serial = none := by decide +kernel

theorem witness_ToolChanged_refused :
    (withDisc .intervention { state := .suspect }).tools[(47 : Fin 64)].state = .suspect ∧
    (withDisc .intervention disc47).tools[(47 : Fin 64)].state ≠ .lockedOut ∧
    (withDisc .intervention { state := .lockedOut }).tools[(47 : Fin 64)].serial = none ∧
    (withDisc .intervention { disc47 with state := .lockedOut }).tools[(47 : Fin 64)].serial.isSome = true ∧
    63 < field (req [64]).args 0 1 ∧ field (req [47, 0, 0, 0, 0, 0]).args 1 3 = 0 := by decide +kernel

/-- R56, R59, R71: the gauge disc released at its wear limit is WORN, raises TOOL_WORN and sets the gauge-worn flag; the
permit stays OFF. -/
theorem test_release_raises_worn :
    let s := withDisc .intervention { disc47 with state := .lockedOut, duty := 48000 }
    let t := after (.toolRelease (req [47])) s
    t.gaugeWorn = true ∧ t.latched = Notice.toolWorn.bit ∧ t.outputs[(0 : Fin 25)].value = 0 := by decide +kernel

theorem witness_ToolChanged :
    (withDisc .intervention disc47).tools[(47 : Fin 64)].state = .watch ∧
    (withDisc .intervention { disc47 with state := .lockedOut }).tools[(47 : Fin 64)].serial.isSome = true ∧
    (∀ j : Fin 64, (withDisc .intervention { state := .lockedOut }).tools[j].damaged = false) ∧
    (withDisc .intervention { state := .lockedOut }).tools[(47 : Fin 64)].serial = none ∧
    field [47, 0, 0x9D, 0x0B, 0, 212] 0 1 = (47 : Fin 64).val ∧ field [47, 0, 0x9D, 0x0B, 0, 212] 1 3 = 40203 ∧
    (ready .boring).cycle ≠ .intervention := by decide +kernel

theorem witness_ToolChanged_serials : SerialFree 47 40203 (withDisc .intervention { state := .lockedOut }) ∧
    ¬ SerialFree 46 38551 (withDisc .intervention disc47) := by
  constructor
  · unfold SerialFree; decide +kernel
  · intro h; exact h 47 (by decide) (by decide +kernel)

theorem witness_DutyAccrues :
    let s : State := { withDisc .boring disc47 with angle := ⟨61440, false⟩, outputs := State.reset.outputs.set 0 ⟨1, true⟩ }
    (s.angle.rebase = false ∧ s.angle.prev < 65536 ∧ (62464 : Word16).toNat = (s.angle.prev + 1024) % 65536 ∧
      (∀ i : Fin 64, s.tools[i].state ≠ .suspect → s.tools[i].damaged = false) ∧
      s.outputs[(0 : Fin 25)].value = 1 ∧ s.tools[(47 : Fin 64)].serial.isSome = true) ∧
    ((53248 : Word16).toNat + 8192) % 65536 = s.angle.prev ∧
    (withDisc .standstill disc47).outputs[(0 : Fin 25)].value ≠ 1 ∧ State.reset.angle.rebase = true ∧
    8192 < ((20000 : Word16).toNat + 65536 - 65024) % 65536 ∧
    ((20000 : Word16).toNat + 65536 - 65024) % 65536 < 57344 := by decide +kernel

/-- The premises of the group setpoints: sound records, and the gauge-worn flag that follows them. -/
theorem witness_DutyAccrues_law : DutyLaw (withDisc .boring disc47) ∧
    (withDisc .boring disc47).gaugeWorn = anyGaugeWorn (withDisc .boring disc47).tools := by
  unfold DutyLaw ToolFields.Sound; decide +kernel

/-- R56, R93: one revolution takes the gauge disc to WORN, which raises TOOL_WORN and takes the groups to P_DERATE. -/
theorem test_duty_raises_worn :
    let s : State := { withDisc .boring disc47 with
      angle := ⟨61440, false⟩, outputs := State.reset.outputs.set 0 ⟨1, true⟩, quadrants := Vector.replicate 4 30000 }
    let t := after (.sampleArrival 20 0) s
    t.latched = Notice.toolWorn.bit ∧ t.gaugeWorn = true ∧ t.outputs[(1 : Fin 25)].value = 22000 := by decide +kernel

theorem witness_RepeatedAngleSample :
    { ready .boring with angle := ⟨1000, false⟩ }.angle = ⟨(1000 : Word16).toNat, false⟩ := by decide

theorem witness_ThrustSetAndMassWeighed : (List.replicate 8 (0 : Byte)).length = 8 ∧
    (ready .boring).cycle ≠ .unconfigured ∧ State.reset.cycle = .unconfigured ∧ State.reset.mass.prev < 65536 ∧
    State.reset.mass.rebase = true ∧ (after (.sampleArrival 22 30000) State.reset).mass = ⟨30000, false⟩ ∧
    ((62767 : Word16).toNat + 65536 - 30000) % 65536 ≤ 32767 := by decide +kernel

/-- CLEARING for slot 2 of ring 130: of cylinders 4 to 6, commanded RETRACT with owner BUILD, only 6 still stands above
RETRACTED_AT, its retract timer running. -/
def clearing : State :=
  { spanRetracted with
    place := { erector := .working .clearing, current := some 2, timer := ⟨70000, true⟩ }
    channels := spanRetracted.channels.set 6 ⟨510, true, ⟨500, true⟩, 0, false⟩
    cylinders := (spanRetracted.cylinders.set 6 ⟨⟨12000, true⟩, .build 130 2⟩) }

/-- R91, R130: the sample that brings the last cylinder of the span to 480 freezes its timer and ends CLEARING. -/
theorem test_clearing_ends :
    let t := after (.sampleArrival 6 480) clearing
    t.place.erector = .working .positioning ∧ t.place.timer = ⟨90000, true⟩ ∧
    t.outputs[(21 : Fin 25)].value = 20 ∧ t.cylinders[(6 : Fin 16)] = ⟨⟨12000, false⟩, .build 130 2⟩ := by
  decide +kernel

/-- R130: a new RETRACTED_AT of 510 does the same, one of 509 nothing. -/
theorem test_clearing_ends_by_parameter :
    (after (.setParamTuning (req [0x11, 0, 0, 0x01, 0xFE])) clearing).place.erector = .working .positioning ∧
    (after (.setParamTuning (req [0x11, 0, 0, 0x01, 0xFD])) clearing).place = clearing.place := by decide +kernel

theorem witness_AdvanceMeasured_clearing :
    let t := after (.sampleArrival 6 480) clearing
    BuildsAt clearing [] ring130 [] ∧ clearing.place.current = some 2 ∧
    clearing.place.erector = .working .clearing ∧ RetractionReported clearing t ∧
    (∀ i ∈ span ring130.key 2, standsRetracted t i = true) := by
  refine ⟨by unfold BuildsAt; decide +kernel, rfl, rfl, ⟨6, 130, 2, ?_, ?_⟩, ?_⟩ <;> decide +kernel

theorem witness_OneServing : OneServing grouting ∧ OneServing (ready .boring) := by unfold OneServing; decide +kernel

theorem witness_AdvanceMeasured : isReference (ready .boring) 0 = true ∧ isReference (ready .boring) 1 = false ∧
    referencesFresh (freshAt 1203 (ready .boring)) = true ∧ referenceMean (freshAt 1203 (ready .boring)) = 1203 ∧
    (ready .boring).params.strokeLimit ≤ min (22000 : Word16).toNat 24000 := by decide +kernel

theorem witness_RingsExposed : planned130.state = .planned ∧ grouting130.state = .grouting ∧
    0 < (Ring.advanced 31000 15000 1000 { grouting130 with state := .closed, advance := 30001, exposure := 0 }).exposure ∧
    (Ring.advanced 31000 15000 999 { grouting130 with state := .closed, advance := 30001, exposure := 0 }).exposure = 0 := by
  decide

theorem witness_TimersExpire : (freshAt 0 State.reset).channels[(23 : Fin 30)].timer.running = true ∧
    0 < (freshAt 0 State.reset).channels[(23 : Fin 30)].timer.value ∧
    grouting.ports[(2 : Fin 6)].state = .serving ∧ grouting.ports[(2 : Fin 6)].timer = ⟨15000, true⟩ ∧
    State.reset.ports[(2 : Fin 6)].state ≠ .serving := by decide +kernel

theorem witness_RingsPlannedAndRetired :
    (req [0, 131, 0, 14, 2, 1, 3, 0, 4, 5]).args = beBytes 2 131 ++ beBytes 1 RingType.straight.code ++
      beBytes 1 (14 : Fin 16).val ++ ring130.order.toList.map (fun n => BitVec.ofNat 8 n.val) ∧
    ring130.order.toList.Nodup ∧ building.rings.length < 8 ∧
    (building.rings.getLast?.map fun y => if y.number = 65535 then 1 else y.number + 1) = some 131 ∧
    8 ≤ (List.replicate 8 ring130).length ∧ [grouting130] ++ [planned130] = [grouting130, planned130] ∧
    (field (req [0, 131, 0, 14, 0, 1, 2, 3, 4, 4]).args 0 2 ≠ 0 ∧
      ∀ k : Fin 6, field (req [0, 131, 0, 14, 0, 1, 2, 3, 4, 4]).args (4 + k.val) 1 ≠ (5 : Fin 6).val) ∧
    (2 < field [0, 131, 3, 14] 2 1 ∧ 15 < field [0, 131, 0, 16] 3 1 ∧ field (req [0, 0]).args 0 2 = 0) ∧
    planned130.state = .planned ∧ ring130.state ≠ .planned ∧ { grouting130 with state := .grouted }.state = .grouted ∧
    (∀ y ∈ building.rings, y.number ≠ 131) := by decide +kernel

theorem witness_SegmentsQueued : building.cycle ≠ .unconfigured ∧ building.feed.length < 8 ∧
    81204 ∉ heldIdentities building ∧ 81201 ∈ heldIdentities building ∧
    building.place.erector ≠ .working .awaitSegment ∧
    (erecting (.working .awaitSegment) none).place.erector = .working .awaitSegment ∧
    (erecting (.working .awaitSegment) none).place.current = some 2 ∧
    (1 < field [0, 0, 7, 2, 0] 3 1 ∧ 2 < field [0, 0, 7, 1, 3] 4 1 ∧ field (req [0, 0, 0]).args 0 3 = 0) ∧
    8 ≤ (List.replicate 8 (⟨1, .key, .left, false⟩ : Segment)).length ∧
    (building.feed = [] ++ ⟨81201, .ordinary, .straight, false⟩ :: building.feed.tail ∧
      ∀ f ∈ building.feed.tail, f.id ≠ 81201) := by decide +kernel

theorem witness_BuildsAt : BuildsAt building [] ring130 [] ∧
    BuildsAt { building with rings := [gripped] } [] gripped [] := by
  unfold BuildsAt; decide +kernel

/-- The key is the next slot only with the six ordinary slots PLACED (R113). -/
theorem witness_PlacementStarts_key :
    ({ ring130 with
      slots := Vector.ofFn fun k => if k.val < 6 then ⟨.placed, some (k.val + 1)⟩ else {} } : Ring).nextSlot =
        some 6 ∧ gripped.nextSlot = none := by decide +kernel

theorem witness_PlacementStarts : building.place.erector = .idle ∧ ring130.nextSlot = some 2 ∧
    retractCountAfter building (span ring130.key 2) ≤ 16 - building.params.minHold ∧
    16 - tightHold.params.minHold < retractCountAfter tightHold (span ring130.key 2) ∧
    (erecting .halted none).place.erector ≠ .idle ∧ State.reset.cycle ≠ .building := by decide +kernel

theorem witness_PlacementStopped : (erecting (.working .picking) none).place.erector = .working .picking ∧
    building.place.erector = .idle ∧ gripped.slots[(2 : Slot)] = ⟨.onErector, some 81201⟩ ∧
    { building with place := { erector := .halted } }.place.current = none := by decide +kernel

theorem witness_PlacementResumed : (erecting .halted (some .picking)).place.interrupted = some .picking ∧
    ring130.nextSlot = some 2 ∧ (∃ i ∈ span gripped.key 2, command (erecting .halted (some .positioning)) i ≠ .retract) ∧
    retractCountAfter (erecting .halted (some .clearing)) (span gripped.key 2) ≤ 16 - building.params.minHold ∧
    (∀ i ∈ span gripped.key 2, command spanRetracted i = .retract) := by decide +kernel

theorem witness_ErectorEvents :
    Input.lineEvent building.inputs[(3 : Fin 12)] { building.inputs[(3 : Fin 12)] with level := .high } = true ∧
    Input.lineEvent building.inputs[(3 : Fin 12)] { building.inputs[(3 : Fin 12)] with level := .low } = false ∧
    (State.reset.place.erector ≠ .working .picking ∧ State.reset.rings = [] ∧
      State.reset.inputs[(5 : Fin 12)].level ≠ .high) ∧
    [(⟨81201, .ordinary, .straight, true⟩ : Segment)].find? (·.reserved) =
      some ⟨81201, .ordinary, .straight, true⟩ ∧
    gripped.slots[(2 : Slot)].state = .onErector ∧ (gripped.setSlot 2 ⟨.placed, some 81201⟩).nextSlot = some 1 := by
  decide +kernel

theorem witness_GroutSettles : groutAllowed idleGrout = true ∧
    (∀ q : Fin 6, idleGrout.ports[q].state ≠ .serving) ∧ idleGrout.channels[(23 : Fin 30)].fresh = true ∧
    groutAllowed State.reset = false ∧ (∀ q : Fin 6, grouting.ports[q].state = .serving → q = 2) := by decide +kernel

theorem witness_GroutSettles_first : FirstIdle idleGrout 3 2 := by
  refine ⟨by decide +kernel, by decide +kernel, ?_⟩
  have h : ∀ e' : Fin 16, (e' - idleGrout.pointer).val < ((3 : Fin 16) - idleGrout.pointer).val →
      idleGrout.rotation[e'] = none := by decide +kernel
  intro e' lt q hq
  rw [h e' lt] at hq
  cases hq

theorem witness_GroutRequests : grouting.cycle ≠ .unconfigured ∧
    (∀ p q : Fin 6, grouting.ports[p].state = .serving → grouting.ports[q].state = .serving → p = q) ∧
    6 ≤ ((List.replicate 16 (6 : Byte)).getD 0 0).toNat ∧ ((List.replicate 16 (6 : Byte)).getD 0 0).toNat ≠ 255 ∧
    field [5, 0, 99, 0, 91] 0 1 = (5 : Fin 6).val ∧ 5 < field (req [6]).args 0 1 ∧
    State.reset.cycle = .unconfigured := by decide +kernel

theorem witness_PulsesCredited : grouting.pulse.rebase = false ∧ grouting.pulse.prev < 65536 ∧
    (42767 : Word16).toNat = (grouting.pulse.prev + 32767) % 65536 ∧ State.reset.pulse.rebase = true ∧
    32767 < ((42768 : Word16).toNat + 65536 - grouting.pulse.prev) % 65536 ∧
    grouting.rings = [] ++ grouting130 :: [] := by decide +kernel

theorem witness_PortPressureActs : grouting.ports[(2 : Fin 6)].limit ≤ min (400 : Word16).toNat 1000 ∧
    min (369 : Word16).toNat 1000 < ({} : Port).limit - ({} : Port).hysteresis := by decide +kernel

theorem witness_ScrewModeAndLaw : field [0, 0, 0] 0 1 = 0 ∧ field [1, 0, 0] 0 1 = 1 ∧ 1 < field [2, 0, 0] 0 1 ∧
    screwRunning { ready .boring with inputs := State.reset.inputs.set 6 ⟨.high, .any, false⟩ } = true ∧
    (ready .boring).screw.mode = .auto ∧ screwRunning (ready .boring) = false ∧
    (ready .boring).params.screwMin ≤ screwCeiling (ready .boring) := by decide +kernel

theorem witness_DamagedMessagesDiscarded : (0 : Byte) ≠ crc8 ((20 : Byte) :: beBytes 2 1000) ∧
    29 < (30 : Byte).toNat ∧ (29 : Byte).toNat = (29 : Fin 30).val := by decide +kernel

theorem witness_OutputsMarkedAndSent : State.reset.sending = none ∧ State.reset.outputs[(0 : Fin 25)].mark = true ∧
    (after .setpointMessage State.reset).sending ≠ none ∧
    (after (.endStroke (req [])) (ready .boring)).outputs[(1 : Fin 25)].value ≠ (ready .boring).outputs[(1 : Fin 25)].value := by
  decide +kernel

theorem witness_LinesChange : (ready .boring).inputs[(2 : Fin 12)].level ≠ .high ∧
    stopAsserted (ready .boring) = false ∧ stopAsserted (after (.lineChange 0 .low) (ready .boring)) = true ∧
    stopAsserted (stopped (ready .boring)) = true ∧ gateOpen (ready .boring) = false ∧
    gateOpen (after (.lineChange 6 .high) (ready .boring)) = true := by decide +kernel

theorem witness_SenseSet : (req [0, 0, 1]).args =
      beBytes 1 (0 : Fin 12).val ++ beBytes 1 SenseMode.low.code ++ beBytes 1 true.toNat ∧
    (ready .boring).cycle ≠ .tripped ∧ (11 < field [12, 0, 0] 0 1 ∧ 3 < field [0, 4, 0] 1 1 ∧ 1 < field [0, 0, 2] 2 1) ∧
    stopAsserted { ready .boring with inputs := State.reset.inputs.set 0 ⟨.low, .any, false⟩ } = false := by decide +kernel

/-- R29: an erector input in RISING at LOW, set to LOW, raises the event; set to FALLING it does not. -/
theorem witness_SenseSet_erector : State.reset.inputs[(4 : Fin 12)] = ⟨.low, .rising, false⟩ ∧
    (req [4, 0, 1]).args = beBytes 1 (4 : Fin 12).val ++ beBytes 1 SenseMode.low.code ++ beBytes 1 true.toNat ∧
    SenseMode.falling ≠ .low := by decide +kernel

/-- R29, R131: SET_SENSE of AT_SLOT to LOW with its line LOW seats a placement in POSITIONING. -/
theorem test_sense_seats :
    let t := after (.setSense (req [4, 0, 1])) (erecting (.working .positioning) none)
    t.place.erector = .working .seating ∧ t.latched = Notice.inputGroupChange.bit := by decide +kernel

/-- R29, R49: SET_SENSE of STOP to LOW with its line LOW trips; of LOCK_DOOR and SCREW_GATE the door opens and the screw
starts. -/
theorem test_sense_acts :
    let line := fun i : Fin 12 => { ready .boring with inputs := State.reset.inputs.set i ⟨.low, .any, false⟩ }
    (after (.setSense (req [0, 0, 0])) (line 0)).tripCause = some .stop ∧
    doorOpen (after (.setSense (req [2, 0, 0])) (line 2)) = true ∧
    (after (.setSense (req [6, 0, 0])) (line 6)).outputs[(22 : Fin 25)].value = 60 := by decide +kernel

/-! ### Witnesses of the laws: states at work that meet them, with a command in front -/

/-- A state with a command at the front of its queue goes on. -/
theorem witness_step : ∃ t, step (grouting.withFront (.noRequest (req []))) = .next t := ⟨_, rfl⟩

theorem witness_LatchLaw : LatchLaw { building with latched := Notice.slotPlaced.bit } := by
  unfold LatchLaw; decide +kernel

theorem witness_ParamLaw : ParamLaw building := by
  simp [ParamLaw, Params.InRange, building, ready, State.reset, State.powerOn]; decide

theorem witness_ChannelLaw : ChannelLaw (freshAt 1000 building) := by unfold ChannelLaw; decide +kernel

theorem witness_PulseLaw : PulseLaw { grouting with totalPulses := 6, unattributed := 6 } := by
  unfold PulseLaw; decide +kernel

theorem witness_VolumeLaw : VolumeLaw { ready .boring with
    stroke := { state := .opened, advance := 130, litres := 455, remainder := 59800 } } := by
  intro _; decide +kernel

theorem witness_StrokeLaw : StrokeLaw { ready .boring with
    stroke := { state := .opened, advance := 130, litres := 455, remainder := 59800 } } := fun _ => rfl

theorem witness_ExposureLaw : ExposureLaw grouting := by
  intro r hr
  simp only [grouting, List.mem_singleton] at hr
  subst hr
  unfold Ring.Exposed; decide +kernel

theorem witness_DutyLaw : DutyLaw (withDisc .standstill disc47) := by
  unfold DutyLaw ToolFields.Sound; decide +kernel

theorem witness_SerialLaw : SerialLaw (withDisc .standstill disc47) := by unfold SerialLaw; decide +kernel

theorem witness_TableLaw : TableLaw (withDisc .standstill disc47) ∧ PermitLaw (withDisc .standstill disc47) := by
  unfold TableLaw PermitLaw; decide +kernel

theorem witness_SetpointLaw : SetpointLaw (after (.lineChange 0 .low) (ready .boring)) := by
  unfold SetpointLaw; decide +kernel

theorem witness_ScrewLaw : ScrewLaw (ready .boring) ∧ HoldLaw building := by
  unfold ScrewLaw HoldLaw; decide +kernel

theorem witness_GroutLaw : GroutLaw grouting := witness_OverThrustTrips_law.2

theorem witness_BuildLaw : TableLaw { withDisc .building disc47 with rings := [ring130] } ∧
    HoldLaw { withDisc .building disc47 with rings := [ring130] } ∧
    BuildLaw { withDisc .building disc47 with rings := [ring130] } := by
  unfold TableLaw HoldLaw BuildLaw; decide +kernel

/-- CLEARING for slot 2 of ring 130, its segment on the erector, the span commanded RETRACT. -/
def atWork : State :=
  { clearing with
    rings := [gripped], feed := [⟨81207, .key, .straight, false⟩]
    outputs := Vector.ofFn fun o =>
      if 9 ≤ o.val ∧ o.val ≤ 11 then ⟨2, false⟩ else if (5 ≤ o.val ∧ o.val ≤ 20) ∨ o.val = 21 then ⟨1, false⟩
      else ⟨0, false⟩
    cylinders := Vector.ofFn fun i =>
      if 4 ≤ i.val ∧ i.val ≤ 6 then ⟨⟨12000, true⟩, .build 130 2⟩ else ⟨⟨0, false⟩, .advance⟩ }

theorem witness_PlaceLaw : PlaceLaw atWork := by
  have at2 : ∀ P : Ring → Slot → Prop, P gripped 2 → WorksOn atWork P :=
    fun P h => ⟨[], gripped, [], 2, by unfold BuildsAt; decide +kernel, rfl, h⟩
  have onSpan : ∀ i : Fin 16, command atWork i = .retract → i ∈ span gripped.key 2 ∧
      atWork.cylinders[i].owner = .build gripped.number 2 := by decide +kernel
  refine ⟨by decide +kernel, fun _ => ⟨[], gripped, [], by unfold BuildsAt; decide +kernel⟩, by decide +kernel,
    by decide +kernel, by decide +kernel, fun i hi => at2 _ (onSpan i hi), by decide +kernel, at2 _ ⟨rfl, ?_⟩⟩
  decide +kernel

theorem witness_PlaceLaw_idle : PlaceLaw building ∧ building.place.erector = .idle := by
  refine ⟨⟨by decide +kernel, fun h => absurd rfl h, by decide +kernel, by decide +kernel, by decide +kernel, ?_,
    ⟨rfl, .inl (by decide +kernel)⟩⟩, rfl⟩
  intro i hi
  have none : ∀ j : Fin 16, command building j ≠ .retract := by decide +kernel
  exact absurd hi (none i)

theorem witness_SlotLaw : SlotLaw atWork ∧ SlotLaw building := by unfold SlotLaw; decide +kernel

theorem witness_PlaceLaw_beside : BuildLaw atWork ∧ HoldLaw atWork ∧ FeedLaw atWork := by
  unfold BuildLaw HoldLaw FeedLaw; decide +kernel

/-- PICKING, with its entry reserved. -/
theorem witness_FeedLaw_picking : HoldLaw (after (.placeRun (req [])) building) ∧
    FeedLaw (after (.placeRun (req [])) building) ∧
    (after (.placeRun (req [])) building).place.erector = .working .picking := by
  unfold HoldLaw FeedLaw; decide +kernel

/-- Two records across the wrap of the ring number. -/
theorem witness_RegisterLaw : RegisterLaw { building with
    rings := [{ grouting130 with number := 65535 }, { planned130 with number := 1 }] } := by
  refine ⟨by decide +kernel, by decide +kernel, ?_⟩
  intro older x y newer h
  match older, h with
  | [], h => injection h with h1 h2; injection h2 with h2 h3; subst h1; subst h2; rfl
  | [_], h => injection h with h1 h2; injection h2 with h2 h3; cases h3
  | _ :: _ :: older, h => injection h with h1 h2; injection h2 with h2 h3; cases older <;> cases h3

theorem witness_FeedLaw : FeedLaw { building with rings := [ring130.setSlot 2 ⟨.onErector, some 81204⟩] } := by
  unfold FeedLaw; decide +kernel

end Sys2Proof.Tests
end

/-! ## What latches (R8)

`eventSet` is the set of the event notices. What stands latched outside it, `s.latched &&& ~~~eventSet`, is the
same after any operation of any block, since the blocks raise event notices alone: one lemma an operation. -/

namespace Sys2Proof.Machine

/-! ### The shared operations -/

/-- The seven condition notices of the table of section 1.3; every other notice is an event notice. -/
abbrev Notice.conditions : List Notice :=
  [.tripped, .channelStale, .segmentStarved, .thrustDerated, .groutNoPort, .overExcavation, .underExcavation]

theorem Notice.bit_strays {n : Notice} (h : n ∉ Notice.conditions) : n.bit &&& ~~~eventSet = 0#24 := by
  cases n <;> revert h <;> decide

/-- An event notice that joins a set leaves what the set holds outside the event notices. -/
@[simp] theorem join_strays {n : Notice} (set : NoticeSet) (h : n ∉ Notice.conditions) :
    (set ||| n.bit) &&& ~~~eventSet = set &&& ~~~eventSet := by
  rw [BitVec.and_comm, BitVec.and_or_distrib_left, BitVec.and_comm _ n.bit, Notice.bit_strays h, BitVec.or_zero,
    BitVec.and_comm]

/-- What a conditional notice of the table's event notices does outside them. -/
@[simp] theorem raiseIf_strays {n : Notice} (b : Bool) (s : State) (h : n ∉ Notice.conditions) :
    (raiseIf b n s).latched &&& ~~~eventSet = s.latched &&& ~~~eventSet := by
  cases b
  · rfl
  · exact join_strays _ h

@[simp] theorem haltPlacement_strays (st : Step) (s : State) :
    (haltPlacement st s).latched &&& ~~~eventSet = s.latched &&& ~~~eventSet := by
  unfold haltPlacement
  split <;> simp

@[simp] theorem placementOnTrip_strays (s : State) :
    (placementOnTrip s).latched &&& ~~~eventSet = s.latched &&& ~~~eventSet := by
  unfold placementOnTrip
  split <;> simp

@[simp] theorem trip_strays (cause : TripCause) (s : State) :
    (trip cause s).latched &&& ~~~eventSet = s.latched &&& ~~~eventSet := by
  unfold trip
  split <;> simp

@[simp] theorem wearNotices_strays (a b : ToolState) (s : State) :
    (wearNotices a b s).latched &&& ~~~eventSet = s.latched &&& ~~~eventSet := by
  unfold wearNotices
  repeat' split
  all_goals simp

@[simp] theorem toolChanged_strays (i : Fin 64) (old : ToolFields) (s : State) :
    (toolChanged i old s).latched &&& ~~~eventSet = s.latched &&& ~~~eventSet := by
  unfold toolChanged
  dsimp only
  repeat' split
  all_goals simp

@[simp] theorem putTool_strays (i : Fin 64) (x : ToolFields) (s : State) :
    (putTool i x s).latched &&& ~~~eventSet = s.latched &&& ~~~eventSet := by
  simp [putTool]

@[simp] theorem failRecord_strays (i : Fin 64) (s : State) :
    (failRecord i s).latched &&& ~~~eventSet = s.latched &&& ~~~eventSet := by
  unfold failRecord
  dsimp only
  split <;> simp

@[simp] theorem readTool_strays (i : Fin 64) (s : State) :
    (readTool i s).latched &&& ~~~eventSet = s.latched &&& ~~~eventSet := by
  unfold readTool
  split <;> simp

@[simp] theorem endStrokeWith_strays (cause : EndCause) (s : State) :
    (endStrokeWith cause s).latched &&& ~~~eventSet = s.latched &&& ~~~eventSet := by
  unfold endStrokeWith
  dsimp only
  split <;> simp

/-! ### Rings and placement -/

@[simp] theorem raiseGrouted_strays (before : List Ring) (s : State) :
    (raiseGrouted before s).latched &&& ~~~eventSet = s.latched &&& ~~~eventSet := by
  simp [raiseGrouted]

@[simp] theorem advanceRings_strays (delta : Nat) (s : State) :
    (advanceRings delta s).latched &&& ~~~eventSet = s.latched &&& ~~~eventSet := by
  simp [advanceRings]

@[simp] theorem creditVolume_strays (volume : Nat) (s : State) :
    (creditVolume volume s).latched &&& ~~~eventSet = s.latched &&& ~~~eventSet := by
  unfold creditVolume
  split <;> simp

@[simp] theorem closeRing_strays (s : State) :
    (closeRing s).latched &&& ~~~eventSet = s.latched &&& ~~~eventSet := by
  simp [closeRing]

@[simp] theorem segGripped_strays (s : State) :
    (segGripped s).latched &&& ~~~eventSet = s.latched &&& ~~~eventSet := by
  unfold segGripped
  dsimp only
  repeat' split
  all_goals simp

@[simp] theorem afterSlot_strays (s : State) :
    (afterSlot s).latched &&& ~~~eventSet = s.latched &&& ~~~eventSet := by
  unfold afterSlot
  repeat' split
  all_goals simp

@[simp] theorem closure_strays (s : State) :
    (closure s).latched &&& ~~~eventSet = s.latched &&& ~~~eventSet := by
  simp [closure]

@[simp] theorem segBolted_strays (s : State) :
    (segBolted s).latched &&& ~~~eventSet = s.latched &&& ~~~eventSet := by
  unfold segBolted
  dsimp only
  repeat' split
  all_goals simp

@[simp] theorem stepExpired_strays (s : State) :
    (stepExpired s).latched &&& ~~~eventSet = s.latched &&& ~~~eventSet := by
  simp [stepExpired]

/-! ### Samples -/

@[simp] theorem accountIncrement_strays (delta mean : Nat) (s : State) :
    (accountIncrement delta mean s).latched &&& ~~~eventSet = s.latched &&& ~~~eventSet := by
  simp [accountIncrement]

@[simp] theorem rejectJump_strays (mean : Nat) (s : State) :
    (rejectJump mean s).latched &&& ~~~eventSet = s.latched &&& ~~~eventSet := by
  simp [rejectJump]

@[simp] theorem measure_strays (mean : Nat) (s : State) :
    (measure mean s).latched &&& ~~~eventSet = s.latched &&& ~~~eventSet := by
  unfold measure
  repeat' split
  all_goals simp

@[simp] theorem extensionSample_strays (i : Fin 16) (value : Nat) (before s : State) :
    (extensionSample i value before s).latched &&& ~~~eventSet = s.latched &&& ~~~eventSet := by
  unfold extensionSample
  dsimp only
  repeat' split
  all_goals simp

@[simp] theorem groupPressureSample_strays (value : Nat) (s : State) :
    (groupPressureSample value s).latched &&& ~~~eventSet = s.latched &&& ~~~eventSet := by
  unfold groupPressureSample
  split <;> simp

@[simp] theorem massSample_strays (c : Nat) (s : State) :
    (massSample c s).latched &&& ~~~eventSet = s.latched &&& ~~~eventSet := by
  unfold massSample
  dsimp only
  repeat' split
  all_goals simp

@[simp] theorem accrueRecord_strays (n : Nat) (i : Fin 64) (s : State) :
    (accrueRecord n s i).latched &&& ~~~eventSet = s.latched &&& ~~~eventSet := by
  unfold accrueRecord
  repeat' split
  all_goals simp

@[simp] theorem accrueAll_strays (n : Nat) (s : State) :
    (accrueAll n s).latched &&& ~~~eventSet = s.latched &&& ~~~eventSet :=
  accrueAll_induct (P := fun t => t.latched &&& ~~~eventSet = s.latched &&& ~~~eventSet) n
    (fun t i h => by rwa [accrueRecord_strays]) s rfl

@[simp] theorem readOthers_strays (i : Fin 64) (s : State) :
    (readOthers i s).latched &&& ~~~eventSet = s.latched &&& ~~~eventSet :=
  readOthers_induct (P := fun t => t.latched &&& ~~~eventSet = s.latched &&& ~~~eventSet) i
    (fun t j h => by rwa [readTool_strays]) s rfl

@[simp] theorem judgeBreach_strays (n : Nat) (s : State) :
    (judgeBreach n s).latched &&& ~~~eventSet = s.latched &&& ~~~eventSet := by
  unfold judgeBreach
  split <;> simp

@[simp] theorem angleSample_strays (c : Nat) (s : State) :
    (angleSample c s).latched &&& ~~~eventSet = s.latched &&& ~~~eventSet := by
  unfold angleSample
  dsimp only
  repeat' split
  all_goals simp

@[simp] theorem portPressureSample_strays (p : Fin 6) (value : Nat) (s : State) :
    (portPressureSample p value s).latched &&& ~~~eventSet = s.latched &&& ~~~eventSet := by
  unfold portPressureSample
  dsimp only
  repeat' split
  all_goals simp

@[simp] theorem pulseSample_strays (c : Nat) (first : Bool) (s : State) :
    (pulseSample c first s).latched &&& ~~~eventSet = s.latched &&& ~~~eventSet := by
  unfold pulseSample
  dsimp only
  repeat' split
  all_goals simp

@[simp] theorem deliver_strays (c : Fin 30) (value : Nat) (first : Bool) (before s : State) :
    (deliver c value first before s).latched &&& ~~~eventSet = s.latched &&& ~~~eventSet := by
  unfold deliver
  repeat' split
  all_goals simp

@[simp] theorem arrive_strays (c : Fin 30) (v : Nat) (s : State) :
    (arrive c v s).latched &&& ~~~eventSet = s.latched &&& ~~~eventSet := by
  simp [arrive]

/-! ### Timers and inputs -/

@[simp] theorem retractExpired_strays (i : Fin 16) (s : State) :
    (retractExpired i s).latched &&& ~~~eventSet = s.latched &&& ~~~eventSet := by
  simp [retractExpired]

@[simp] theorem blockExpired_strays (p : Fin 6) (s : State) :
    (blockExpired p s).latched &&& ~~~eventSet = s.latched &&& ~~~eventSet := by
  simp [blockExpired]

@[simp] theorem groupEvent_strays (i : Fin 12) (s : State) :
    (groupEvent i s).latched &&& ~~~eventSet = s.latched &&& ~~~eventSet := by
  unfold groupEvent
  split <;> simp

@[simp] theorem useInput_strays (i : Fin 12) (event : Bool) (before s : State) :
    (useInput i event before s).latched &&& ~~~eventSet = s.latched &&& ~~~eventSet := by
  unfold useInput
  repeat' split
  all_goals simp

@[simp] theorem takeInput_strays (i : Fin 12) (input : Input) (event : Bool) (s : State) :
    (takeInput i input event s).latched &&& ~~~eventSet = s.latched &&& ~~~eventSet := by
  unfold takeInput
  cases event <;> simp

end Sys2Proof.Machine

/-! ## Parameters in range (section 11.1, R163, R173) -/

namespace Sys2Proof.Machine

/-- The ranges of the geometry parameters (R172). -/
def Params.GeometryInRange (p : Params) : Prop :=
  (∀ v, p.faceArea = some v → 50000 ≤ v ∧ v ≤ 600000) ∧ (∀ v, p.voidArea = some v → 1000 ≤ v ∧ v ≤ 100000) ∧
    (∀ v w, p.faceArea = some v → p.voidArea = some w → w < v) ∧
    (∀ v, p.ringWidth = some v → 8000 ≤ v ∧ v ≤ 20000) ∧ (∀ v, p.tailLength = some v → v ≤ 60000) ∧
    (∀ g : Fin 4, groupOf p.refCylinders[g] = g) ∧ (10000 ≤ p.strokeLimit ∧ p.strokeLimit ≤ 24000) ∧
    (6 ≤ p.minHold ∧ p.minHold ≤ 13)

/-- The ranges of the tuning parameters (R163, R173). -/
def Params.TuningInRange (p : Params) : Prop :=
  (10 ≤ p.jumpLimit ∧ p.jumpLimit ≤ 2000) ∧ p.retractedAt ≤ 2000 ∧
    (1000 ≤ p.retractTime ∧ p.retractTime ≤ 300000) ∧
    (1000 ≤ p.erectorStepTime ∧ p.erectorStepTime ≤ 300000) ∧ (1000 ≤ p.blockTime ∧ p.blockTime ≤ 300000) ∧
    (20 ≤ p.staleTime ∧ p.staleTime ≤ 5000) ∧ (1000 ≤ p.pMax ∧ p.pMax ≤ 45000) ∧ p.pDerate ≤ 45000 ∧
    p.holdPressure ≤ 45000 ∧ (100 ≤ p.groundFactor ∧ p.groundFactor ≤ 4000) ∧
    (1000 ≤ p.density ∧ p.density ≤ 3000) ∧ p.balanceStart ≤ 15000 ∧
    (500 ≤ p.balanceHigh ∧ p.balanceHigh ≤ 2000) ∧ (500 ≤ p.balanceLow ∧ p.balanceLow ≤ 2000) ∧
    p.faceTarget ≤ 1000 ∧ p.screwMin ≤ p.screwMax ∧ p.screwMin ≤ p.screwBalanceCeiling ∧ p.screwMax ≤ 250 ∧
    p.screwBalanceCeiling ≤ 250 ∧ p.screwStart ≤ 250 ∧ p.screwGain ≤ 10000 ∧
    (1 ≤ p.screwStep ∧ p.screwStep ≤ 50) ∧ (100 ≤ p.groutFactor ∧ p.groutFactor ≤ 250) ∧
    (10 ≤ p.pulseWeight ∧ p.pulseWeight ≤ 1000) ∧ (500 ≤ p.shotVolume ∧ p.shotVolume ≤ 50000) ∧
    p.groutRate ≤ 4000 ∧ p.pumpMax ≤ 4000

theorem Params.inRange_iff (p : Params) : p.InRange ↔ p.GeometryInRange ∧ p.TuningInRange := by
  simp only [Params.InRange, Params.GeometryInRange, Params.TuningInRange, and_assoc]

/-! ### Geometry parameters -/

/-- A reference byte in its group's quarter names a cylinder of that group. -/
theorem refArg_group {bytes : List Byte} {refs : Vector (Fin 16) 4} (h : refArg bytes = some refs) (g : Fin 4) :
    groupOf refs[g] = g := by
  unfold refArg at h
  split at h
  · next hg =>
    obtain rfl := Option.some.inj h
    have quarter : (bytes.getD g 0).toNat / 4 = g.val := by
      simpa using List.all_eq_true.mp hg g.val (List.mem_range.mpr g.isLt)
    ext
    simp only [groupOf, Fin.getElem_fin, Vector.getElem_ofFn, Fin.ofNat]
    omega
  · cases h

theorem storeGeometry_inRange {g : Geometry} {bytes : List Byte} {p q : Params}
    (h : storeGeometry g bytes p = some q) (hp : p.InRange) : q.InRange := by
  rw [Params.inRange_iff] at hp ⊢
  obtain ⟨⟨hface, hvoid, hover, hwidth, htail, href, hstroke, hhold⟩, htuning⟩ := hp
  cases g with
  | faceArea =>
    obtain ⟨⟨low, high, above⟩, rfl⟩ := by simpa [storeGeometry] using h
    refine ⟨⟨?_, hvoid, ?_, hwidth, htail, href, hstroke, hhold⟩, htuning⟩
    · rintro v ⟨rfl⟩
      exact ⟨low, high⟩
    · rintro v w ⟨rfl⟩ hw
      simpa [show p.voidArea = some w from hw] using above
  | voidArea =>
    obtain ⟨⟨low, high, below⟩, rfl⟩ := by simpa [storeGeometry] using h
    refine ⟨⟨hface, ?_, ?_, hwidth, htail, href, hstroke, hhold⟩, htuning⟩
    · rintro v ⟨rfl⟩
      exact ⟨low, high⟩
    · rintro v w hv ⟨rfl⟩
      simpa [show p.faceArea = some v from hv] using below
  | ringWidth =>
    obtain ⟨range, rfl⟩ := by simpa [storeGeometry] using h
    refine ⟨⟨hface, hvoid, hover, ?_, htail, href, hstroke, hhold⟩, htuning⟩
    rintro v ⟨rfl⟩
    exact range
  | tailLength =>
    obtain ⟨range, rfl⟩ := by simpa [storeGeometry] using h
    refine ⟨⟨hface, hvoid, hover, hwidth, ?_, href, hstroke, hhold⟩, htuning⟩
    rintro v ⟨rfl⟩
    exact range
  | refCylinders =>
    obtain ⟨refs, hrefs, rfl⟩ := by simpa [storeGeometry] using h
    exact ⟨⟨hface, hvoid, hover, hwidth, htail, refArg_group hrefs, hstroke, hhold⟩, htuning⟩
  | strokeLimit =>
    obtain ⟨range, rfl⟩ := by simpa [storeGeometry] using h
    exact ⟨⟨hface, hvoid, hover, hwidth, htail, href, range, hhold⟩, htuning⟩
  | minHold =>
    obtain ⟨range, rfl⟩ := by simpa [storeGeometry] using h
    exact ⟨⟨hface, hvoid, hover, hwidth, htail, href, hstroke, range⟩, htuning⟩

/-! ### Tuning parameters -/

theorem storeTuning_geometry (p : Params) (k : Tuning) (v : Nat) :
    (storeTuning p k v).GeometryInRange ↔ p.GeometryInRange := by
  cases k <;> rfl

/-- A clamped value takes its parameter's range, and the range of no other parameter is lost by it. -/
theorem storeTuning_inRange (k : Tuning) (v : Nat) {p : Params} (hp : p.InRange) :
    (storeTuning p k (clampTo (tuningRange p k).1 (tuningRange p k).2 v)).InRange := by
  rw [Params.inRange_iff, storeTuning_geometry]
  obtain ⟨hgeometry, htuning⟩ := p.inRange_iff.mp hp
  refine ⟨hgeometry, ?_⟩
  unfold Params.TuningInRange at htuning ⊢
  cases k <;> simp only [storeTuning, tuningRange, clampTo] <;> omega

theorem groutRate_inRange (v : Nat) {p : Params} (hp : p.InRange) :
    Params.InRange { p with groutRate := min v p.pumpMax } := by
  rw [Params.inRange_iff] at hp ⊢
  obtain ⟨hgeometry, htuning⟩ := hp
  refine ⟨hgeometry, ?_⟩
  unfold Params.TuningInRange at htuning ⊢
  dsimp only
  omega

end Sys2Proof.Machine

/-! ## What a request's owner can do (R1, R5, R14)

An owner's outcome is orderly when it is a refusal that makes none of the request's changes and carries no results,
or leaves what no owner changes: the queue, the error capture, the channels, the notices that are no events, and the
parameters in their ranges. READ_ERROR_CAPTURE and CONTROLLER_RESET, which empty the capture, and the tool requests,
whose findings stand in a refusal too (R74), are treated apart. -/

namespace Sys2Proof.Machine

/-- What the owners of requests leave as it is, and the ranges they keep. -/
def Kept (s u : State) : Prop :=
  u.pending = s.pending ∧ u.capture = s.capture ∧ u.channels = s.channels ∧
    (LatchLaw s → LatchLaw u) ∧ (ParamLaw s → ParamLaw u)

@[simp] theorem Kept.refl (s : State) : Kept s s := ⟨rfl, rfl, rfl, id, id⟩

/-- A refusal carries no results (R5, R16), and what its owner leaves is kept. -/
def Taken.Sound (s : State) (t : Taken) : Prop := Kept s t.state ∧ (t.status.refused = true → t.results = [])

/-- A sound outcome whose refusal makes no change (R5). -/
def Taken.Orderly (s : State) (t : Taken) : Prop := t.Sound s ∧ (t.status.refused = true → t.state = s)

@[simp] theorem sound_refuse (st : Status) (s u : State) : (refuse st u).Sound s ↔ Kept s u := by
  simp [Taken.Sound, refuse]

@[simp] theorem orderly_refuse (st : Status) (s : State) : (refuse st s).Orderly s := by
  simp [Taken.Orderly, refuse, Taken.Sound]

@[simp] theorem sound_doneWith (results : List Byte) (s u : State) : (doneWith results u).Sound s ↔ Kept s u := by
  simp [Taken.Sound, doneWith, Status.refused, Status.code]

@[simp] theorem orderly_doneWith (results : List Byte) (s u : State) :
    (doneWith results u).Orderly s ↔ Kept s u := by
  simp [Taken.Orderly, doneWith, Taken.Sound, Status.refused, Status.code]

@[simp] theorem orderly_doneOrClamped (clamped : Bool) (results : List Byte) (s u : State) :
    (doneOrClamped clamped results u).Orderly s ↔ Kept s u := by
  cases clamped <;> simp [Taken.Orderly, doneOrClamped, Taken.Sound, Status.refused, Status.code]

@[simp] theorem orderly_accepted (s u : State) : Taken.Orderly s ⟨u, .accepted, []⟩ ↔ Kept s u := by
  simp [Taken.Orderly, Taken.Sound, Status.refused, Status.code]

/-! ### Owners -/

def Handler.Sound (f : Handler) : Prop := ∀ args s, (f args s).Sound s

def Handler.Orderly (f : Handler) : Prop := ∀ args s, (f args s).Orderly s

theorem Handler.Orderly.sound {f : Handler} (h : f.Orderly) : f.Sound := fun args s => (h args s).1

theorem orderly_inStates {ok : Cycle → Bool} {f : Handler} (h : f.Orderly) : (inStates ok f).Orderly := by
  intro args s
  unfold inStates
  split
  · exact h args s
  · exact orderly_refuse _ _

theorem orderly_ifConfigured {f : Handler} (h : f.Orderly) : (ifConfigured f).Orderly := by
  intro args s
  unfold ifConfigured
  split
  · exact orderly_refuse _ _
  · exact h args s

theorem sound_inStates {ok : Cycle → Bool} {f : Handler} (h : f.Sound) : (inStates ok f).Sound := by
  intro args s
  unfold inStates
  split
  · exact h args s
  · simp

/-! ### The port's own requests and the reads -/

@[simp] theorem orderly_noRequest : noRequest.Orderly := by
  intro args s
  simp [noRequest]

@[simp] theorem orderly_readNotices : readNotices.Orderly := by
  intro args s
  simp [readNotices]

/-- A notice that is cleared was latched, so clearing latches no other. -/
theorem latchLaw_and {s : State} (h : LatchLaw s) (named : NoticeSet) :
    LatchLaw { s with latched := s.latched &&& named } := by
  unfold LatchLaw at h ⊢
  rw [BitVec.and_assoc, BitVec.and_comm named, ← BitVec.and_assoc, h]
  exact BitVec.zero_and

@[simp] theorem orderly_clearNotices : clearNotices.Orderly := by
  intro args s
  simp only [clearNotices, orderly_doneWith]
  exact ⟨rfl, rfl, rfl, fun h => latchLaw_and h _, id⟩

@[simp] theorem orderly_setNoticeEnable : setNoticeEnable.Orderly := by
  intro args s
  simp only [setNoticeEnable, orderly_doneWith]
  exact ⟨rfl, rfl, rfl, id, id⟩

@[simp] theorem orderly_readStatus : readStatus.Orderly := by
  intro args s
  simp [readStatus]

@[simp] theorem orderly_getParam : getParam.Orderly := by
  intro args s
  unfold getParam
  dsimp only
  split <;> simp

@[simp] theorem orderly_readInputs : readInputs.Orderly := by
  intro args s
  simp only [readInputs, orderly_doneWith]
  exact ⟨rfl, rfl, rfl, id, id⟩

@[simp] theorem orderly_readChannel : readChannel.Orderly := by
  intro args s
  unfold readChannel
  split <;> simp

@[simp] theorem orderly_readCylinder : readCylinder.Orderly := by
  intro args s
  unfold readCylinder
  split <;> simp

@[simp] theorem orderly_readStroke : readStroke.Orderly := by
  intro args s
  simp [readStroke]

@[simp] theorem orderly_readBalance : readBalance.Orderly := by
  intro args s
  simp [readBalance]

@[simp] theorem orderly_readRing : readRing.Orderly := by
  intro args s
  unfold readRing
  dsimp only
  repeat' split
  all_goals simp

@[simp] theorem orderly_readFeed : readFeed.Orderly := by
  refine orderly_ifConfigured fun args s => ?_
  simp

@[simp] theorem orderly_readPort : readPort.Orderly := by
  refine orderly_ifConfigured fun args s => ?_
  split <;> simp

@[simp] theorem orderly_readGrout : readGrout.Orderly := by
  refine orderly_ifConfigured fun args s => ?_
  simp

/-! ### Parameters and inputs -/

theorem orderly_setGeometry (id : Nat) (g : Geometry) (bytes : List Byte) (s : State) :
    (setGeometry id g bytes s).Orderly s := by
  unfold setGeometry
  split
  · simp
  · split
    · simp
    · next p hp =>
      have range : s.params.InRange → p.InRange := storeGeometry_inRange hp
      split <;> simpa [Kept, LatchLaw, ParamLaw] using range

theorem actOnTuning_frame (k : Tuning) (before s : State) :
    (actOnTuning k before s).pending = s.pending ∧ (actOnTuning k before s).capture = s.capture ∧
    (actOnTuning k before s).channels = s.channels ∧ (actOnTuning k before s).latched = s.latched ∧
    (actOnTuning k before s).params = s.params := by
  cases k <;> simp [actOnTuning]

theorem orderly_setTuning (id : Nat) (k : Tuning) (v : Nat) (s : State) : (setTuning id k v s).Orderly s := by
  simp only [setTuning, orderly_doneOrClamped, Kept, LatchLaw, ParamLaw, actOnTuning_frame, true_and]
  exact ⟨fun h => h, storeTuning_inRange k v⟩

theorem orderly_emptyCheckCapture (id v : Nat) (s : State) : (emptyCheckCapture id v s).Orderly s := by
  unfold emptyCheckCapture
  split <;> simp [Kept, LatchLaw, ParamLaw]

@[simp] theorem orderly_setParam : setParam.Orderly := by
  intro args s
  unfold setParam
  dsimp only
  split
  · exact orderly_refuse _ _
  · exact orderly_setGeometry _ _ _ _
  · exact orderly_setTuning _ _ _ _
  · exact orderly_emptyCheckCapture _ _ _

@[simp] theorem orderly_setSense : setSense.Orderly := by
  refine orderly_inStates fun args s => ?_
  split <;> simp [Kept, LatchLaw, ParamLaw]

/-! ### The machine cycle -/

@[simp] theorem orderly_beginStroke : beginStroke.Orderly := by
  refine orderly_inStates fun args s => ?_
  repeat' split
  all_goals simp [Kept, LatchLaw, ParamLaw, strokeBegun]

@[simp] theorem orderly_endStroke : endStroke.Orderly := by
  intro args s
  unfold endStroke
  split <;> simp [Kept, LatchLaw, ParamLaw]

@[simp] theorem orderly_beginBuild : beginBuild.Orderly := by
  refine orderly_inStates fun args s => ?_
  repeat' split
  all_goals simp [Kept, LatchLaw, ParamLaw, buildBegun]

@[simp] theorem orderly_enterIntervention : enterIntervention.Orderly := by
  refine orderly_inStates fun args s => ?_
  split <;> simp [Kept, LatchLaw, ParamLaw]

@[simp] theorem orderly_leaveIntervention : leaveIntervention.Orderly := by
  refine orderly_inStates fun args s => ?_
  split <;> simp [Kept, LatchLaw, ParamLaw]

theorem kept_tripCleared (s : State) : Kept s (tripCleared s) := by
  unfold tripCleared
  dsimp only
  split <;> simp [Kept, LatchLaw, ParamLaw]

@[simp] theorem orderly_clearTrip : clearTrip.Orderly := by
  refine orderly_inStates fun args s => ?_
  split <;> simp [kept_tripCleared]

@[simp] theorem orderly_setThrust : setThrust.Orderly := by
  refine orderly_ifConfigured fun args s => ?_
  simp [Kept, LatchLaw, ParamLaw]

/-! ### Rings, the Feed Queue and placement -/

@[simp] theorem orderly_ringPlan : ringPlan.Orderly := by
  refine orderly_inStates fun args s => ?_
  dsimp only
  repeat' split
  all_goals simp [Kept, LatchLaw, ParamLaw]

@[simp] theorem orderly_ringCancel : ringCancel.Orderly := by
  refine orderly_inStates fun args s => ?_
  split <;> simp [Kept, LatchLaw, ParamLaw]

@[simp] theorem orderly_ringRetire : ringRetire.Orderly := by
  refine orderly_inStates fun args s => ?_
  dsimp only
  repeat' split
  all_goals simp [Kept, LatchLaw, ParamLaw]

@[simp] theorem orderly_segmentEnqueue : segmentEnqueue.Orderly := by
  refine orderly_ifConfigured fun args s => ?_
  dsimp only
  repeat' split
  all_goals simp [Kept, LatchLaw, ParamLaw]

@[simp] theorem orderly_segmentWithdraw : segmentWithdraw.Orderly := by
  refine orderly_ifConfigured fun args s => ?_
  dsimp only
  repeat' split
  all_goals simp [Kept, LatchLaw, ParamLaw]

@[simp] theorem orderly_placeStart (start : Placement → Placement) : (placeStart start).Orderly := by
  refine orderly_inStates fun args s => ?_
  repeat' split
  all_goals simp [Kept, LatchLaw, ParamLaw]

@[simp] theorem orderly_erectorHold : erectorHold.Orderly := by
  refine orderly_inStates fun args s => ?_
  simp [Kept, LatchLaw, ParamLaw]

@[simp] theorem orderly_erectorAbort : erectorAbort.Orderly := by
  refine orderly_inStates fun args s => ?_
  split <;> simp [Kept, LatchLaw, ParamLaw]

theorem orderly_resumeClearing (r : Ring) (slot : Slot) (s : State) : (resumeClearing r slot s).Orderly s := by
  unfold resumeClearing
  split <;> simp [Kept, LatchLaw, ParamLaw, clearInterrupted]

theorem orderly_resumeHeld (st : Step) (r : Ring) (slot : Slot) (s : State) : (resumeHeld st r slot s).Orderly s := by
  cases st with
  | awaitSegment => exact orderly_refuse _ _
  | picking => exact orderly_refuse _ _
  | clearing => exact orderly_resumeClearing r slot s
  | positioning =>
    simp only [resumeHeld]
    split
    · simp [Kept, LatchLaw, ParamLaw, clearInterrupted]
    · exact orderly_resumeClearing r slot s
  | seating => simp [resumeHeld, Kept, LatchLaw, ParamLaw, clearInterrupted]

@[simp] theorem orderly_erectorResume : erectorResume.Orderly := by
  refine orderly_inStates fun args s => ?_
  repeat' split
  all_goals simp [Kept, LatchLaw, ParamLaw, clearInterrupted, orderly_resumeHeld]

@[simp] theorem orderly_erectorReturn : erectorReturn.Orderly := by
  refine orderly_inStates fun args s => ?_
  repeat' split
  all_goals simp [Kept, LatchLaw, ParamLaw, placeReturned, returnSegment]

/-! ### Grouting and the screw -/

@[simp] theorem orderly_setRotation : setRotation.Orderly := by
  refine orderly_ifConfigured fun args s => ?_
  dsimp only
  repeat' split
  all_goals simp [Kept, LatchLaw, ParamLaw]

@[simp] theorem orderly_setPortRequest : setPortRequest.Orderly := by
  refine orderly_ifConfigured fun args s => ?_
  dsimp only
  split <;> simp [Kept, LatchLaw, ParamLaw]

@[simp] theorem orderly_movePort (acts : PortState → Bool) (st : PortState) : (movePort acts st).Orderly := by
  refine orderly_ifConfigured fun args s => ?_
  repeat' split
  all_goals simp [Kept, LatchLaw, ParamLaw]

@[simp] theorem orderly_groutRate : groutRate.Orderly := by
  refine orderly_ifConfigured fun args s => ?_
  simpa [Kept, LatchLaw, ParamLaw, storeGroutRate] using groutRate_inRange _

@[simp] theorem orderly_setScrewMode : setScrewMode.Orderly := by
  intro args s
  unfold setScrewMode setManual
  dsimp only
  repeat' split
  all_goals simp [Kept, LatchLaw, ParamLaw, setAuto]

/-! ### Tools: what a refusal leaves is kept, and carries no results (R74) -/

theorem Kept.trans {s u w : State} (h : Kept s u) (g : Kept u w) : Kept s w := by
  obtain ⟨hq, hc, hch, hl, hp⟩ := h
  obtain ⟨gq, gc, gch, gl, gp⟩ := g
  exact ⟨gq.trans hq, gc.trans hc, gch.trans hch, gl ∘ hl, gp ∘ hp⟩

theorem kept_readTool (i : Fin 64) (s : State) : Kept s (readTool i s) := by
  simp [Kept, LatchLaw, ParamLaw]

theorem kept_readOthers (i : Fin 64) (s : State) : Kept s (readOthers i s) := by
  simp [Kept, LatchLaw, ParamLaw]

theorem kept_putTool (i : Fin 64) (x : ToolFields) (s : State) : Kept s (putTool i x s) := by
  simp [Kept, LatchLaw, ParamLaw]

theorem kept_loadAtPointer (x : ToolFields) (s : State) : Kept s (loadAtPointer x s) := by
  simp [Kept, LatchLaw, ParamLaw, loadAtPointer]

/-- What is judged sound after the read is sound before it. -/
theorem sound_onRecord {judge : ToolFields → State → Taken} (h : ∀ t s, (judge t s).Sound s) (i : Fin 64)
    (s : State) : (onRecord i judge s).Sound s := by
  obtain ⟨kept, results⟩ := h (readTool i s).tools[i].toToolFields (readTool i s)
  exact ⟨(kept_readTool i s).trans kept, results⟩

@[simp] theorem orderly_setLoadPointer : setLoadPointer.Orderly := by
  refine orderly_inStates fun args s => ?_
  split <;> simp [Kept, LatchLaw, ParamLaw]

theorem sound_toolLoad : toolLoad.Sound := by
  refine sound_inStates fun args s => ?_
  dsimp only
  repeat' split
  · simp
  · simp [kept_loadAtPointer]
  · simp [kept_readOthers]
  · simpa using (kept_readOthers _ s).trans (kept_loadAtPointer _ _)

theorem sound_toolRead : toolRead.Sound := by
  intro args s
  unfold toolRead
  split
  · simp
  · exact sound_onRecord (fun _ _ => by simp) _ s

theorem sound_toolAmend : toolAmend.Sound := by
  intro args s
  refine sound_inStates (fun _ s => ?_) args s
  split
  · simp
  · split
    · simp
    · refine sound_onRecord (fun t s => ?_) _ s
      split <;> simp [kept_putTool]

theorem sound_changeTool (acts : ToolFields → Bool) (change : ToolFields → ToolFields) :
    (changeTool acts change).Sound := by
  refine sound_inStates fun args s => ?_
  split
  · simp
  · refine sound_onRecord (fun t s => ?_) _ s
    split <;> simp [kept_putTool]

theorem sound_toolFit : toolFit.Sound := by
  refine sound_inStates fun args s => ?_
  dsimp only
  split
  · simp
  · split
    · simp
    · refine sound_onRecord (fun t s => ?_) _ s
      repeat' split
      · simp [kept_readOthers]
      · simpa using (kept_readOthers _ s).trans (kept_putTool _ _ _)
      · simp

end Sys2Proof.Machine

/-! ## What the resets cannot change -/

namespace Sys2Proof.Machine

@[simp] theorem haltOnReset_frame (s : State) :
    (haltOnReset s).link = s.link ∧ (haltOnReset s).enabled = s.enabled ∧ (haltOnReset s).capture = s.capture ∧
    (haltOnReset s).clock = s.clock ∧ (haltOnReset s).channels = s.channels ∧ (haltOnReset
    s).sending = s.sending ∧ (haltOnReset s).inputs = s.inputs ∧ (haltOnReset s).groupFlags = s.groupFlags ∧
    (haltOnReset s).cycle = s.cycle ∧ (haltOnReset s).tripCause = s.tripCause ∧ (haltOnReset
    s).furtherCauses = s.furtherCauses ∧ (haltOnReset s).configured = s.configured ∧ (haltOnReset
    s).params = s.params ∧ (haltOnReset s).tools = s.tools ∧ (haltOnReset s).loadPointer = s.loadPointer ∧
    (haltOnReset s).checkCaptured = s.checkCaptured ∧ (haltOnReset s).checkFailures = s.checkFailures ∧
    (haltOnReset s).blocking = s.blocking ∧ (haltOnReset s).positions = s.positions ∧ (haltOnReset
    s).gaugeWorn = s.gaugeWorn ∧ (haltOnReset s).angle = s.angle ∧ (haltOnReset s).cylinders = s.cylinders ∧
    (haltOnReset s).quadrants = s.quadrants ∧ (haltOnReset s).mass = s.mass ∧ (haltOnReset s).stroke = s.stroke
    ∧ (haltOnReset s).rings = s.rings ∧ (haltOnReset s).starvation = s.starvation ∧ (haltOnReset
    s).ports = s.ports ∧ (haltOnReset s).rotation = s.rotation ∧ (haltOnReset s).pointer = s.pointer ∧
    (haltOnReset s).pulse = s.pulse ∧ (haltOnReset s).totalPulses = s.totalPulses ∧ (haltOnReset
    s).unattributed = s.unattributed ∧ (haltOnReset s).surplus = s.surplus ∧ (haltOnReset s).rebases = s.rebases
    ∧ (haltOnReset s).screw = s.screw ∧ (haltOnReset s).pending = s.pending := by
  unfold haltOnReset
  split <;> simp

/-- What the STOP cause at the end of a reset cannot change (R48, R49). -/
@[simp] theorem tripIfStop_frame (s : State) :
    (tripIfStop s).link = s.link ∧ (tripIfStop s).enabled = s.enabled ∧ (tripIfStop s).capture = s.capture ∧
    (tripIfStop s).clock = s.clock ∧ (tripIfStop s).channels = s.channels ∧ (tripIfStop s).sending = s.sending ∧
    (tripIfStop s).inputs = s.inputs ∧ (tripIfStop s).groupFlags = s.groupFlags ∧ (tripIfStop
    s).configured = s.configured ∧ (tripIfStop s).params = s.params ∧ (tripIfStop s).tools = s.tools ∧
    (tripIfStop s).loadPointer = s.loadPointer ∧ (tripIfStop s).checkCaptured = s.checkCaptured ∧ (tripIfStop
    s).checkFailures = s.checkFailures ∧ (tripIfStop s).blocking = s.blocking ∧ (tripIfStop
    s).positions = s.positions ∧ (tripIfStop s).gaugeWorn = s.gaugeWorn ∧ (tripIfStop s).angle = s.angle ∧
    (tripIfStop s).quadrants = s.quadrants ∧ (tripIfStop s).mass = s.mass ∧ (tripIfStop s).stroke = s.stroke ∧
    (tripIfStop s).rings = s.rings ∧ (tripIfStop s).starvation = s.starvation ∧ (tripIfStop
    s).rotation = s.rotation ∧ (tripIfStop s).pulse = s.pulse ∧ (tripIfStop s).totalPulses = s.totalPulses ∧
    (tripIfStop s).unattributed = s.unattributed ∧ (tripIfStop s).surplus = s.surplus ∧ (tripIfStop
    s).rebases = s.rebases ∧ (tripIfStop s).screw = s.screw ∧ (tripIfStop s).pending = s.pending := by
  unfold tripIfStop
  split <;> simp

/-- What a controller reset keeps (R53). -/
@[simp] theorem resetWork_frame (s : State) :
    (resetWork s).link = s.link ∧ (resetWork s).enabled = s.enabled ∧ (resetWork s).clock = s.clock ∧ (resetWork
    s).sending = s.sending ∧ (resetWork s).inputs = s.inputs ∧ (resetWork s).configured = s.configured ∧
    (resetWork s).params = s.params ∧ (resetWork s).tools = s.tools ∧ (resetWork s).loadPointer = s.loadPointer
    ∧ (resetWork s).checkCaptured = s.checkCaptured ∧ (resetWork s).checkFailures = s.checkFailures ∧ (resetWork
    s).blocking = s.blocking ∧ (resetWork s).positions = s.positions ∧ (resetWork s).gaugeWorn = s.gaugeWorn ∧
    (resetWork s).quadrants = s.quadrants ∧ (resetWork s).stroke = s.stroke ∧ (resetWork s).rings = s.rings ∧
    (resetWork s).starvation = s.starvation ∧ (resetWork s).rotation = s.rotation ∧ (resetWork
    s).totalPulses = s.totalPulses ∧ (resetWork s).unattributed = s.unattributed ∧ (resetWork
    s).surplus = s.surplus ∧ (resetWork s).rebases = s.rebases ∧ (resetWork s).pending = s.pending := by
  simp [resetWork, forgetTrip, clearGroupFlags, cylindersReset, portsReset, channelsReset, placementReset,
    clearReports]

/-- R25: a controller reset leaves every channel STALE with its stale timer stopped. -/
@[simp] theorem resetWork_channels (s : State) :
    (resetWork s).channels = Vector.ofFn fun c => { s.channels[c] with fresh := false, timer := Timer.cancelled } := by
  simp [resetWork, forgetTrip, clearGroupFlags, cylindersReset, portsReset, channelsReset, placementReset,
    clearReports]

@[simp] theorem haltOnReset_strays (s : State) :
    (haltOnReset s).latched &&& ~~~eventSet = s.latched &&& ~~~eventSet := by
  unfold haltOnReset
  split <;> simp

@[simp] theorem tripIfStop_strays (s : State) :
    (tripIfStop s).latched &&& ~~~eventSet = s.latched &&& ~~~eventSet := by
  unfold tripIfStop
  split <;> simp

/-- R11: after a controller reset no condition notice stands latched. -/
theorem resetWork_strays (s : State) : (resetWork s).latched &&& ~~~eventSet = 0 := by
  simp [resetWork, forgetTrip, clearGroupFlags, cylindersReset, portsReset, channelsReset, placementReset,
    clearReports]

end Sys2Proof.Machine

/-! ## What every command and every step keeps

`Bounds s t`: from `s` to `t` the queue is kept, and with it the latch law (R8), the parameter ranges (section 11.1)
and the channel law (R19, R25). Owners of requests keep them, and so does every event. -/

namespace Sys2Proof.Machine

/-! ### The owners by kind -/

/-- The kinds whose requests read tool records (chapter 4). -/
def toolKinds : List Nat := [0x31, 0x32, 0x33, 0x34, 0x35, 0x36, 0x37]

theorem ownerOf_readErrorCapture : ownerOf 0x05 = readErrorCapture := rfl

theorem ownerOf_controllerReset : ownerOf 0x06 = controllerReset := rfl

/-- Every owner is orderly but those of the capture's two requests and of the tool requests. -/
theorem orderly_ownerOf {kind : Nat} (tools : kind ∉ toolKinds) (read : kind ≠ 0x05) (reset : kind ≠ 0x06) :
    (ownerOf kind).Orderly := by
  unfold ownerOf
  split <;> simp_all [toolKinds, placeNext, placeRun, portOutOfService, portRestore, portClear]
  exact fun args s => orderly_refuse _ s

theorem sound_ownerOf {kind : Nat} (read : kind ≠ 0x05) (reset : kind ≠ 0x06) : (ownerOf kind).Sound := by
  by_cases tools : kind ∈ toolKinds
  · simp only [toolKinds, List.mem_cons, List.not_mem_nil, or_false] at tools
    rcases tools with rfl | rfl | rfl | rfl | rfl | rfl | rfl
    · exact sound_toolLoad
    · exact sound_toolRead
    · exact sound_toolAmend
    · exact sound_changeTool _ _
    · exact sound_changeTool _ _
    · exact sound_toolFit
    · exact sound_changeTool _ _
  · exact (orderly_ownerOf tools read reset).sound

/-- A request is answered with its owner's outcome, or refused by the Request Port itself. -/
theorem takeByKind_cases (kind : Byte) (r : Request) (s : State) :
    ∃ t, takeByKind kind r s = respond kind r s.link.answer t ∧
      (t = ownerOf kind.toNat r.args s ∨ ∃ st, t = refuse st s) :=
  takeRequest_cases kind _ _ r s

/-- A request of a kind but the capture's two has a sound outcome. -/
theorem takeByKind_sound {kind : Byte} (read : kind ≠ 0x05) (reset : kind ≠ 0x06) (r : Request) (s : State) :
    ∃ t, takeByKind kind r s = respond kind r s.link.answer t ∧ t.Sound s := by
  obtain ⟨t, ht, rfl | ⟨st, rfl⟩⟩ := takeByKind_cases kind r s
  · have hread : kind.toNat ≠ 5 := fun h => read (BitVec.eq_of_toNat_eq h)
    have hreset : kind.toNat ≠ 6 := fun h => reset (BitVec.eq_of_toNat_eq h)
    exact ⟨_, ht, sound_ownerOf hread hreset r.args s⟩
  · exact ⟨_, ht, by simp⟩

/-! ### The bounds -/

def Bounds (s t : State) : Prop :=
  t.pending = s.pending ∧ (LatchLaw s → LatchLaw t) ∧ (ParamLaw s → ParamLaw t) ∧ (ChannelLaw s → ChannelLaw t)

theorem Bounds.refl (s : State) : Bounds s s := ⟨rfl, id, id, id⟩

theorem Bounds.trans {s t u : State} (h : Bounds s t) (g : Bounds t u) : Bounds s u := by
  obtain ⟨hq, hl, hp, hc⟩ := h
  obtain ⟨gq, gl, gp, gc⟩ := g
  exact ⟨gq.trans hq, gl ∘ hl, gp ∘ hp, gc ∘ hc⟩

theorem Kept.bounds {s t : State} (h : Kept s t) : Bounds s t := by
  obtain ⟨queue, -, channels, latch, params⟩ := h
  exact ⟨queue, latch, params, fun hs => by simpa only [ChannelLaw, channels] using hs⟩

/-- What keeps the latched notices that are no events, the parameters and the channels keeps the bounds. -/
theorem bounds_of_eq {s t : State} (queue : t.pending = s.pending)
    (strays : t.latched &&& ~~~eventSet = s.latched &&& ~~~eventSet) (params : t.params = s.params)
    (channels : t.channels = s.channels) : Bounds s t :=
  ⟨queue, by simp [LatchLaw, strays], by simp [ParamLaw, params], by simp [ChannelLaw, channels]⟩

theorem bounds_foldl {α : Type} {f : State → α → State} (h : ∀ t a, Bounds t (f t a)) (l : List α) (s : State) :
    Bounds s (l.foldl f s) := by
  induction l generalizing s with
  | nil => exact .refl s
  | cons a l ih => exact (h s a).trans (ih _)

/-! ### Channels -/

theorem channelLaw_set {s : State} {ch : Channel} (h : ChannelLaw s) (c : Fin 30) (value : ch.value ≤ upperEnd c)
    (timer : ch.fresh = true → ch.timer.running = true) :
    ChannelLaw { s with channels := s.channels.set c ch } := by
  intro d
  by_cases e : c = d
  · subst e
    simpa using ⟨value, timer⟩
  · have apart : c.val ≠ d.val := fun h => e (Fin.ext h)
    simpa [Vector.getElem_set_ne _ _ apart] using h d

theorem channelLaw_congr {s t : State} (h : t.channels = s.channels) : ChannelLaw t ↔ ChannelLaw s := by
  simp only [ChannelLaw, h]

theorem bounds_arrive (c : Fin 30) (v : Nat) (s : State) : Bounds s (arrive c v s) := by
  refine ⟨by simp, by simp [LatchLaw], by simp [ParamLaw], fun h => ?_⟩
  have taken : ChannelLaw (takeSample c v s) :=
    channelLaw_set h c (Nat.min_le_right v (upperEnd c)) (fun _ => rfl)
  exact (channelLaw_congr (by simp [arrive])).mpr taken

theorem bounds_staleExpired (c : Fin 30) (s : State) : Bounds s (staleExpired c s) := by
  refine ⟨by simp, by simp [LatchLaw], by simp [ParamLaw], fun h => ?_⟩
  have stale := channelLaw_set (ch := { s.channels[c] with fresh := false, timer := s.channels[c].timer.atZero })
    h c (h c).1 (fun e => by cases e)
  exact (channelLaw_congr (by simp [staleExpired])).mpr stale

/-! ### The resets -/

theorem bounds_controllerReset (s : State) : Bounds s (tripIfStop (resetWork s)) := by
  refine ⟨by simp, fun _ => ?_, by simp [ParamLaw], fun h c => ?_⟩
  · simp [LatchLaw, resetWork_strays]
  · simpa using (h c).1

theorem powerOn_channelLaw (inputs : Vector Input 12) : ChannelLaw (State.powerOn inputs) := by
  intro c
  simp [State.powerOn]

theorem params_default_inRange : Params.InRange {} := by
  rw [Params.inRange_iff]
  refine ⟨?_, by unfold Params.TuningInRange; decide⟩
  simp only [Params.GeometryInRange, reduceCtorEq, false_implies, implies_true, true_and]
  decide

theorem bounds_powerOnReset (lines : BitVec 12) (s : State) : Bounds s (powerOnReset lines s) := by
  refine ⟨by simp [powerOnReset], fun _ => ?_, fun _ => ?_, fun _ => ?_⟩
  · simp [LatchLaw, powerOnReset, State.powerOn]
  · simpa [ParamLaw, powerOnReset, State.powerOn] using params_default_inRange
  · exact (channelLaw_congr (by simp [powerOnReset])).mpr (powerOn_channelLaw (inputsAtPowerOn lines))

/-! ### Commands -/

theorem bounds_takeByKind (kind : Byte) (r : Request) (s : State) : Bounds s (takeByKind kind r s) := by
  obtain ⟨t, ht, rfl | ⟨st, rfl⟩⟩ := takeByKind_cases kind r s <;> rw [ht]
  · show Bounds s (ownerOf kind.toNat r.args s).state
    by_cases read : kind.toNat = 0x05
    · rw [read, ownerOf_readErrorCapture]
      exact bounds_of_eq rfl rfl rfl rfl
    by_cases reset : kind.toNat = 0x06
    · rw [reset, ownerOf_controllerReset, controllerReset, doneWith]
      exact bounds_controllerReset s
    exact (sound_ownerOf read reset r.args s).1.bounds
  · exact .refl s

theorem bounds_transact (bytes : List Byte) (s : State) : Bounds s (transact bytes s) := by
  unfold transact
  dsimp only
  repeat' split
  · exact bounds_of_eq rfl rfl rfl rfl
  · exact bounds_takeByKind _ _ s
  · exact bounds_of_eq rfl rfl rfl rfl

theorem bounds_receiveMessage (channel : Byte) (v : Word16) (check : Byte) (s : State) :
    Bounds s (receiveMessage channel v check s) := by
  unfold receiveMessage
  repeat' split
  · exact bounds_arrive _ _ s
  · exact .refl s
  · exact .refl s

theorem bounds_blockExpired (p : Fin 6) (s : State) : Bounds s (blockExpired p s) := by
  apply bounds_of_eq <;> simp

theorem bounds_retractExpired (i : Fin 16) (s : State) : Bounds s (retractExpired i s) := by
  apply bounds_of_eq <;> simp

theorem bounds_stepExpired (s : State) : Bounds s (stepExpired s) := by
  apply bounds_of_eq <;> simp

theorem bounds_beginMessage (s : State) : Bounds s (beginMessage s) := by
  apply bounds_of_eq <;> simp

theorem bounds_lineChange (i : Fin 12) (level : Level) (s : State) : Bounds s (lineChange i level s) := by
  apply bounds_of_eq <;> simp [lineChange]

theorem Bounds.of_ite {s t : State} {c : Prop} [Decidable c] (h : Bounds s t) : Bounds s (if c then t else s) := by
  split
  · exact h
  · exact .refl s

theorem Bounds.of_ite_not {s t : State} {c : Prop} [Decidable c] (h : Bounds s t) : Bounds s (if c then s else t) := by
  split
  · exact .refl s
  · exact h

/-- Every command answers a next state, and keeps the bounds. -/
theorem exec_bounds (c : Instr) (s : State) : ∃ t, exec c s = .next t ∧ Bounds s t := by
  cases hr : requestOf c with
  | some kr => exact ⟨_, exec_request hr s, bounds_takeByKind _ _ s⟩
  | none =>
    cases c
    case powerOnReset lines received => exact ⟨_, rfl, bounds_powerOnReset lines s⟩
    case transactionCutShort bytes => exact ⟨_, rfl, bounds_transact bytes s⟩
    case linkCheck bytes => exact ⟨_, rfl, bounds_transact bytes s⟩
    case storageFault i => exact ⟨_, rfl, bounds_of_eq rfl rfl rfl rfl⟩
    case sampleArrival c v => exact ⟨_, rfl, bounds_arrive c _ s⟩
    case sampleMessageDiscarded channel v check => exact ⟨_, rfl, bounds_receiveMessage channel v check s⟩
    case staleTimerExpiry c => exact ⟨_, rfl, (bounds_staleExpired c s).of_ite⟩
    case setpointMessage => exact ⟨_, rfl, bounds_beginMessage s⟩
    case lineChange i level => exact ⟨_, rfl, (bounds_lineChange i level s).of_ite_not⟩
    case retractTimerExpiry i => exact ⟨_, rfl, (bounds_retractExpired i s).of_ite⟩
    case stepTimerExpiry => exact ⟨_, rfl, (bounds_stepExpired s).of_ite⟩
    case blockTimerExpiry p => exact ⟨_, rfl, (bounds_blockExpired p s).of_ite⟩
    case setpointMessageEnd => exact ⟨_, rfl, bounds_of_eq rfl rfl rfl rfl⟩
    all_goals cases hr

/-! ### An idle millisecond -/

theorem bounds_countDown (s : State) : Bounds s (countDown s) := by
  refine ⟨rfl, id, id, fun h c => ?_⟩
  simpa [countDown] using h c

theorem bounds_expireBlocks (s : State) : Bounds s (expireBlocks s) :=
  bounds_foldl (fun t p => (bounds_blockExpired p t).of_ite) _ s

theorem bounds_expireStales (s : State) : Bounds s (expireStales s) :=
  bounds_foldl (fun t c => (bounds_staleExpired c t).of_ite) _ s

theorem bounds_expireRetracts (s : State) : Bounds s (expireRetracts s) :=
  bounds_foldl (fun t i => (bounds_retractExpired i t).of_ite) _ s

theorem bounds_idle (s : State) : Bounds s (idle s) := by
  have timers : Bounds s (expireStep (expireRetracts (countDown (beginMessage s)))) :=
    (bounds_beginMessage s).trans <| (bounds_countDown _).trans <|
      (bounds_expireRetracts _).trans (bounds_stepExpired _).of_ite
  unfold idle passMillisecond
  dsimp only
  split
  · exact timers.trans <| (bounds_expireStales _).trans (bounds_expireBlocks _)
  · exact timers.trans <| (bounds_expireBlocks _).trans (bounds_expireStales _)

/-- Settles O2: the queue is among the bounds that every command keeps. -/
theorem commandsAnswerAndKeepQueue : Obligations.CommandsAnswerAndKeepQueue := by
  intro c s
  obtain ⟨t, ht, queue, -⟩ := exec_bounds c s
  exact ⟨t, ht, queue⟩

/-- Settles O49: an idle step and every command keep the bounds; the laws do not speak of the queue. -/
theorem boundsKept : Obligations.BoundsKept := by
  intro s t h
  obtain ⟨-, rfl⟩ | ⟨c, rest, -, run⟩ := step_next h
  · exact (bounds_idle s).2
  · obtain ⟨u, hu, -, laws⟩ := exec_bounds c { s with pending := rest }
    obtain rfl : u = t := by
      rw [run] at hu
      cases hu
      rfl
    exact laws

end Sys2Proof.Machine

/-! ## The Request Link (chapter 1): frames, refusals and the error capture -/

namespace Sys2Proof.Machine

/-! ### Request frames (R3, section 1.7) -/

theorem requestFrame_length (kind tag : Byte) (args : List Byte) :
    (requestFrame kind tag args).length = 5 + args.length := by
  simp [requestFrame]
  omega

/-- The length byte of a frame with at most 56 argument bytes counts them. -/
theorem lengthByte_toNat {args : List Byte} (fits : args.length ≤ 56) :
    (BitVec.ofNat 8 args.length).toNat = args.length := by
  rw [BitVec.toNat_ofNat, Nat.mod_eq_of_lt (by omega)]

/-- A frame with its padding, byte by byte. -/
theorem requestFrame_append (kind tag : Byte) (args pad : List Byte) :
    requestFrame kind tag args ++ pad =
      0xA5#8 :: kind :: tag :: BitVec.ofNat 8 args.length ::
        (args ++ crc8 (kind :: tag :: BitVec.ofNat 8 args.length :: args) :: pad) := by
  simp [requestFrame]

theorem frameChecks_requestFrame {args : List Byte} (kind tag : Byte) (pad : List Byte) (fits : args.length ≤ 56) :
    frameChecks (requestFrame kind tag args ++ pad) = true := by
  rw [requestFrame_append]
  unfold frameChecks
  simp only [List.getD_cons_zero, List.getD_cons_succ, lengthByte_toNat fits, Nat.add_comm _ args.length]
  simp [fits]

theorem frameRequest_requestFrame {args : List Byte} (kind tag : Byte) (pad : List Byte) (extra : Nat)
    (fits : args.length ≤ 56) :
    frameRequest (requestFrame kind tag args ++ pad) extra = (kind, ⟨tag, args, extra⟩) := by
  rw [requestFrame_append]
  simp [frameRequest, lengthByte_toNat fits]

/-- Settles O6. -/
theorem requestFrameRoundTrip : Obligations.RequestFrameRoundTrip := fun kind tag _ pad extra fits =>
  ⟨frameChecks_requestFrame kind tag pad fits, frameRequest_requestFrame kind tag pad extra fits⟩

/-! ### Transactions (R1 to R3) -/

theorem transact_checked {bytes : List Byte} (full : 64 ≤ bytes.length) (checks : frameChecks (bytes.take 64) = true)
    (s : State) : transact bytes s =
      takeByKind (frameRequest (bytes.take 64) (bytes.length - 64)).1
        (frameRequest (bytes.take 64) (bytes.length - 64)).2 s := by
  simp [transact, Nat.not_lt.mpr full, checks]

theorem transact_failed {bytes : List Byte} (full : 64 ≤ bytes.length) (checks : frameChecks (bytes.take 64) = false)
    (s : State) : transact bytes s = failFrame (bytes.take 64) (bytes.length - 64) s := by
  simp [transact, Nat.not_lt.mpr full, checks]

theorem transact_cutShort {bytes : List Byte} (short : bytes.length < 64) (s : State) :
    transact bytes s = cutShort bytes s := by
  simp [transact, short]

/-- Settles O7: the first 64 bytes are the frame with some padding, so they carry the request (O6). -/
theorem framedRequestRunsItsCommand : Obligations.FramedRequestRunsItsCommand := by
  intro c kind r pad s hc fits hlength
  have hframe := requestFrame_length kind r.tag r.args
  have htake : (requestFrame kind r.tag r.args ++ pad).take 64 =
      requestFrame kind r.tag r.args ++ pad.take (64 - (requestFrame kind r.tag r.args).length) := by
    rw [List.take_append, List.take_of_length_le (by omega)]
  have run : transact (requestFrame kind r.tag r.args ++ pad) s = takeByKind kind r s := by
    rw [transact_checked (by omega) (by rw [htake, frameChecks_requestFrame _ _ _ fits]), htake,
      frameRequest_requestFrame _ _ _ _ fits, hlength, Nat.add_sub_cancel_left]
  rw [exec_request hc, ← run]
  rfl

/-! ### Requests by kind (R5) -/

/-- No count of the request index is more than a frame holds. -/
theorem indexCount_le {kind : Byte} {n : Nat} (h : indexCount kind = some n) : n ≤ 56 := by
  have small : ∀ entry ∈ indexCounts, entry.2 ≤ 56 := by decide
  obtain ⟨_, _, split, -⟩ := List.lookup_eq_some_iff.mp h
  exact small (kind.toNat, n) (by simp [split])

/-- A request of the index's length is answered with its owner's outcome. -/
theorem exec_owner {c : Instr} {kind : Byte} {r : Request} {s : State} {t : Taken}
    (hc : requestOf c = some (kind, r)) (count : indexCount kind = some r.args.length)
    (owner : ownerOf kind.toNat r.args s = t) : exec c s = .next (respond kind r s.link.answer t) := by
  subst owner
  rw [exec_request hc, takeByKind, count, Option.getD_some, takeRequest_good rfl (indexCount_le count)]

/-- A request of another length than the index's is refused BAD_LENGTH (R5). -/
theorem exec_badLength {c : Instr} {kind : Byte} {n : Nat} {r : Request} (hc : requestOf c = some (kind, r))
    (count : indexCount kind = some n) (fits : r.args.length ≤ 56) (other : r.args.length ≠ n) (s : State) :
    exec c s = .next (respond kind r s.link.answer ⟨s, .badLength, []⟩) := by
  rw [exec_request hc, takeByKind, count, takeRequest_badLength fits (by simpa using other)]

/-- A kind outside the index has no owner (R5). -/
theorem ownerOf_unknown {kind : Nat} (h : indexCounts.lookup kind = none) (args : List Byte) (s : State) :
    ownerOf kind args s = ⟨s, .unknownRequest, []⟩ := by
  unfold ownerOf
  split
  case h_53 => rfl
  all_goals exact absurd h (by decide)

/-- Settles O8: the four causes the Request Port finds by itself. -/
theorem failedRequestsOnlyAnswer : Obligations.FailedRequestsOnlyAnswer := by
  refine ⟨fun bytes s full checks => ?_, fun bytes s short => ?_, fun kind r s fits outside => ?_,
    fun c kind n r s hc count fits other => exec_badLength hc count fits other s⟩
  · show Host.Outcome.next (transact bytes s) = _
    rw [transact_failed full checks, failFrame]
    simp [respond, refuse, Status.refused, Status.code, Nat.add_sub_cancel' full, List.getD_eq_getElem?_getD]
  · show Host.Outcome.next (transact bytes s) = _
    rw [transact_cutShort short, cutShort]
  · show Host.Outcome.next (takeByKind kind r s) = _
    rw [takeByKind, outside, Option.getD_none, takeRequest_good rfl fits, ownerOf_unknown outside]

/-! ### Refusals and the error capture (R5, R14 to R16) -/

/-- An answered state whose owner changed nothing differs in the answer and the error capture alone. -/
theorem respond_unchanged {s : State} {t : Taken} (h : t.state = s) (kind : Byte) (r : Request) (a : Answer) :
    respond kind r a t =
      { s with link := (respond kind r a t).link, capture := (respond kind r a t).capture } := by
  subst h
  rfl

/-- Settles O9: every owner but those of the tool requests is orderly; the two that empty the capture refuse nothing. -/
theorem refusalsChangeNothing : Obligations.RefusalsChangeNothing := by
  intro c kind r s t hc tools run refused
  obtain ⟨taken, ht, outcome⟩ := takeByKind_cases kind r s
  obtain rfl : respond kind r s.link.answer taken = t := by
    rw [exec_request hc, ht] at run
    cases run
    rfl
  refine respond_unchanged ?_ _ _ _
  obtain rfl | ⟨st, rfl⟩ := outcome
  · by_cases read : kind.toNat = 0x05
    · rw [read, ownerOf_readErrorCapture] at refused
      cases refused
    by_cases reset : kind.toNat = 0x06
    · rw [reset, ownerOf_controllerReset] at refused
      cases refused
    have others : kind.toNat ∉ toolKinds := by simpa [toolKinds, ← BitVec.toNat_inj] using tools
    exact (orderly_ownerOf others read reset r.args s).2 refused
  · rfl

theorem readErrorCapture_empty {s : State} (h : s.capture.first = none) :
    readErrorCapture [] s = ⟨{ s with capture := {} }, .done, List.replicate 10 0x00⟩ := by
  simp [readErrorCapture, doneWith, ErrorCapture.bytes, h]

theorem readErrorCapture_full {s : State} {f : Captured} (h : s.capture.first = some f) :
    readErrorCapture [] s = ⟨{ s with capture := {} }, .done,
      [0x01, f.kind, f.tag, BitVec.ofNat 8 f.status.code, BitVec.ofNat 8 f.length, f.arg0, f.arg1, f.arg2, f.arg3,
        BitVec.ofNat 8 s.capture.count]⟩ := by
  simp [readErrorCapture, doneWith, ErrorCapture.bytes, h]

/-- Settles O10: every owner but those of the capture's two requests is sound. -/
theorem errorsCaptured : Obligations.ErrorsCaptured := by
  refine ⟨fun r s hargs hnone => exec_owner rfl (by rw [hargs]; rfl) (by rw [hargs]; exact readErrorCapture_empty hnone),
    fun r f s hargs hsome => exec_owner rfl (by rw [hargs]; rfl) (by rw [hargs]; exact readErrorCapture_full hsome),
    fun r s hargs fits => exec_badLength (n := 0) rfl rfl fits (by simpa using hargs) s,
    fun c kind r s hc read reset => ?_⟩
  obtain ⟨taken, ht, ⟨-, capture, -⟩, results⟩ := takeByKind_sound read reset r s
  refine ⟨_, exec_request hc s, ?_⟩
  rw [ht]
  refine ⟨rfl, rfl, rfl, fun (refused : taken.status.refused = true) => ⟨results refused, ?_⟩,
    fun (done : taken.status.refused = false) => ?_⟩
  · rw [respond_capture, if_pos refused, capture, ErrorCapture.note]
    cases hfirst : s.capture.first <;> simp [hfirst]
  · rw [respond_capture, done, capture]
    rfl

end Sys2Proof.Machine

/-! ## Notices (R8 to R13) -/

namespace Sys2Proof.Machine

/-! ### Numbers and bits -/

theorem Notice.number_lt (n : Notice) : n.number < 24 := by cases n <;> decide

theorem Notice.number_inj {n m : Notice} (h : n.number = m.number) : n = m := by
  rw [← Notice.ofNat_ctorIdx n, ← Notice.ofNat_ctorIdx m]
  exact congrArg Notice.ofNat h

theorem Notice.exists_number {k : Nat} (h : k < 24) : ∃ n : Notice, n.number = k := by
  refine ⟨Notice.ofNat k, ?_⟩
  interval_cases k <;> rfl

/-- The set of one notice holds that notice alone. -/
theorem Notice.bit_getLsbD (n m : Notice) : n.bit.getLsbD m.number = decide (n = m) := by
  have := n.number_lt
  have := m.number_lt
  by_cases h : n = m
  · subst h
    simp [Notice.bit]
    omega
  · have apart : n.number ≠ m.number := fun e => h (Notice.number_inj e)
    simp [Notice.bit, h]
    omega

theorem eventSet_getLsbD (n : Notice) : eventSet.getLsbD n.number = decide (n ∉ Notice.conditions) := by
  cases n <;> rfl

/-- A set gathered notice by notice holds what it began with and the notices chosen. -/
theorem getLsbD_gather (chosen : Notice → Bool) (m : Notice) (l : List Notice) (set : NoticeSet) :
    (l.foldl (fun set n => if chosen n then set ||| n.bit else set) set).getLsbD m.number =
      (set.getLsbD m.number || (decide (m ∈ l) && chosen m)) := by
  induction l generalizing set with
  | nil => simp
  | cons n l ih =>
    rw [List.foldl_cons, ih]
    by_cases h : m = n
    · subst h
      cases hc : chosen m <;> simp [Notice.bit_getLsbD]
    · have apart : ¬ n = m := fun e => h e.symm
      cases chosen n <;> simp [Notice.bit_getLsbD, h, apart]

/-! ### The pending set (R8, R9) -/

theorem conditionSet_getLsbD (s : State) (n : Notice) : (conditionSet s).getLsbD n.number = condition s n := by
  have hset : conditionSet s =
      Notice.conditions.foldl (fun set n => if condition s n then set ||| n.bit else set) 0#24 := rfl
  rw [hset, getLsbD_gather]
  cases n <;> simp [condition]

/-- A notice is pending while it has latched, an event notice, or while its condition holds. -/
theorem pendingSet_getLsbD (s : State) (n : Notice) : (pendingSet s).getLsbD n.number =
    if n ∈ Notice.conditions then condition s n else s.latched.getLsbD n.number := by
  rw [pendingSet, BitVec.getLsbD_or, BitVec.getLsbD_and, eventSet_getLsbD, conditionSet_getLsbD]
  cases n <;> simp [condition]

/-- R12, R13: a notice calls for attention while it is both pending and enabled. -/
theorem pending_and_enabled (s : State) (n : Notice) : (pendingSet s &&& s.enabled).getLsbD n.number = true ↔
    (pendingSet s).getLsbD n.number = true ∧ s.enabled.getLsbD n.number = true := by
  rw [BitVec.getLsbD_and, Bool.and_eq_true]

theorem attn_iff (s : State) : attn s = true ↔
    ∃ n : Notice, (pendingSet s).getLsbD n.number = true ∧ s.enabled.getLsbD n.number = true := by
  simp only [← pending_and_enabled]
  unfold attn
  generalize pendingSet s &&& s.enabled = set
  constructor
  · intro h
    by_contra none
    refine bne_iff_ne.mp h (BitVec.eq_of_getLsbD_eq fun k hk => ?_)
    obtain ⟨n, rfl⟩ := Notice.exists_number hk
    simpa using fun e => none ⟨n, e⟩
  · rintro ⟨n, hn⟩
    refine bne_iff_ne.mpr fun h => ?_
    simp [h] at hn

theorem mostUrgent_none {s : State}
    (h : ∀ n : Notice, ¬ ((pendingSet s).getLsbD n.number = true ∧ s.enabled.getLsbD n.number = true)) :
    mostUrgent s = 0xFF := by
  have none : (List.range 24).find? (fun k => (pendingSet s &&& s.enabled).getLsbD k) = none := by
    rw [List.find?_eq_none]
    intro k hk
    obtain ⟨n, rfl⟩ := Notice.exists_number (List.mem_range.mp hk)
    rw [pending_and_enabled]
    exact h n
  rw [mostUrgent, none]
  rfl

theorem mostUrgent_iff (s : State) (n : Notice) : mostUrgent s = n.number ↔
    ((pendingSet s).getLsbD n.number = true ∧ s.enabled.getLsbD n.number = true ∧
      ∀ m : Notice, m.number < n.number →
        ¬ ((pendingSet s).getLsbD m.number = true ∧ s.enabled.getLsbD m.number = true)) := by
  have found : mostUrgent s = n.number ↔
      (List.range 24).find? (fun k => (pendingSet s &&& s.enabled).getLsbD k) = some n.number := by
    unfold mostUrgent
    have := n.number_lt
    cases (List.range 24).find? (fun k => (pendingSet s &&& s.enabled).getLsbD k) with
    | none =>
      simp
      omega
    | some k => simp
  rw [found, List.find?_range_eq_some, pending_and_enabled, and_assoc]
  simp only [List.mem_range, n.number_lt, true_and, Bool.not_eq_true', ← Bool.not_eq_true]
  refine and_congr_right fun _ => and_congr_right fun _ => ⟨fun h m hm => ?_, fun h k hk => ?_⟩
  · rw [← pending_and_enabled]
    exact h m.number hm
  · obtain ⟨m, rfl⟩ := Notice.exists_number (hk.trans n.number_lt)
    rw [pending_and_enabled]
    exact h m hk

/-- Settles O11. -/
theorem clearAndEnableNotices : Obligations.ClearAndEnableNotices := by
  refine ⟨fun r s hlength => ⟨{ s with latched := s.latched &&& ~~~(BitVec.ofNat 24 (field r.args 0 3)) },
      exec_owner rfl (by rw [hlength]; rfl) rfl, rfl, rfl, fun n => ?_⟩,
    fun r s hlength => exec_owner rfl (by rw [hlength]; rfl) rfl⟩
  rw [pendingSet_getLsbD, pendingSet_getLsbD, eventSet_getLsbD]
  by_cases h : n ∈ Notice.conditions
  · simp only [h, not_true_eq_false, decide_false, if_true]
    rfl
  · have := n.number_lt
    simp [h, this]

/-! ### In use, and the balance conditions (R23, R103) -/

theorem isReference_iff (s : State) (i : Fin 16) :
    isReference s i = true ↔ ∃ g : Fin 4, s.params.refCylinders[g] = i := by
  simp [isReference, Vector.mem_iff_getElem, Fin.exists_iff]

theorem inUse_extension (s : State) (i : Fin 16) : inUse s (extensionChannel i) = true ↔
    s.cycle = .building ∨ (s.stroke.state = .opened ∧ ∃ g : Fin 4, s.params.refCylinders[g] = i) := by
  rw [inUse, dif_pos (show (extensionChannel i).val < 16 from i.isLt), ← isReference_iff]
  simp [extensionChannel, and_comm]

theorem inUse_group (s : State) (g : Fin 4) : inUse s (groupChannel g) = true ↔
    s.cycle = .standstill ∨ s.cycle = .boring ∨ s.cycle = .building := by
  have low : ¬ (groupChannel g).val < 16 := by simp [groupChannel]
  have high : (groupChannel g).val < 20 := by simp only [groupChannel]; omega
  rw [inUse, dif_neg low, if_pos high]
  simp [or_assoc]

theorem inUse_port (s : State) (p : Fin 6) : inUse s (portChannel p) = true ↔
    s.ports[p].state = .serving ∨ s.ports[p].state = .pressureHold := by
  have hp : (portChannel p).val = 24 + p.val := rfl
  rw [inUse, dif_neg (by omega), if_neg (by omega), if_neg (by omega), if_neg (by omega), if_neg (by omega),
    if_neg (by omega)]
  simp [portChannel]

/-- R103: what a condition on the balance ratio says, spelled out. -/
theorem balanceRatio_any (s : State) (p : Nat → Bool) : (balanceRatio s).any p = true ↔
    s.stroke.state ≠ .none ∧ s.params.balanceStart ≤ s.stroke.advance ∧ 0 < expectedMass s ∧
      p (s.stroke.weighed * 1000 / expectedMass s) = true := by
  unfold balanceRatio
  split
  · next h => simp [h]
  · next h =>
    simp only [Option.any_none, Bool.false_eq_true, false_iff]
    exact fun ⟨state, start, mass, _⟩ => h ⟨state, start, mass⟩

/-- GROUT_NO_PORT's port: none is SERVING. -/
theorem servingPort_isNone (s : State) :
    (servingPort s).isNone = (List.finRange 6).all fun p => s.ports[p].state != .serving := by
  rw [Bool.eq_iff_iff, Option.isNone_iff_eq_none, servingPort, List.find?_eq_none]
  simp

/-- Settles O12. -/
theorem pendingSetAndAttention : Obligations.PendingSetAndAttention := by
  refine ⟨fun s n => ?_, attn_iff, mostUrgent_iff, fun s => mostUrgent_none, fun s => ⟨inUse_extension s, inUse_group s,
    ?_, ?_, ?_, ?_, inUse_port s⟩, fun mass s hmass => ?_⟩
  · rw [pendingSet_getLsbD]
    cases n
    case groutNoPort => simp [condition, groutNoPort, servingPort_isNone]
    all_goals rfl
  · simp [inUse]
  · simp [inUse]
  · simp [inUse]
  · simp [inUse]
  · obtain rfl : expectedMass s = mass := hmass.symm
    simp only [overExcavation, underExcavation, balanceRatio_any, decide_eq_true_eq, and_self]

end Sys2Proof.Machine

/-! ## The reading requests (R4, R13, R17, R24, R33, R36, R104, R105, R111, R124, R158, R159) -/

namespace Sys2Proof.Machine

/-! ### Index arguments -/

theorem field_single (b : Byte) : field [b] 0 1 = b.toNat := by simp [field, beNat]

/-- An index byte in its range names its index. -/
theorem indexArg_single {n : Nat} {b : Byte} {i : Fin n} (h : b.toNat = i.val) :
    indexArg n (field [b] 0 1) = some i := by
  simp [field_single, indexArg, h]

/-- An index byte above the range names none. -/
theorem indexArg_single_none {n : Nat} {b : Byte} (h : n ≤ b.toNat) : indexArg n (field [b] 0 1) = none := by
  simp [field_single, indexArg, h]

/-! ### The Request Port, the Field Port, the inputs, the feed and the grout -/

theorem readChannel_index {b : Byte} {c : Fin 30} (h : b.toNat = c.val) (s : State) :
    readChannel [b] s = ⟨s, .done, channelBytes s c⟩ := by
  simp [readChannel, indexArg_single h, doneWith]

theorem readChannel_above {b : Byte} (h : 30 ≤ b.toNat) (s : State) :
    readChannel [b] s = ⟨s, .badArgument, []⟩ := by
  simp [readChannel, indexArg_single_none h, refuse]

theorem readPort_index {b : Byte} {p : Fin 6} (h : b.toNat = p.val) {s : State} (hc : s.cycle ≠ .unconfigured) :
    readPort [b] s = ⟨s, .done, portBytes s p⟩ := by
  simp [readPort, ifConfigured_of_ne hc, indexArg_single h, doneWith]

theorem readPort_above {b : Byte} (h : 5 < b.toNat) {s : State} (hc : s.cycle ≠ .unconfigured) :
    readPort [b] s = ⟨s, .badArgument, []⟩ := by
  have above : indexArg 6 (field [b] 0 1) = none := indexArg_single_none h
  simp [readPort, ifConfigured_of_ne hc, above, refuse]

/-- Settles O13. -/
theorem readsAnswer : Obligations.ReadsAnswer := by
  refine ⟨fun r s hargs => ?_, fun r s hargs fits => ?_, fun r s hargs => ?_, fun r b c s hargs hb => ?_,
    fun r b s hargs hb => ?_, fun r s hargs => ?_, fun r s hargs hc => ?_, fun r b p s hargs hb hc => ?_,
    fun r s hargs hc => ?_, fun r b s hargs hb hc => ?_, fun r s hc => ⟨fun hargs => ?_, fun hlength => ?_,
    fun hargs => ?_⟩⟩
  · exact exec_owner rfl (by rw [hargs]; rfl) rfl
  · exact exec_badLength (n := 0) rfl rfl fits (by simpa using hargs) s
  · exact exec_owner rfl (by rw [hargs]; rfl) rfl
  · exact exec_owner rfl (by rw [hargs]; rfl) (by rw [hargs]; exact readChannel_index hb s)
  · exact exec_owner rfl (by rw [hargs]; rfl) (by rw [hargs]; exact readChannel_above hb s)
  · exact exec_owner rfl (by rw [hargs]; rfl) rfl
  · exact exec_owner rfl (by rw [hargs]; rfl) (ifConfigured_of_ne hc)
  · exact exec_owner rfl (by rw [hargs]; rfl) (by rw [hargs]; exact readPort_index hb hc)
  · exact exec_owner rfl (by rw [hargs]; rfl) (ifConfigured_of_ne hc)
  · exact exec_owner rfl (by rw [hargs]; rfl) (by rw [hargs]; exact readPort_above hb hc)
  · exact exec_owner rfl (by rw [hargs]; rfl) (ifConfigured_unconfigured hc)
  · exact exec_owner rfl (by rw [hlength]; rfl) (show readPort r.args s = _ from ifConfigured_unconfigured hc)
  · exact exec_owner rfl (by rw [hargs]; rfl) (ifConfigured_unconfigured hc)

/-! ### The cycle, the account, the cylinders and the rings -/

theorem readCylinder_index {b : Byte} {i : Fin 16} (h : b.toNat = i.val) (s : State) :
    readCylinder [b] s = ⟨s, .done, cylinderBytes s i⟩ := by
  simp [readCylinder, indexArg_single h, doneWith]

theorem readCylinder_above {b : Byte} (h : 16 ≤ b.toNat) (s : State) :
    readCylinder [b] s = ⟨s, .badArgument, []⟩ := by
  simp [readCylinder, indexArg_single_none h, refuse]

theorem reportedRatio_eq (s : State) :
    reportedRatio s = ((balanceRatio s).map (fun q => min q 65534)).getD 0xFFFF := by
  unfold reportedRatio
  cases balanceRatio s <;> rfl

theorem derived_code (s : State) (i : Fin 16) : (derived s i).code =
    match command s i with
    | .extend => if s.cycle = .boring then 0 else 1
    | .retract => if s.params.retractedAt < s.channels[extensionChannel i].value then 2 else 3
    | .lock => 4 := by
  unfold derived extension
  cases command s i with
  | lock => rfl
  | extend => dsimp only; split <;> rfl
  | retract => dsimp only; split <;> rfl

theorem slotRecords_bytes (slots : Vector SlotRecord 7) : slots.toList.flatMap SlotRecord.bytes =
    ((List.finRange 7).map fun slot : Slot => slots[slot].bytes).flatten := by
  have listed : slots.toList = (List.finRange 7).map fun slot => slots[slot] := by
    apply List.ext_getElem <;> simp
  rw [listed, List.flatMap_map, List.flatMap_def]

theorem readRing_zero {args : List Byte} (h : field args 0 2 = 0) (s : State) :
    readRing args s = ⟨s, .badArgument, []⟩ := by
  simp [readRing, h, refuse]

theorem readRing_found {args : List Byte} {r : Ring} {s : State} (h : field args 0 2 ≠ 0)
    (found : findRing s (field args 0 2) = some r) : readRing args s = ⟨s, .done, r.bytes⟩ := by
  simp [readRing, h, found, doneWith]

theorem readRing_missing {args : List Byte} {s : State} (h : field args 0 2 ≠ 0)
    (missing : findRing s (field args 0 2) = none) : readRing args s = ⟨s, .notFound, []⟩ := by
  simp [readRing, h, missing, refuse]

theorem balanceRatio_eq_some (s : State) (q : Nat) : balanceRatio s = some q ↔
    s.stroke.state ≠ .none ∧ s.params.balanceStart ≤ s.stroke.advance ∧ 0 < expectedMass s ∧
      q = s.stroke.weighed * 1000 / expectedMass s := by
  unfold balanceRatio
  split
  · next h => simp [h, eq_comm]
  · next h => simpa using fun state start mass _ => h ⟨state, start, mass⟩

/-- A read that answers DONE with the bytes it names. -/
theorem done_bytes {bytes bytes' : List Byte} (h : bytes = bytes') (s : State) :
    doneWith bytes s = ⟨s, .done, bytes'⟩ := by rw [h]; rfl

/-- Settles O14. -/
theorem cycleAndRecordReads : Obligations.CycleAndRecordReads := by
  refine ⟨fun r s hargs => ?_, fun r s hargs => ?_, fun r s hargs => ?_, fun r b i g s hargs hb hg => ?_,
    fun r b s hargs hb => ?_, fun r older newer x s hlength hnumber hrings holder hx => ?_,
    fun r s hlength hnumber => ?_, fun r s hlength hnumber hrings => ?_, fun s => ⟨rfl, balanceRatio_eq_some s⟩⟩
  · exact exec_owner rfl (by rw [hargs]; rfl) rfl
  · exact exec_owner rfl (by rw [hargs]; rfl) (done_bytes (by rw [strokeBytes, reportedRatio_eq]; rfl) s)
  · exact exec_owner rfl (by rw [hargs]; rfl) (done_bytes (by rw [balanceBytes, reportedRatio_eq]) s)
  · obtain rfl : groupOf i = g := Fin.ext hg.symm
    refine exec_owner rfl (by rw [hargs]; rfl) ?_
    rw [hargs]
    refine (readCylinder_index hb s).trans ?_
    rw [cylinderBytes, derived_code]
    cases s.cylinders[i].owner <;> rfl
  · exact exec_owner rfl (by rw [hargs]; rfl) (by rw [hargs]; exact readCylinder_above hb s)
  · have found : findRing s (field r.args 0 2) = some x := by
      rw [findRing, hrings, List.find?_append, List.find?_eq_none.mpr (by simpa using holder)]
      simp [hx]
    refine exec_owner rfl (by rw [hlength]; rfl) ((readRing_found hnumber found).trans ?_)
    rw [Ring.bytes, slotRecords_bytes]
    simp only [orderBytes, List.append_assoc]
    rfl
  · exact exec_owner rfl (by rw [hlength]; rfl) (readRing_zero hnumber s)
  · have missing : findRing s (field r.args 0 2) = none := by
      rw [findRing, List.find?_eq_none]
      simpa using hrings
    exact exec_owner rfl (by rw [hlength]; rfl) (readRing_missing hnumber missing)

end Sys2Proof.Machine

/-! ## The state after power-on reset meets the laws -/

namespace Sys2Proof.Machine

theorem reset_latchLaw : LatchLaw State.reset := rfl

theorem reset_paramLaw : ParamLaw State.reset := params_default_inRange

theorem reset_channelLaw : ChannelLaw State.reset := powerOn_channelLaw _

theorem reset_pulseLaw : PulseLaw State.reset := by unfold PulseLaw; decide +kernel

theorem reset_strokeLaw : StrokeLaw State.reset := nofun

theorem reset_volumeLaw : VolumeLaw State.reset := nofun

theorem reset_exposureLaw : ExposureLaw State.reset := nofun

/-- R54: every record is ABSENT after power-on reset. -/
theorem reset_tools (i : Fin 64) : State.reset.tools[i] = Tool.fresh {} := by
  simp [State.reset, State.powerOn]

theorem absent_sound : ToolFields.Sound {} := by
  unfold ToolFields.Sound
  decide

theorem reset_dutyLaw : DutyLaw State.reset := by
  intro i
  rw [reset_tools]
  exact absent_sound

theorem reset_serialLaw : SerialLaw State.reset := by
  intro i j _ held
  rw [reset_tools] at held
  cases held

theorem reset_tableLaw : TableLaw State.reset := by unfold TableLaw; decide +kernel

theorem reset_permitLaw : PermitLaw State.reset := by
  unfold PermitLaw
  rw [if_neg (by rintro ⟨boring, -⟩; cases boring)]
  decide +kernel

theorem reset_setpointLaw : SetpointLaw State.reset := by unfold SetpointLaw; decide +kernel

theorem reset_screwLaw : ScrewLaw State.reset := by unfold ScrewLaw; decide +kernel

theorem reset_groutLaw : GroutLaw State.reset := by unfold GroutLaw; decide +kernel

theorem reset_holdLaw : HoldLaw State.reset := by unfold HoldLaw; decide +kernel

theorem reset_buildLaw : BuildLaw State.reset := by unfold BuildLaw; decide +kernel

theorem reset_feedLaw : FeedLaw State.reset := by unfold FeedLaw; decide +kernel

theorem reset_registerLaw : RegisterLaw State.reset :=
  ⟨Nat.zero_le 8, nofun, fun older x y newer h => absurd (congrArg List.length h) (by simp [State.reset, State.powerOn])⟩

/-- No cylinder is commanded RETRACT, no placement is under way, and no ring is planned. -/
theorem reset_placeLaw : PlaceLaw State.reset := by
  have none : ∀ i : Fin 16, command State.reset i ≠ .retract := by decide +kernel
  exact ⟨fun _ => .inl rfl, fun h => absurd rfl h, by decide +kernel, by decide +kernel, nofun,
    fun i retracted => absurd retracted (none i), rfl, .inl (by decide +kernel)⟩

theorem reset_slotLaw : SlotLaw State.reset := nofun

/-- Settles O60. -/
theorem resetMeetsTheLaws : Obligations.ResetMeetsTheLaws :=
  ⟨reset_latchLaw, reset_paramLaw, reset_channelLaw, reset_pulseLaw, reset_strokeLaw, reset_volumeLaw,
    reset_exposureLaw, reset_dutyLaw, reset_serialLaw, reset_tableLaw, reset_permitLaw, reset_setpointLaw,
    reset_screwLaw, reset_groutLaw, reset_holdLaw, reset_buildLaw, reset_feedLaw, reset_registerLaw, reset_placeLaw,
    reset_slotLaw⟩

end Sys2Proof.Machine

/-! ## A part that neither bores nor grouts

What the blocks' outputs become when such a part changes its cycle state or trips; both resets leave one. -/

namespace Sys2Proof.Machine

/-! ### Two states are equal when their fields are -/

theorem State.eq_iff {s t : State} :
    s = t ↔ s.link = t.link ∧ s.latched = t.latched ∧ s.enabled = t.enabled ∧ s.capture = t.capture ∧
      s.clock = t.clock ∧ s.channels = t.channels ∧ s.outputs = t.outputs ∧ s.sending = t.sending ∧
      s.inputs = t.inputs ∧ s.groupFlags = t.groupFlags ∧ s.cycle = t.cycle ∧ s.tripCause = t.tripCause ∧
      s.furtherCauses = t.furtherCauses ∧ s.configured = t.configured ∧ s.params = t.params ∧ s.tools = t.tools
      ∧ s.loadPointer = t.loadPointer ∧ s.checkCaptured = t.checkCaptured ∧ s.checkFailures = t.checkFailures ∧
      s.blocking = t.blocking ∧ s.positions = t.positions ∧ s.gaugeWorn = t.gaugeWorn ∧ s.angle = t.angle ∧
      s.cylinders = t.cylinders ∧ s.quadrants = t.quadrants ∧ s.mass = t.mass ∧ s.stroke = t.stroke ∧
      s.rings = t.rings ∧ s.feed = t.feed ∧ s.starvation = t.starvation ∧ s.place = t.place ∧ s.ports = t.ports
      ∧ s.rotation = t.rotation ∧ s.pointer = t.pointer ∧ s.pulse = t.pulse ∧ s.totalPulses = t.totalPulses ∧
      s.unattributed = t.unattributed ∧ s.surplus = t.surplus ∧ s.rebases = t.rebases ∧ s.screw = t.screw ∧
      s.pending = t.pending := by
  cases s
  cases t
  simp only [State.mk.injEq]

/-! ### Writes to output words -/

theorem Output.write_marked {o : Output} (h : o.mark = true) (v : Nat) : (o.write v).mark = true :=
  Output.write_mark (.inl h)

@[simp] theorem groupSetpoint_writeOutput (o : Fin 25) (v : Nat) (s : State) (g : Fin 4) :
    groupSetpoint (writeOutput o v s) g = groupSetpoint s g := rfl

/-- The outputs of a part that neither bores nor grouts: the permit OFF, the group setpoints of the cycle state, the
screw stopped, the valve NONE and the pump at rest (R38, R93, R145, R162). -/
def quietOutputs (s : State) : State :=
  writeOutput 24 0 (writeOutput 23 255 (writeOutput 22 0 (deriveSetpoints (writeOutput 0 0 s))))

@[simp] theorem quietOutputs_frame (s : State) :
    (quietOutputs s).link = s.link ∧ (quietOutputs s).latched = s.latched ∧ (quietOutputs s).enabled = s.enabled
    ∧ (quietOutputs s).capture = s.capture ∧ (quietOutputs s).clock = s.clock ∧ (quietOutputs
    s).channels = s.channels ∧ (quietOutputs s).sending = s.sending ∧ (quietOutputs s).inputs = s.inputs ∧
    (quietOutputs s).groupFlags = s.groupFlags ∧ (quietOutputs s).cycle = s.cycle ∧ (quietOutputs
    s).tripCause = s.tripCause ∧ (quietOutputs s).furtherCauses = s.furtherCauses ∧ (quietOutputs
    s).configured = s.configured ∧ (quietOutputs s).params = s.params ∧ (quietOutputs s).tools = s.tools ∧
    (quietOutputs s).loadPointer = s.loadPointer ∧ (quietOutputs s).checkCaptured = s.checkCaptured ∧
    (quietOutputs s).checkFailures = s.checkFailures ∧ (quietOutputs s).blocking = s.blocking ∧ (quietOutputs
    s).positions = s.positions ∧ (quietOutputs s).gaugeWorn = s.gaugeWorn ∧ (quietOutputs s).angle = s.angle ∧
    (quietOutputs s).cylinders = s.cylinders ∧ (quietOutputs s).quadrants = s.quadrants ∧ (quietOutputs
    s).mass = s.mass ∧ (quietOutputs s).stroke = s.stroke ∧ (quietOutputs s).rings = s.rings ∧ (quietOutputs
    s).feed = s.feed ∧ (quietOutputs s).starvation = s.starvation ∧ (quietOutputs s).place = s.place ∧
    (quietOutputs s).ports = s.ports ∧ (quietOutputs s).rotation = s.rotation ∧ (quietOutputs
    s).pointer = s.pointer ∧ (quietOutputs s).pulse = s.pulse ∧ (quietOutputs s).totalPulses = s.totalPulses ∧
    (quietOutputs s).unattributed = s.unattributed ∧ (quietOutputs s).surplus = s.surplus ∧ (quietOutputs
    s).rebases = s.rebases ∧ (quietOutputs s).screw = s.screw ∧ (quietOutputs s).pending = s.pending := by
  simp [quietOutputs]

theorem quietOutputs_permit (s : State) : (quietOutputs s).outputs[(0 : Fin 25)].value = 0 := by
  simp only [quietOutputs]
  rw [writeOutput_other (by decide), writeOutput_other (by decide), writeOutput_other (by decide),
    deriveSetpoints_other (by decide), writeOutput_value_self]

theorem quietOutputs_group (g : Fin 4) (s : State) :
    (quietOutputs s).outputs[groupOutput g].value = groupSetpoint s g := by
  have apart : ∀ o : Fin 25, 22 ≤ o.val → groupOutput g ≠ o := by
    rintro o high rfl
    simp only [groupOutput] at high
    omega
  simp only [quietOutputs]
  rw [writeOutput_other (apart _ (by decide)), writeOutput_other (apart _ (by decide)),
    writeOutput_other (apart _ (by decide)), deriveSetpoints_group, groupSetpoint_writeOutput]

theorem quietOutputs_screw (s : State) : (quietOutputs s).outputs[(22 : Fin 25)].value = 0 := by
  simp only [quietOutputs]
  rw [writeOutput_other (by decide), writeOutput_other (by decide), writeOutput_value_self]

theorem quietOutputs_valve (s : State) : (quietOutputs s).outputs[(23 : Fin 25)].value = 255 := by
  simp only [quietOutputs]
  rw [writeOutput_other (by decide), writeOutput_value_self]

theorem quietOutputs_pump (s : State) : (quietOutputs s).outputs[(24 : Fin 25)].value = 0 :=
  writeOutput_value_self _ _ _

/-- The cylinders' words and the erector's are as they were. -/
theorem quietOutputs_other {o : Fin 25} (low : 5 ≤ o.val) (high : o.val ≤ 21) (s : State) :
    (quietOutputs s).outputs[o] = s.outputs[o] := by
  have apart : ∀ i : Fin 25, i.val = 0 ∨ 22 ≤ i.val → o ≠ i := by
    rintro i hi rfl
    omega
  simp only [quietOutputs]
  rw [writeOutput_other (apart _ (by decide)), writeOutput_other (apart _ (by decide)),
    writeOutput_other (apart _ (by decide)), deriveSetpoints_other (by omega), writeOutput_other (apart _ (by decide))]

theorem quietOutputs_command (i : Fin 16) (s : State) : command (quietOutputs s) i = command s i := by
  rw [command, quietOutputs_other (by simp [cylinderOutput]) (by simp only [cylinderOutput]; omega), command]

/-! ### Send marks (R26) -/

/-- Every send mark is set. -/
def AllMarked (s : State) : Prop := ∀ o : Fin 25, s.outputs[o].mark = true

theorem allMarked_markAll (s : State) : AllMarked (markAll s) := by
  intro o
  simp [markAll]

theorem AllMarked.writeOutput {s : State} (h : AllMarked s) (i : Fin 25) (v : Nat) : AllMarked (writeOutput i v s) := by
  intro o
  rw [writeOutput_get]
  split
  · exact Output.write_marked (h i) v
  · exact h o

theorem AllMarked.deriveSetpoints {s : State} (h : AllMarked s) : AllMarked (deriveSetpoints s) := by
  intro o
  rw [deriveSetpoints_get]
  split
  · exact Output.write_marked (h o) _
  · exact h o

theorem AllMarked.lockAll {s : State} (h : AllMarked s) : AllMarked (lockAll s) := by
  intro o
  rw [Machine.lockAll, commandWhere_get]
  split
  · exact Output.write_marked (h o) _
  · exact h o

theorem AllMarked.quietOutputs {s : State} (h : AllMarked s) : AllMarked (quietOutputs s) :=
  ((((h.writeOutput _ _).deriveSetpoints).writeOutput _ _).writeOutput _ _).writeOutput _ _

theorem AllMarked.placementOnTrip {s : State} (h : AllMarked s) (rests : s.place.erector.underWay = false) :
    AllMarked (placementOnTrip s) := by
  unfold Machine.placementOnTrip
  split
  · next st working =>
    rw [working] at rests
    cases rests
  · exact h.writeOutput _ _
  · exact h

/-! ### A change of cycle state, and a trip, at rest -/

/-- Grouting is at rest: no port is SERVING and channel 23 is STALE, so no search is made (R146). -/
def GroutRests (s : State) : Prop := servingPort s = none ∧ s.channels[(23 : Fin 30)].fresh = false

theorem groutSettle_rests {s : State} (h : GroutRests s) :
    groutSettle s = writeOutput 24 0 (writeOutput 23 255 s) := by
  obtain ⟨none, stale⟩ := h
  have noSearch : search s = s := by rw [search, stale, if_neg (by decide)]
  simp [groutSettle, none, noSearch, groutOutputs]

theorem changeCycle_rests {s : State} (h : GroutRests s) {c : Cycle} (hc : c ≠ .boring) :
    changeCycle c s = quietOutputs { s with cycle := c } := by
  have permit : permitDue { s with cycle := c } = false := by simp [permitDue, hc]
  have screw : screwRunning (deriveSetpoints (evalPermit { s with cycle := c })) = false := by
    simp [screwRunning, hc]
  have rests : GroutRests (screwFollow (screwRunning s) (deriveSetpoints (evalPermit { s with cycle := c }))) := by
    simpa [GroutRests, servingPort] using h
  rw [changeCycle, groutSettle_rests rests, screwFollow, screw, evalPermit, permit]
  rfl

theorem trip_rests {s : State} (h : GroutRests s) (hc : s.cycle ≠ .tripped) (cause : TripCause) :
    trip cause s =
      placementOnTrip (lockAll (quietOutputs { s with tripCause := some cause, cycle := .tripped })) := by
  have rests : GroutRests { s with tripCause := some cause } := h
  rw [trip, if_neg hc, changeCycle_rests rests (by decide)]

/-- With no placement under way a trip commands an IDLE erector HALT, and leaves the rest of the placement. -/
theorem placementOnTrip_rests {s : State} (h : s.place.erector.underWay = false) :
    placementOnTrip s = if s.place.erector = .idle then writeOutput 21 3 s else s := by
  unfold placementOnTrip
  cases he : s.place.erector with
  | idle => rfl
  | working st => simp [he, Erector.underWay] at h
  | halted => rfl

/-- A timer that stands cancelled is cancelled still after LOCK (R91). -/
theorem lockAll_cylinder (i : Fin 16) (s : State) :
    (lockAll s).cylinders[i] = { s.cylinders[i] with timer := s.cylinders[i].timer.freeze } := by
  rw [lockAll, commandWhere_cylinder, if_pos rfl]
  rfl

theorem lockAll_command (i : Fin 16) (s : State) : command (lockAll s) i = .lock := by
  rw [lockAll, commandWhere_command, if_pos rfl]

theorem lockAll_other {o : Fin 25} (h : ¬ (5 ≤ o.val ∧ o.val ≤ 20)) (s : State) :
    (lockAll s).outputs[o] = s.outputs[o] := commandWhere_other _ _ _ h s

end Sys2Proof.Machine

/-! ## The STOP cause at the end of a reset -/

namespace Sys2Proof.Machine

theorem output_cases (o : Fin 25) : o = 0 ∨ (∃ g, o = groupOutput g) ∨ (∃ i, o = cylinderOutput i) ∨
    o = 21 ∨ o = 22 ∨ o = 23 ∨ o = 24 := by
  revert o
  decide

theorem groupOutput_ne {o : Fin 25} (h : 21 ≤ o.val) (g : Fin 4) : groupOutput g ≠ o := by
  rintro rfl
  simp only [groupOutput] at h
  omega

theorem cylinderOutput_ne {o : Fin 25} (h : 21 ≤ o.val) (i : Fin 16) : cylinderOutput i ≠ o := by
  rintro rfl
  simp only [cylinderOutput] at h
  omega

/-- In TRIPPED every output stands at its safe value (R49); the erector's is the Placement Controller's own. -/
theorem lockAll_quietOutputs_value {s : State} (h : s.cycle = .tripped) (o : Fin 25) :
    (lockAll (quietOutputs s)).outputs[o].value =
      if o = 23 then 255 else if o = 21 then s.outputs[(21 : Fin 25)].value else 0 := by
  obtain rfl | ⟨g, rfl⟩ | ⟨i, rfl⟩ | rfl | rfl | rfl | rfl := output_cases o
  · rw [lockAll_other (by decide), quietOutputs_permit]
    rfl
  · have low : ¬ (5 ≤ (groupOutput g).val ∧ (groupOutput g).val ≤ 20) := by
      simp only [groupOutput]
      omega
    rw [lockAll_other low, quietOutputs_group, if_neg (groupOutput_ne (by decide) g),
      if_neg (groupOutput_ne (by decide) g), groupSetpoint, h]
  · rw [lockAll, commandWhere_output, if_pos rfl, Output.write_value, if_neg (cylinderOutput_ne (by decide) i),
      if_neg (cylinderOutput_ne (by decide) i)]
    rfl
  · rw [lockAll_other (by decide), quietOutputs_other (by decide) (by decide)]
    rfl
  · rw [lockAll_other (by decide), quietOutputs_screw]
    rfl
  · rw [lockAll_other (by decide), quietOutputs_valve]
    rfl
  · rw [lockAll_other (by decide), quietOutputs_pump]
    rfl

theorem Timer.freeze_stopped {t : Timer} (h : t.running = false) : t.freeze = t := by
  cases t
  cases h
  rfl

section rests

variable {s : State} (h : GroutRests s) (hc : s.cycle ≠ .tripped) (he : s.place.erector.underWay = false)
include h hc

/-- LOCK keeps a cylinder's owner and freezes its retract timer (R89, R91). -/
theorem trip_rests_cylinder (cause : TripCause) (i : Fin 16) : (trip cause s).cylinders[i] =
    { s.cylinders[i] with timer := s.cylinders[i].timer.freeze } := by
  have kept (u : State) : (placementOnTrip u).cylinders = u.cylinders := by simp
  rw [trip_rests h hc, kept, lockAll_cylinder]
  simp

include he

/-- A trip of a part at rest, beside its outputs and cylinders. -/
theorem trip_rests_frame (cause : TripCause) :
    (trip cause s).latched = s.latched ∧ (trip cause s).cycle = .tripped ∧ (trip cause s).tripCause = some cause ∧
    (trip cause s).furtherCauses = s.furtherCauses ∧ (trip cause s).feed = s.feed ∧
    (trip cause s).place = s.place ∧ (trip cause s).ports = s.ports ∧ (trip cause s).pointer = s.pointer := by
  rw [trip_rests h hc, placementOnTrip_rests (by simpa using he)]
  split <;> simp

theorem trip_rests_value (cause : TripCause) (o : Fin 25) : (trip cause s).outputs[o].value =
    if o = 23 then 255
    else if o = 21 then (if s.place.erector = .idle then 3 else s.outputs[(21 : Fin 25)].value) else 0 := by
  rw [trip_rests h hc, placementOnTrip_rests (by simpa using he)]
  have safe := lockAll_quietOutputs_value (s := { s with tripCause := some cause, cycle := .tripped }) rfl o
  have place : (lockAll (quietOutputs { s with tripCause := some cause, cycle := .tripped })).place = s.place := by
    simp
  rw [place]
  by_cases idle : s.place.erector = .idle
  · rw [if_pos idle, if_pos idle]
    by_cases e : o = 21
    · subst e
      rw [writeOutput_value_self]
      rfl
    · rw [writeOutput_other e, safe, if_neg e, if_neg e]
  · rw [if_neg idle, if_neg idle, safe]

theorem AllMarked.trip_rests (marked : AllMarked s) (cause : TripCause) : AllMarked (trip cause s) := by
  rw [Machine.trip_rests h hc]
  have before : AllMarked { s with tripCause := some cause, cycle := .tripped } := marked
  exact before.quietOutputs.lockAll.placementOnTrip (by simpa using he)

variable (stopped : ∀ i : Fin 16, s.cylinders[i].timer.running = false)
include stopped

omit he in
theorem trip_rests_cylinders (cause : TripCause) : (trip cause s).cylinders = s.cylinders := by
  ext i hi : 1
  have frozen := trip_rests_cylinder h hc cause ⟨i, hi⟩
  rw [Timer.freeze_stopped (stopped ⟨i, hi⟩)] at frozen
  exact frozen

/-- With its retract timers stopped, the trip of a part at rest changes the cycle, its cause and the outputs alone. -/
theorem trip_rests_eq (cause : TripCause) : trip cause s =
    { s with cycle := .tripped, tripCause := some cause, outputs := (trip cause s).outputs } := by
  rw [State.eq_iff]
  simp [trip_rests_frame h hc he cause, trip_rests_cylinders h hc stopped cause]

/-- What the STOP cause at the end of a reset leaves beside those three, asserted or not. -/
theorem tripIfStop_rests_frame : (tripIfStop s).latched = s.latched ∧
    (tripIfStop s).furtherCauses = s.furtherCauses ∧ (tripIfStop s).cylinders = s.cylinders ∧
    (tripIfStop s).feed = s.feed ∧ (tripIfStop s).place = s.place ∧ (tripIfStop s).ports = s.ports ∧
    (tripIfStop s).pointer = s.pointer := by
  unfold tripIfStop
  split
  · simp [trip_rests_frame h hc he .stop, trip_rests_cylinders h hc stopped .stop]
  · simp

end rests

end Sys2Proof.Machine

/-! ## POWER_ON_RESET (R35) -/

namespace Sys2Proof.Machine

theorem defaultMode_eq (i : Fin 12) : defaultMode i =
    if i = 0 then .low else if 2 ≤ i.val ∧ i.val ≤ 6 then .rising else .any := by
  revert i
  decide

theorem powerOn_groutRests (inputs : Vector Input 12) : GroutRests (State.powerOn inputs) := by
  refine ⟨?_, by simp [State.powerOn]⟩
  rw [servingPort, List.find?_eq_none]
  simp [State.powerOn]

/-- DI0 is read in the mode LOW after power-on reset (R30). -/
theorem powerOn_stopAsserted (lines : BitVec 12) :
    stopAsserted (State.powerOn (inputsAtPowerOn lines)) = !lines.getLsbD 0 := by
  have level : (inputsAtPowerOn lines)[(0 : Fin 12)] =
      { level := if lines.getLsbD 0 then .high else .low, mode := .low } := by
    simp [inputsAtPowerOn, defaultMode]
  rw [stopAsserted, asserted, State.powerOn, level, Input.asserted]
  cases lines.getLsbD 0 <;> rfl

/-- What the STOP cause of a power-on reset finds: the reset values, the levels of the lines, the queue. -/
def poweredOn (lines : BitVec 12) (s : State) : State :=
  { State.reset with inputs := inputsAtPowerOn lines, pending := s.pending }

theorem powerOnReset_eq (lines : BitVec 12) (s : State) : powerOnReset lines s = tripIfStop (poweredOn lines s) := rfl

theorem poweredOn_stopAsserted (lines : BitVec 12) (s : State) :
    stopAsserted (poweredOn lines s) = !lines.getLsbD 0 := powerOn_stopAsserted lines

theorem poweredOn_groutRests (lines : BitVec 12) (s : State) : GroutRests (poweredOn lines s) :=
  powerOn_groutRests (inputsAtPowerOn lines)

theorem reset_outputs (o : Fin 25) : State.reset.outputs[o] = ⟨if o = 23 then 255 else 0, true⟩ := by
  simp [State.reset, State.powerOn, outputAtReset]

theorem reset_cylinders (i : Fin 16) : State.reset.cylinders[i] = {} := by
  simp [State.reset, State.powerOn]

theorem powerOnReset_running (lines : BitVec 12) (s : State) (high : lines.getLsbD 0 = true) :
    powerOnReset lines s = poweredOn lines s := by
  rw [powerOnReset_eq, tripIfStop, poweredOn_stopAsserted, high]
  rfl

theorem powerOnReset_stopped (lines : BitVec 12) (s : State) (low : lines.getLsbD 0 = false) :
    powerOnReset lines s = trip .stop (poweredOn lines s) := by
  rw [powerOnReset_eq, tripIfStop, poweredOn_stopAsserted, low]
  rfl

/-- With DI0 LOW the trip changes the cycle, its cause and the outputs of the reset values. -/
theorem powerOnReset_stopped_eq (lines : BitVec 12) (s : State) (low : lines.getLsbD 0 = false) :
    powerOnReset lines s = { poweredOn lines s with
      cycle := .tripped, tripCause := some .stop, outputs := (powerOnReset lines s).outputs } := by
  rw [powerOnReset_stopped lines s low]
  exact trip_rests_eq (poweredOn_groutRests lines s) nofun rfl (fun i => congrArg (·.timer.running) (reset_cylinders i))
    .stop

/-- The erector's word alone leaves its reset value: every other output stood at its safe value already. -/
theorem powerOnReset_stopped_output (lines : BitVec 12) (s : State) (low : lines.getLsbD 0 = false) (o : Fin 25) :
    (powerOnReset lines s).outputs[o] = if o = 21 then ⟨3, true⟩ else State.reset.outputs[o] := by
  have rests := poweredOn_groutRests lines s
  have marked : AllMarked (poweredOn lines s) := fun o => congrArg Output.mark (reset_outputs o)
  have value := trip_rests_value rests nofun rfl .stop o
  have mark := marked.trip_rests rests nofun rfl .stop o
  rw [← powerOnReset_stopped lines s low] at value mark
  rw [reset_outputs]
  generalize (powerOnReset lines s).outputs[o] = word at value mark ⊢
  obtain ⟨v, m⟩ := word
  obtain rfl : m = true := mark
  obtain rfl : v = _ := value
  by_cases h : o = 21
  · simp [h, poweredOn, State.reset, State.powerOn]
  · simp [h]

theorem reset_pendingSet : pendingSet State.reset = 0 := by decide +kernel

/-- The sense modes of R30, nothing masked. -/
theorem reset_inputs (i : Fin 12) : State.reset.inputs[i].mode =
      (if i = 0 then .low else if 2 ≤ i.val ∧ i.val ≤ 6 then .rising else .any) ∧
    State.reset.inputs[i].mask = false := by
  rw [← defaultMode_eq]
  simp [State.reset, State.powerOn]

theorem powerOnReset_inputs (lines : BitVec 12) (s : State) (i : Fin 12) : (powerOnReset lines s).inputs[i] =
    ⟨if lines.getLsbD i.val then .high else .low,
      if i = 0 then .low else if 2 ≤ i.val ∧ i.val ≤ 6 then .rising else .any, false⟩ := by
  have inputs : (powerOnReset lines s).inputs = inputsAtPowerOn lines := by simp [powerOnReset_eq, poweredOn]
  rw [inputs, ← defaultMode_eq]
  simp [inputsAtPowerOn]

end Sys2Proof.Machine

namespace Sys2Proof.Certificates

open Machine

/-- Settles O4: the reset values field by field, and the power-on reset with DI0 HIGH and with DI0 LOW. -/
theorem powerOnReset : Obligations.PowerOnReset := by
  refine ⟨?_, fun lines received s => ⟨Machine.powerOnReset lines s, rfl, powerOnReset_inputs lines s, ?_,
    fun high => ?_, fun low => ?_⟩⟩
  · refine ⟨rfl, reset_pendingSet, rfl, rfl, ?_, reset_outputs, rfl, reset_inputs, ?_, rfl, rfl, rfl, rfl, ?_, rfl, rfl,
      rfl, rfl, rfl, rfl, ?_, ?_, rfl, rfl, rfl, rfl, rfl, ?_, ?_, rfl, rfl, rfl, rfl, rfl, rfl, rfl⟩
    · simp [State.reset, State.powerOn]
    · simp [State.reset, State.powerOn]
    · intro i
      rw [reset_tools]
      exact ⟨rfl, rfl⟩
    · intro i
      exact ⟨reset_cylinders i, by rw [command, reset_outputs, if_neg (cylinderOutput_ne (by decide) i)]; rfl⟩
    · simp [State.reset, State.powerOn]
    · simp [State.reset, State.powerOn]
    · simp [State.reset, State.powerOn]
  · cases high : lines.getLsbD 0 with
    | true => rw [powerOnReset_running lines s high]; rfl
    | false => rw [powerOnReset_stopped_eq lines s high]; rfl
  · rw [powerOnReset_running lines s high]
    exact ⟨rfl, rfl, rfl⟩
  · refine ⟨?_, ?_, powerOnReset_stopped_output lines s low⟩ <;> rw [powerOnReset_stopped_eq lines s low]

end Sys2Proof.Certificates

/-! ## CONTROLLER_RESET (R52, R53) -/

namespace Sys2Proof.Machine

/-! ### The blocks' own changes -/

theorem haltOnReset_working {s : State} {st : Step} (h : s.place.erector = .working st) :
    haltOnReset s = haltPlacement st s := by
  simp [haltOnReset, h]

/-- With no placement under way the erector is commanded anew: IDLE, or HALT where it is HALTED (R140). -/
theorem haltOnReset_rests {s : State} (h : s.place.erector.underWay = false) :
    haltOnReset s = writeOutput 21 (if s.place.erector = .idle then 0 else 3) s := by
  unfold haltOnReset
  cases he : s.place.erector with
  | idle => rfl
  | working st => simp [he, Erector.underWay] at h
  | halted => rfl

theorem haltOnReset_underWay (s : State) : (haltOnReset s).place.erector.underWay = false := by
  cases he : s.place.erector with
  | idle => rw [haltOnReset_rests (by rw [he]; rfl), writeOutput_place, he]; rfl
  | working st => rw [haltOnReset_working he]; rfl
  | halted => rw [haltOnReset_rests (by rw [he]; rfl), writeOutput_place, he]; rfl

theorem haltOnReset_erector (s : State) :
    (haltOnReset s).outputs[(21 : Fin 25)].value = if s.place.erector = .idle then 0 else 3 := by
  cases he : s.place.erector with
  | idle => rw [haltOnReset_rests (by rw [he]; rfl), writeOutput_value_self, he]
  | working st =>
    rw [haltOnReset_working he]
    exact writeOutput_value_self _ _ _
  | halted => rw [haltOnReset_rests (by rw [he]; rfl), writeOutput_value_self, he]

theorem resumesNot_serving (st : PortState) : st.afterReset ≠ .serving := by cases st <;> decide

theorem afterReset_eq (st : PortState) :
    st.afterReset = if st = .serving ∨ st = .pressureHold then .idle else st := by
  cases st <;> rfl

/-- The reports, the reservation and the placement as a controller reset leaves them (R11, R15, R119, R140). -/
def reportsCleared (s : State) : State := haltOnReset (cancelReservation (clearReports s))

theorem reportsCleared_underWay (s : State) : (reportsCleared s).place.erector.underWay = false :=
  haltOnReset_underWay _

/-- Every block at rest, before the cycle takes its new state (R53). -/
def atRest (s : State) : State :=
  forgetTrip <| clearGroupFlags <| cylindersReset <| portsReset <| channelsReset <|
    placementReset <| cancelReservation <| clearReports s

theorem resetWork_atRest (s : State) : resetWork s = markAll (changeCycle (resetState (atRest s)) (atRest s)) := rfl

theorem atRest_frame (s : State) :
    (atRest s).rings = s.rings ∧ (atRest s).configured = s.configured ∧ (atRest s).params = s.params ∧
    (atRest s).gaugeWorn = s.gaugeWorn ∧ (atRest s).capture = {} ∧
    (atRest s).groupFlags = Vector.replicate 3 false ∧ (atRest s).tripCause = none ∧
    (atRest s).furtherCauses = false ∧ (atRest s).angle = ⟨s.angle.prev, true⟩ ∧
    (atRest s).mass = ⟨s.mass.prev, true⟩ ∧ (atRest s).pulse = ⟨s.pulse.prev, true⟩ ∧
    (atRest s).screw = ⟨s.screw.mode, s.screw.manual, true⟩ ∧ (atRest s).pointer = 0 ∧
    (atRest s).latched = (reportsCleared s).latched ∧ (atRest s).feed = (reportsCleared s).feed ∧
    (atRest s).place =
      { (reportsCleared s).place with mode := .single, hold := false, timer := Timer.cancelled } := by
  simp [atRest, reportsCleared, forgetTrip, clearGroupFlags, cylindersReset, portsReset, channelsReset,
    placementReset, clearReports]

theorem atRest_channels (s : State) (c : Fin 30) :
    (atRest s).channels[c] = { s.channels[c] with fresh := false, timer := Timer.cancelled } := by
  simp [atRest, forgetTrip, clearGroupFlags, cylindersReset, portsReset, channelsReset, placementReset,
    clearReports]

theorem atRest_ports (s : State) (p : Fin 6) :
    (atRest s).ports[p] = { s.ports[p] with state := s.ports[p].state.afterReset, timer := Timer.cancelled } := by
  simp [atRest, forgetTrip, clearGroupFlags, cylindersReset, portsReset, channelsReset, placementReset,
    clearReports]

theorem atRest_cylinders (s : State) (i : Fin 16) :
    (atRest s).cylinders[i] = { s.cylinders[i] with timer := Timer.cancelled } := by
  have owner := congrArg Cylinder.owner (lockAll_cylinder i
    (portsReset (channelsReset (placementReset (cancelReservation (clearReports s))))))
  simp [atRest, forgetTrip, clearGroupFlags, cylindersReset, portsReset, channelsReset, placementReset,
    clearReports] at owner ⊢
  exact owner

theorem atRest_outputs (s : State) : (atRest s).outputs =
    (lockAll (portsReset (channelsReset (placementReset (cancelReservation (clearReports s)))))).outputs := rfl

theorem portsReset_outputs (s : State) :
    (portsReset (channelsReset (placementReset s))).outputs = (haltOnReset s).outputs := by
  simp only [portsReset, channelsReset, placementReset]

/-- The erector's word is the Placement Controller's, the cylinders' words are LOCK. -/
theorem atRest_erector (s : State) :
    (atRest s).outputs[(21 : Fin 25)].value = if s.place.erector = .idle then 0 else 3 := by
  rw [atRest_outputs, lockAll_other (by decide), portsReset_outputs, haltOnReset_erector]
  rfl

theorem atRest_command (s : State) (i : Fin 16) : command (atRest s) i = .lock := by
  rw [command, atRest_outputs]
  exact lockAll_command i _

theorem atRest_groutRests (s : State) : GroutRests (atRest s) := by
  refine ⟨?_, by rw [atRest_channels]⟩
  rw [servingPort, List.find?_eq_none]
  intro p _
  rw [atRest_ports]
  simpa using resumesNot_serving s.ports[p].state

theorem resetState_eq (s : State) : resetState s = if s.configured = false then .unconfigured
    else if s.rings.any (fun r => r.state == .building) then .building else .standstill := by
  have building : (buildingRing s).isSome = s.rings.any (fun r => r.state == .building) := by
    rw [Bool.eq_iff_iff, buildingRing, List.find?_isSome, List.any_eq_true]
  cases h : s.configured <;> simp [resetState, h, building]

theorem resetState_works (s : State) :
    resetState s = .unconfigured ∨ resetState s = .standstill ∨ resetState s = .building := by
  unfold resetState
  repeat' split
  all_goals decide

theorem resetState_ne_boring (s : State) : resetState s ≠ .boring := by
  obtain h | h | h := resetState_works s <;> rw [h] <;> decide

theorem resetState_ne_tripped (s : State) : resetState s ≠ .tripped := by
  obtain h | h | h := resetState_works s <;> rw [h] <;> decide

/-! ### The reset up to the STOP cause -/

theorem resetWork_eq (s : State) :
    resetWork s = markAll (quietOutputs { atRest s with cycle := resetState (atRest s) }) := by
  rw [resetWork_atRest, changeCycle_rests (atRest_groutRests s) (resetState_ne_boring _)]

theorem resetWork_leaves (s : State) :
    (resetWork s).capture = {} ∧ (resetWork s).groupFlags = Vector.replicate 3 false ∧
    (resetWork s).cycle = resetState (atRest s) ∧ (resetWork s).tripCause = none ∧
    (resetWork s).furtherCauses = false ∧ (resetWork s).angle = ⟨s.angle.prev, true⟩ ∧
    (resetWork s).mass = ⟨s.mass.prev, true⟩ ∧ (resetWork s).pulse = ⟨s.pulse.prev, true⟩ ∧
    (resetWork s).screw = ⟨s.screw.mode, s.screw.manual, true⟩ ∧ (resetWork s).pointer = 0 ∧
    (resetWork s).latched = (reportsCleared s).latched ∧ (resetWork s).feed = (reportsCleared s).feed ∧
    (resetWork s).place =
      { (reportsCleared s).place with mode := .single, hold := false, timer := Timer.cancelled } ∧
    (resetWork s).cylinders = (atRest s).cylinders ∧ (resetWork s).ports = (atRest s).ports := by
  rw [resetWork_eq]
  simp [atRest_frame]

theorem resetWork_groutRests (s : State) : GroutRests (resetWork s) := by
  obtain ⟨none, stale⟩ := atRest_groutRests s
  refine ⟨?_, by simp⟩
  rw [resetWork_eq]
  simpa [servingPort] using none

theorem resetWork_cylinders (s : State) (i : Fin 16) :
    (resetWork s).cylinders[i] = { s.cylinders[i] with timer := Timer.cancelled } := by
  rw [← atRest_cylinders]
  simp only [resetWork_leaves]

theorem resetWork_underWay (s : State) : (resetWork s).place.erector.underWay = false := by
  simpa only [resetWork_leaves] using reportsCleared_underWay s

theorem resetWork_value (s : State) (o : Fin 25) : (resetWork s).outputs[o].value =
    (quietOutputs { atRest s with cycle := resetState (atRest s) }).outputs[o].value := by
  simp [resetWork_eq, markAll]

theorem resetWork_erector (s : State) :
    (resetWork s).outputs[(21 : Fin 25)].value = if s.place.erector = .idle then 0 else 3 := by
  rw [resetWork_value, quietOutputs_other (by decide) (by decide)]
  exact atRest_erector s

theorem resetWork_command (s : State) (i : Fin 16) : command (resetWork s) i = .lock := by
  rw [command, resetWork_value]
  exact (quietOutputs_command i _).trans (atRest_command s i)

/-- The group setpoints the cycle state after a reset calls for (R93). -/
theorem resetWork_group (s : State) (g : Fin 4) : (resetWork s).outputs[groupOutput g].value =
    if resetState (atRest s) = .unconfigured then 0 else heldPressure s := by
  have held : heldPressure (atRest s) = heldPressure s := by simp [heldPressure, ceiling, atRest_frame]
  rw [resetWork_value, quietOutputs_group, ← held]
  obtain h | h | h := resetState_works (atRest s) <;> rw [h] <;> rfl

/-! ### The placement -/

theorem reportsCleared_rests {s : State} (h : s.place.erector.underWay = false) :
    (reportsCleared s).place = s.place ∧ (reportsCleared s).latched = 0 := by
  have rests : (cancelReservation (clearReports s)).place.erector.underWay = false := h
  rw [reportsCleared, haltOnReset_rests rests]
  exact ⟨rfl, rfl⟩

theorem reportsCleared_working {s : State} {st : Step} (h : s.place.erector = .working st) :
    (reportsCleared s).place.erector = .halted ∧ (reportsCleared s).place.interrupted = some st ∧
    (reportsCleared s).place.current =
      (if st = .awaitSegment ∨ st = .picking then none else s.place.current) ∧
    (reportsCleared s).latched = Notice.buildAborted.bit := by
  rw [reportsCleared, haltOnReset_working (s := cancelReservation (clearReports s)) h]
  cases st <;> simp [haltPlacement, Step.beforeGrip, clearReports]

/-- The reservations are cancelled once by the reset; the halt of a placement under way finds none left. -/
theorem reportsCleared_feed (s : State) :
    (reportsCleared s).feed = s.feed.map (fun e => { e with reserved := false }) := by
  unfold reportsCleared haltOnReset haltPlacement
  split
  · split <;> simp [cancelReservation, clearReports, Function.comp_def]
  · rfl
  · rfl

/-! ### The STOP cause after it -/

theorem resetWork_ne_tripped (s : State) : (resetWork s).cycle ≠ .tripped := by
  simpa only [resetWork_leaves] using resetState_ne_tripped (atRest s)

theorem resetWork_stopAsserted (s : State) : stopAsserted (resetWork s) = stopAsserted s := by
  simp only [stopAsserted, asserted, resetWork_frame]

/-- What the STOP cause leaves as the reset made it: it finds every block at rest. -/
theorem controllerReset_frame (s : State) :
    (tripIfStop (resetWork s)).latched = (resetWork s).latched ∧
    (tripIfStop (resetWork s)).furtherCauses = (resetWork s).furtherCauses ∧
    (tripIfStop (resetWork s)).cylinders = (resetWork s).cylinders ∧
    (tripIfStop (resetWork s)).feed = (resetWork s).feed ∧ (tripIfStop (resetWork s)).place = (resetWork s).place ∧
    (tripIfStop (resetWork s)).ports = (resetWork s).ports ∧
    (tripIfStop (resetWork s)).pointer = (resetWork s).pointer :=
  tripIfStop_rests_frame (resetWork_groutRests s) (resetWork_ne_tripped s) (resetWork_underWay s)
    fun i => by rw [resetWork_cylinders]; rfl

theorem controllerReset_running {s : State} (h : stopAsserted s = false) : tripIfStop (resetWork s) = resetWork s := by
  rw [tripIfStop, resetWork_stopAsserted, h]
  rfl

theorem controllerReset_stopped {s : State} (h : stopAsserted s = true) :
    tripIfStop (resetWork s) = trip .stop (resetWork s) := by
  rw [tripIfStop, resetWork_stopAsserted, h]
  rfl

theorem resetWork_idle_iff (s : State) : (resetWork s).place.erector = .idle ↔ s.place.erector = .idle := by
  simp only [resetWork_leaves]
  cases h : s.place.erector with
  | idle => rw [(reportsCleared_rests (by rw [h]; rfl)).1, h]
  | working st => simp [(reportsCleared_working h).1]
  | halted => rw [(reportsCleared_rests (by rw [h]; rfl)).1, h]

/-- With STOP asserted every output stands at its safe value, the erector's at HALT. -/
theorem controllerReset_stopped_value {s : State} (h : stopAsserted s = true) (o : Fin 25) :
    (tripIfStop (resetWork s)).outputs[o].value = if o = 23 then 255 else if o = 21 then 3 else 0 := by
  rw [controllerReset_stopped h, trip_rests_value (resetWork_groutRests s) (resetWork_ne_tripped s)
    (resetWork_underWay s), resetWork_erector]
  by_cases idle : s.place.erector = .idle <;> simp [resetWork_idle_iff, idle]

theorem resetWork_allMarked (s : State) : AllMarked (resetWork s) := by
  rw [resetWork_eq]
  exact allMarked_markAll _

theorem controllerReset_allMarked (s : State) : AllMarked (tripIfStop (resetWork s)) := by
  unfold tripIfStop
  split
  · exact (resetWork_allMarked s).trip_rests (resetWork_groutRests s) (resetWork_ne_tripped s) (resetWork_underWay s) _
  · exact resetWork_allMarked s

end Sys2Proof.Machine

/-! ### What CONTROLLER_RESET leaves, stopped or not -/

namespace Sys2Proof.Machine

/-- What the reset keeps, and what it sets whether STOP is asserted or not. -/
theorem controllerReset_kept (s : State) : tripIfStop (resetWork s) = { s with
    latched := (tripIfStop (resetWork s)).latched, capture := {}
    channels := (tripIfStop (resetWork s)).channels, outputs := (tripIfStop (resetWork s)).outputs
    groupFlags := Vector.replicate 3 false, cycle := (tripIfStop (resetWork s)).cycle
    tripCause := (tripIfStop (resetWork s)).tripCause, furtherCauses := false
    angle := ⟨s.angle.prev, true⟩, cylinders := (tripIfStop (resetWork s)).cylinders
    mass := ⟨s.mass.prev, true⟩, feed := (tripIfStop (resetWork s)).feed
    place := (tripIfStop (resetWork s)).place, ports := (tripIfStop (resetWork s)).ports, pointer := 0
    pulse := ⟨s.pulse.prev, true⟩, screw := ⟨s.screw.mode, s.screw.manual, true⟩ } := by
  rw [State.eq_iff]
  simp [controllerReset_frame, resetWork_leaves]

theorem controllerReset_channels (s : State) (c : Fin 30) :
    (tripIfStop (resetWork s)).channels[c] = { s.channels[c] with fresh := false, timer := ⟨0, false⟩ } := by
  simp [Timer.cancelled]

theorem controllerReset_feed (s : State) :
    (tripIfStop (resetWork s)).feed = s.feed.map (fun e => { e with reserved := false }) := by
  rw [← reportsCleared_feed]
  simp only [controllerReset_frame, resetWork_leaves]

theorem controllerReset_cylinder (s : State) (i : Fin 16) :
    (tripIfStop (resetWork s)).cylinders[i] = { s.cylinders[i] with timer := ⟨0, false⟩ } := by
  simp only [controllerReset_frame]
  exact resetWork_cylinders s i

theorem controllerReset_port (s : State) (p : Fin 6) : (tripIfStop (resetWork s)).ports[p] = { s.ports[p] with
    state := if s.ports[p].state = .serving ∨ s.ports[p].state = .pressureHold then .idle else s.ports[p].state
    timer := ⟨0, false⟩ } := by
  rw [← afterReset_eq]
  simp only [controllerReset_frame, resetWork_leaves]
  exact atRest_ports s p

/-- The placement is the one the reset left: the STOP cause after it finds none under way (R53, R140). -/
theorem controllerReset_place (s : State) : (tripIfStop (resetWork s)).place =
    { (reportsCleared s).place with mode := .single, hold := false, timer := ⟨0, false⟩ } ∧
    (tripIfStop (resetWork s)).latched = (reportsCleared s).latched := by
  simp [controllerReset_frame, resetWork_leaves, Timer.cancelled]

/-! ### Its outputs -/

theorem controllerReset_command (s : State) (i : Fin 16) : command (tripIfStop (resetWork s)) i = .lock := by
  cases h : stopAsserted s with
  | false =>
    rw [controllerReset_running h]
    exact resetWork_command s i
  | true =>
    rw [command, controllerReset_stopped_value h, if_neg (cylinderOutput_ne (by decide) i),
      if_neg (cylinderOutput_ne (by decide) i)]
    rfl

theorem controllerReset_erector (s : State) : (tripIfStop (resetWork s)).outputs[(21 : Fin 25)].value =
    if s.place.erector = .idle ∧ stopAsserted s = false then 0 else 3 := by
  cases h : stopAsserted s with
  | false =>
    rw [controllerReset_running h, resetWork_erector]
    simp
  | true =>
    rw [controllerReset_stopped_value h]
    simp

/-- The permit, the screw, the valve and the pump stand at rest (R38, R145, R162). -/
theorem controllerReset_rests (s : State) : (tripIfStop (resetWork s)).outputs[(0 : Fin 25)].value = 0 ∧
    (tripIfStop (resetWork s)).outputs[(22 : Fin 25)].value = 0 ∧
    (tripIfStop (resetWork s)).outputs[(23 : Fin 25)].value = 255 ∧
    (tripIfStop (resetWork s)).outputs[(24 : Fin 25)].value = 0 := by
  cases h : stopAsserted s with
  | false =>
    simp only [controllerReset_running h, resetWork_value]
    exact ⟨quietOutputs_permit _, quietOutputs_screw _, quietOutputs_valve _, quietOutputs_pump _⟩
  | true =>
    simp only [controllerReset_stopped_value h]
    decide

/-! ### The cycle -/

/-- Without STOP the cycle state is the one R52 gives, the groups at the setpoint of R93 for it. -/
theorem controllerReset_cycle_running {s : State} (h : stopAsserted s = false) :
    (tripIfStop (resetWork s)).tripCause = none ∧
    (tripIfStop (resetWork s)).cycle = (if s.configured = false then .unconfigured
      else if s.rings.any (fun r => r.state == .building) then .building else .standstill) ∧
    GroupsAt (tripIfStop (resetWork s))
      (fun _ => if (tripIfStop (resetWork s)).cycle = .unconfigured then 0 else heldPressure s) := by
  have cycle : (resetWork s).cycle = resetState (atRest s) := by simp only [resetWork_leaves]
  rw [controllerReset_running h, cycle]
  refine ⟨by simp only [resetWork_leaves], by simp only [resetState_eq, atRest_frame], fun g => ?_⟩
  exact resetWork_group s g

theorem controllerReset_cycle_stopped {s : State} (h : stopAsserted s = true) :
    (tripIfStop (resetWork s)).cycle = .tripped ∧ (tripIfStop (resetWork s)).tripCause = some .stop ∧
    GroupsAt (tripIfStop (resetWork s)) (fun _ => 0) := by
  have frame := trip_rests_frame (resetWork_groutRests s) (resetWork_ne_tripped s) (resetWork_underWay s) .stop
  rw [← controllerReset_stopped h] at frame
  refine ⟨by simp only [frame], by simp only [frame], fun g => ?_⟩
  rw [controllerReset_stopped_value h, if_neg (groupOutput_ne (by decide) g), if_neg (groupOutput_ne (by decide) g)]

end Sys2Proof.Machine

namespace Sys2Proof.Certificates

open Machine

/-- Settles O5: every block is brought to rest by the reset, so the STOP cause after it finds none to bring to rest. -/
theorem controllerReset : Obligations.ControllerReset := by
  intro r s hargs
  obtain ⟨place, latched⟩ := controllerReset_place s
  obtain ⟨permit, screw, valve, pump⟩ := controllerReset_rests s
  refine ⟨tripIfStop (resetWork s), exec_owner rfl (by rw [hargs]; rfl) rfl, controllerReset_kept s,
    controllerReset_channels s, controllerReset_feed s,
    fun i => ⟨controllerReset_command s i, controllerReset_cylinder s i⟩, controllerReset_port s, ?_, ?_,
    controllerReset_erector s, by rw [place], by rw [place], by rw [place], controllerReset_allMarked s,
    permit, screw, valve, pump, controllerReset_cycle_running, controllerReset_cycle_stopped⟩
  · intro st working
    rw [place, latched]
    exact reportsCleared_working working
  · intro rests
    obtain ⟨kept, none⟩ := reportsCleared_rests rests
    rw [place, latched, kept]
    exact ⟨rfl, rfl, rfl, none⟩

end Sys2Proof.Certificates

/-! ## Sample messages (R18, R19)

What an arrival leaves in its channel record, and what no owner of a channel touches. -/

namespace Sys2Proof.Machine

/-- No sample touches the screw's mode or its manual speed: the chamber pressure sets its held mark alone (R165). -/
theorem chamberSample_modes (pressure : Nat) (s : State) :
    (chamberSample pressure s).screw.mode = s.screw.mode ∧
    (chamberSample pressure s).screw.manual = s.screw.manual := by
  unfold chamberSample
  dsimp only
  split <;> simp

theorem deliver_modes (c : Fin 30) (value : Nat) (first : Bool) (before s : State) :
    (deliver c value first before s).screw.mode = s.screw.mode ∧
    (deliver c value first before s).screw.manual = s.screw.manual := by
  unfold deliver
  repeat' split
  all_goals simp [chamberSample_modes]

theorem arrive_modes (c : Fin 30) (v : Nat) (s : State) :
    (arrive c v s).screw.mode = s.screw.mode ∧ (arrive c v s).screw.manual = s.screw.manual := by
  simp [arrive, deliver_modes]

theorem arrive_channels (c : Fin 30) (v : Nat) (s : State) :
    (arrive c v s).channels = s.channels.set c (s.channels[c].taken (upperEnd c) s.params.staleTime v) := by
  simp [arrive, takeSample]

/-- Settles O44: the Field Port writes the record, and the sample's owner changes no channel record. -/
theorem samplesTaken : Obligations.SamplesTaken := by
  intro c v s
  refine ⟨arrive c v.toNat s, rfl, ?_, ?_⟩
  · simp [arrive_channels, Channel.taken, Channel.lapse, Timer.load]
  · simp [arrive_modes]

/-- A message whose check byte or channel number is wrong reaches no channel (R18). -/
theorem receiveMessage_discarded {channel : Byte} {v : Word16} {check : Byte} {s : State}
    (h : check ≠ sampleCheck channel v ∨ 29 < channel.toNat) : receiveMessage channel v check s = s := by
  unfold receiveMessage
  split
  · next sound =>
    have high : ¬ channel.toNat < 30 := by
      have := h.resolve_left (not_not_intro sound)
      omega
    simp [indexArg, high]
  · rfl

/-- Settles O45: the check byte of a sample message covers its channel and value bytes. -/
theorem damagedMessagesDiscarded : Obligations.DamagedMessagesDiscarded := by
  refine ⟨fun channel v check s h => congrArg Host.Outcome.next (receiveMessage_discarded h),
    fun channel c v s h => congrArg Host.Outcome.next ?_⟩
  have index : indexArg 30 channel.toNat = some c := by simp [indexArg, h]
  have sound : crc8 (channel :: beBytes 2 v.toNat) = sampleCheck channel v := rfl
  rw [receiveMessage, if_pos sound, index]

end Sys2Proof.Machine

/-! ## The Grout Controller's settling (R144 to R146, R150)

Which port is SERVING, how a shot ends, and what the valve and the pump then hold. -/

namespace Sys2Proof.Machine

/-! ### The SERVING port -/

theorem serving_of_servingPort {s : State} {p : Fin 6} (h : servingPort s = some p) : s.ports[p].state = .serving := by
  simpa using List.find?_some h

theorem servingPort_eq_none {s : State} : servingPort s = none ↔ ∀ p : Fin 6, s.ports[p].state ≠ .serving := by
  simp [servingPort, List.find?_eq_none]

theorem servingPort_congr {s t : State} (h : t.ports = s.ports) : servingPort t = servingPort s := by
  simp only [servingPort, h]

/-! ### Port records -/

theorem setPort_get (p q : Fin 6) (f : Port → Port) (s : State) :
    (setPort p f s).ports[q] = if q = p then f s.ports[p] else s.ports[q] := by
  by_cases h : q = p
  · subst h
    simp [setPort]
  · have apart : p.val ≠ q.val := fun e => h (Fin.ext e.symm)
    simp [setPort, h, Vector.getElem_set_ne _ _ apart]

theorem endShot_get (p q : Fin 6) (st : PortState) (s : State) : (endShot p st s).ports[q] =
    if q = p then { s.ports[p] with state := st, timer := s.ports[p].timer.freeze } else s.ports[q] :=
  setPort_get p q _ s

/-- The shot of the SERVING port, where there is one, ends with the port IDLE (R150). -/
def endServing (s : State) : State :=
  match servingPort s with
  | some p => endShot p .idle s
  | none => s

theorem endServing_of_none {s : State} (h : servingPort s = none) : endServing s = s := by
  rw [endServing, h]

theorem endServing_of_some {s : State} {p : Fin 6} (h : servingPort s = some p) :
    endServing s = endShot p .idle s := by
  rw [endServing, h]

@[simp] theorem endServing_frame (s : State) :
    (endServing s).outputs = s.outputs ∧ (endServing s).pointer = s.pointer ∧
    (endServing s).channels = s.channels ∧ (endServing s).params = s.params := by
  unfold endServing
  split <;> simp

theorem endServing_get {s : State} (one : OneServing s) (p : Fin 6) : (endServing s).ports[p] =
    if s.ports[p].state = .serving then { s.ports[p] with state := .idle, timer := s.ports[p].timer.freeze }
    else s.ports[p] := by
  cases found : servingPort s with
  | none => rw [endServing_of_none found, if_neg (servingPort_eq_none.mp found p)]
  | some q =>
    have serving := serving_of_servingPort found
    rw [endServing_of_some found, endShot_get]
    by_cases h : p = q
    · subst h
      rw [if_pos rfl, if_pos serving]
    · rw [if_neg h, if_neg fun other => h (one p q other serving)]

/-- A port's record is as it was, or its shot has ended. -/
theorem endServing_get_or (s : State) (p : Fin 6) :
    (endServing s).ports[p] = s.ports[p] ∨ (endServing s).ports[p].state = .idle := by
  unfold endServing
  split
  · rw [endShot_get]
    split
    · exact .inr rfl
    · exact .inl rfl
  · exact .inl rfl

theorem endServing_serving {s : State} (one : OneServing s) : servingPort (endServing s) = none := by
  rw [servingPort_eq_none]
  intro p
  rw [endServing_get one]
  split
  · nofun
  · assumption

/-- With channel 23 STALE and the shot ended, grouting is at rest. -/
theorem endServing_rests {s : State} (one : OneServing s) (stale : s.channels[(23 : Fin 30)].fresh = false) :
    GroutRests (endServing s) :=
  ⟨endServing_serving one, by simpa using stale⟩

/-! ### Settling -/

/-- The ports before the outputs follow them: a shot ended, or a search made (R146, R150). -/
def portsSettled (s : State) : State :=
  if groutAllowed s then (if (servingPort s).isNone then search s else s) else endServing s

theorem groutSettle_eq (s : State) : groutSettle s = groutOutputs (portsSettled s) := rfl

theorem portsSettled_forbidden {s : State} (h : groutAllowed s = false) : portsSettled s = endServing s := by
  rw [portsSettled, h, if_neg (by decide)]

/-- No search is made while channel 23 is STALE (R146). -/
theorem portsSettled_stale {s : State} (stale : s.channels[(23 : Fin 30)].fresh = false) :
    portsSettled s = s ∨ portsSettled s = endServing s := by
  have noSearch : search s = s := by rw [search, stale, if_neg (by decide)]
  unfold portsSettled
  rw [noSearch, ite_self]
  split
  · exact .inl rfl
  · exact .inr rfl

@[simp] theorem portsSettled_outputs (s : State) : (portsSettled s).outputs = s.outputs := by
  unfold portsSettled
  repeat' split
  all_goals simp

@[simp] theorem portsSettled_params (s : State) : (portsSettled s).params = s.params := by
  unfold portsSettled
  repeat' split
  all_goals simp

/-- The value of the valve for a SERVING port, NONE without one (R145). -/
def valveFor (serving : Option (Fin 6)) : Nat := (serving.map Fin.val).getD 255

/-- The pump rate for a SERVING port, 0 without one (R145). -/
def pumpFor (s : State) (serving : Option (Fin 6)) : Nat := if serving.isSome then pumpRate s else 0

theorem groutOutputs_eq (s : State) : groutOutputs s =
    writeOutput 24 (pumpFor s (servingPort s)) (writeOutput 23 (valveFor (servingPort s)) s) := by
  unfold groutOutputs
  split
  · next p found => rw [found]; rfl
  · next found => rw [found]; rfl

@[simp] theorem groutSettle_ports (s : State) : (groutSettle s).ports = (portsSettled s).ports := by
  rw [groutSettle_eq, groutOutputs_eq]
  rfl

@[simp] theorem groutSettle_pointer (s : State) : (groutSettle s).pointer = (portsSettled s).pointer := by
  rw [groutSettle_eq, groutOutputs_eq]
  rfl

theorem groutSettle_valve (s : State) : (groutSettle s).outputs[(23 : Fin 25)] =
    s.outputs[(23 : Fin 25)].write (valveFor (servingPort (portsSettled s))) := by
  rw [groutSettle_eq, groutOutputs_eq, writeOutput_other (by decide), writeOutput_get, if_pos rfl, portsSettled_outputs]

theorem groutSettle_pump (s : State) : (groutSettle s).outputs[(24 : Fin 25)] =
    s.outputs[(24 : Fin 25)].write (pumpFor s (servingPort (portsSettled s))) := by
  rw [groutSettle_eq, groutOutputs_eq, writeOutput_get, if_pos rfl, writeOutput_other (by decide), portsSettled_outputs]
  simp only [pumpFor, pumpRate, portsSettled_params]

/-- The Grout Controller writes the valve and the pump alone (R145). -/
theorem groutSettle_other {o : Fin 25} (valve : o ≠ 23) (pump : o ≠ 24) (s : State) :
    (groutSettle s).outputs[o] = s.outputs[o] := by
  rw [groutSettle_eq, groutOutputs_eq, writeOutput_other pump, writeOutput_other valve, portsSettled_outputs]

/-- Grouting is not allowed in TRIPPED (R144). -/
theorem groutAllowed_tripped {s : State} (h : s.cycle = .tripped) : groutAllowed s = false := by
  simp [groutAllowed, h, Cycle.pumpMayRun]

/-- What settling leaves with no port SERVING: the valve NONE, the pump at rest. -/
theorem groutSettle_idle {s : State} (h : servingPort (portsSettled s) = none) :
    (groutSettle s).outputs[(23 : Fin 25)].value = 255 ∧ (groutSettle s).outputs[(24 : Fin 25)].value = 0 := by
  rw [groutSettle_valve, groutSettle_pump, h]
  simp [valveFor, pumpFor]

/-! ### What settling depends on -/

/-- Two states alike in all that the Grout Controller reads: its records, the rings, the parameters, the cycle state
and whether channel 23 is FRESH. -/
def GroutAlike (s t : State) : Prop :=
  t.ports = s.ports ∧ t.pointer = s.pointer ∧ t.rotation = s.rotation ∧ t.rings = s.rings ∧ t.params = s.params ∧
    t.cycle = s.cycle ∧ t.channels[(23 : Fin 30)].fresh = s.channels[(23 : Fin 30)].fresh

theorem GroutAlike.search {s t : State} (h : GroutAlike s t) :
    (search t).ports = (search s).ports ∧ (search t).pointer = (search s).pointer := by
  obtain ⟨ports, pointer, rotation, -, params, -, fresh⟩ := h
  have entry : searchEntry t = searchEntry s := by simp only [searchEntry, ports, pointer, rotation]
  unfold Machine.search
  rw [fresh, entry]
  split
  · split
    · simp only [setPort, ports, params, and_self]
    · exact ⟨ports, pointer⟩
  · exact ⟨ports, pointer⟩

theorem GroutAlike.endServing {s t : State} (h : GroutAlike s t) : (endServing t).ports = (endServing s).ports := by
  obtain ⟨ports, -⟩ := h
  unfold Machine.endServing
  rw [servingPort_congr ports]
  split
  · simp only [endShot, setPort, ports]
  · exact ports

theorem GroutAlike.portsSettled {s t : State} (h : GroutAlike s t) :
    (portsSettled t).ports = (portsSettled s).ports ∧ (portsSettled t).pointer = (portsSettled s).pointer := by
  have ended := h.endServing
  have searched := h.search
  obtain ⟨ports, pointer, rotation, rings, params, cycle, fresh⟩ := h
  have due : deficit t = deficit s := by rw [deficit, rings, deficit]
  have rate : pumpRate t = pumpRate s := by rw [pumpRate, params, pumpRate]
  have allowed : groutAllowed t = groutAllowed s := by rw [groutAllowed, due, cycle, rate, groutAllowed]
  unfold Machine.portsSettled
  rw [allowed, servingPort_congr ports]
  repeat' split
  · exact searched
  · exact ⟨ports, pointer⟩
  · exact ⟨ended, by simpa using pointer⟩

/-- Alike states settle alike; the valve's and the pump's words are written with the same values. -/
theorem groutSettle_alike {s t : State} (h : GroutAlike s t) :
    (groutSettle t).ports = (groutSettle s).ports ∧ (groutSettle t).pointer = (groutSettle s).pointer ∧
    (∃ v, (groutSettle t).outputs[(23 : Fin 25)] = t.outputs[(23 : Fin 25)].write v ∧
      (groutSettle s).outputs[(23 : Fin 25)] = s.outputs[(23 : Fin 25)].write v) ∧
    (∃ v, (groutSettle t).outputs[(24 : Fin 25)] = t.outputs[(24 : Fin 25)].write v ∧
      (groutSettle s).outputs[(24 : Fin 25)] = s.outputs[(24 : Fin 25)].write v) := by
  obtain ⟨ports, pointer⟩ := h.portsSettled
  obtain ⟨-, -, -, -, params, -⟩ := h
  simp only [groutSettle_ports, groutSettle_pointer, groutSettle_valve, groutSettle_pump, servingPort_congr ports, ports,
    pointer, true_and]
  exact ⟨⟨_, rfl, rfl⟩, _, rfl, by simp only [pumpFor, pumpRate, params]⟩

end Sys2Proof.Machine

/-! ## Timers that reach zero (R21, R91, R134, R149) -/

namespace Sys2Proof.Machine

theorem Timer.counting_iff (t : Timer) : t.counting = true ↔ t.running = true ∧ 0 < t.value := by
  simp [Timer.counting]

theorem Timer.atZero_running {t : Timer} (h : t.running = true) : t.atZero = ⟨0, true⟩ := by
  rw [Timer.atZero, h]

/-- A cylinder is RETRACTING while it is commanded RETRACT beyond RETRACTED_AT (R88). -/
theorem derived_retracting (s : State) (i : Fin 16) :
    derived s i = .retracting ↔ command s i = .retract ∧ s.params.retractedAt < extension s i := by
  unfold derived
  cases command s i with
  | lock => simp
  | extend =>
    simp only [reduceCtorEq, false_and, iff_false]
    split <;> simp
  | retract => simp

/-! ### Staleness (R21, R22) -/

/-- What its owner keeps of a channel is to be taken anew once it is STALE (R75, R102, R151, R166). -/
theorem tellStale_anew (c : Fin 30) (s : State) :
    (tellStale c s).angle = ⟨s.angle.prev, s.angle.rebase || c == 20⟩ ∧
    (tellStale c s).mass = ⟨s.mass.prev, s.mass.rebase || c == 22⟩ ∧
    (tellStale c s).pulse = ⟨s.pulse.prev, s.pulse.rebase || c == 23⟩ ∧
    (tellStale c s).screw = { s.screw with chamberHeld := s.screw.chamberHeld || c == 21 } := by
  have number (k : Fin 30) : (c == k) = decide (c.val = k.val) := by
    rw [Bool.eq_iff_iff, beq_iff_eq, decide_eq_true_iff, Fin.ext_iff]
  rw [number, number, number, number]
  unfold tellStale
  split
  · next h => simp [h]
  split
  · next h => simp [h]
  split
  · next h => simp [h]
  split
  · next h =>
    dsimp only
    split <;> simp [h]
  · next h20 h21 h22 h23 => simp [h20, h21, h22, h23]

/-- The Grout Controller alone is told by a channel that ends shots, channel 23 (R150). -/
theorem tellStale_grout {c : Fin 30} (h : c ≠ 23) (s : State) :
    (tellStale c s).ports = s.ports ∧ (tellStale c s).outputs = s.outputs ∧ (tellStale c s).pointer = s.pointer := by
  have number : c.val ≠ 23 := fun e => h (Fin.ext e)
  unfold tellStale
  rw [if_neg number]
  repeat' split
  all_goals exact ⟨rfl, rfl, rfl⟩

/-- Channel 23 STALE ends the shot, and no search follows: the valve NONE, the pump at rest (R146, R150). -/
theorem tellStale_pulses {s : State} (one : OneServing s) (stale : s.channels[(23 : Fin 30)].fresh = false) :
    tellStale 23 s = writeOutput 24 0 (writeOutput 23 255
      (endServing { s with pulse := { s.pulse with rebase := true } })) :=
  groutSettle_rests (endServing_rests (s := { s with pulse := { s.pulse with rebase := true } }) one stale)

theorem staleExpired_channels (c : Fin 30) (s : State) : (staleExpired c s).channels =
    s.channels.set c { s.channels[c] with fresh := false, timer := s.channels[c].timer.atZero } := by
  simp [staleExpired]

/-- What an expiry of a stale timer leaves beside the channels and what the channel's owner keeps of it. -/
theorem staleExpired_eq (c : Fin 30) (s : State) : staleExpired c s = { s with
    channels := (staleExpired c s).channels, angle := (staleExpired c s).angle, screw := (staleExpired c s).screw
    mass := (staleExpired c s).mass, pulse := (staleExpired c s).pulse, ports := (staleExpired c s).ports
    outputs := (staleExpired c s).outputs, pointer := (staleExpired c s).pointer } := by
  rw [State.eq_iff]
  simp

/-- R150: what STALE of channel 23 does to the grout ports and their outputs. -/
theorem tellStale_pulses_leaves {s : State} (one : OneServing s) (stale : s.channels[(23 : Fin 30)].fresh = false) :
    (tellStale 23 s).pointer = s.pointer ∧ (tellStale 23 s).outputs[(23 : Fin 25)].value = 255 ∧
    (tellStale 23 s).outputs[(24 : Fin 25)].value = 0 ∧ OutputsKeptBut [23, 24] s (tellStale 23 s) ∧
    ∀ p : Fin 6, (tellStale 23 s).ports[p] = if s.ports[p].state = .serving then
      { s.ports[p] with state := .idle, timer := s.ports[p].timer.freeze } else s.ports[p] := by
  rw [tellStale_pulses one stale]
  refine ⟨by simp, ?_, writeOutput_value_self _ _ _, fun o ho => ?_, endServing_get one⟩
  · rw [writeOutput_other (by decide), writeOutput_value_self]
  · have apart : o ≠ 24 ∧ o ≠ 23 := by
      constructor <;> rintro rfl <;> simp at ho
    rw [writeOutput_other apart.1, writeOutput_other apart.2]
    simp

/-! ### The expiries as commands -/

/-- The retract timer stops at zero, with RETRACT_LATE where the cylinder is RETRACTING (R91). -/
theorem retractExpired_eq {i : Fin 16} {s : State} (h : s.cylinders[i].timer.running = true) :
    retractExpired i s = { s with
      cylinders := s.cylinders.set i { s.cylinders[i] with timer := ⟨0, true⟩ }
      latched := if command s i = .retract ∧ s.params.retractedAt < extension s i then
          s.latched ||| Notice.retractLate.bit
        else s.latched } := by
  rw [retractExpired, setCylinder, Timer.atZero_running h]
  by_cases late : command s i = .retract ∧ s.params.retractedAt < extension s i
  · rw [if_pos late, (derived_retracting s i).mpr late]
    rfl
  · rw [if_neg late, beq_false_of_ne fun e => late ((derived_retracting s i).mp e)]
    rfl

/-- The expiry of a channel's stale timer: its record, and what its owner keeps of it (R21, R22). -/
theorem staleExpired_record {c : Fin 30} {s : State} (h : s.channels[c].timer.running = true) :
    staleExpired c s =
      tellStale c { s with channels := s.channels.set c { s.channels[c] with fresh := false, timer := ⟨0, true⟩ } } := by
  rw [staleExpired, Timer.atZero_running h]

/-- The command of an expiry acts on a timer that counts above zero, and on no other (log 2). -/
theorem ite_counting {t : Timer} (a b : State) :
    (if t.counting then a else b) = if t.running = true ∧ 0 < t.value then a else b :=
  if_congr t.counting_iff rfl rfl

/-- Settles O32. -/
theorem timersExpire : Obligations.TimersExpire := by
  refine ⟨fun i s => congrArg Host.Outcome.next ?_, fun s => congrArg Host.Outcome.next ?_, fun c s => ?_,
    fun p s serving running counting => ⟨_, rfl, ?_⟩, fun p s h => congrArg Host.Outcome.next ?_⟩
  · rw [ite_counting]
    exact ite_congr rfl (fun counting => retractExpired_eq counting.1) fun _ => rfl
  · rw [ite_counting]
    refine ite_congr rfl (fun counting => ?_) fun _ => rfl
    rw [stepExpired, Timer.atZero_running counting.1]
    rfl
  · refine ⟨_, congrArg Host.Outcome.next (ite_counting _ _), fun not => if_neg not, fun running counting => ?_⟩
    rw [if_pos ⟨running, counting⟩, staleExpired_record running]
    generalize hu : { s with channels := s.channels.set c { s.channels[c] with fresh := false, timer := ⟨0, true⟩ } } = u
    obtain ⟨angle, mass, pulse, screw⟩ := tellStale_anew c u
    refine ⟨by simp [← hu], ?_, by rw [angle, ← hu], by rw [mass, ← hu], by rw [pulse, ← hu], by rw [screw, ← hu],
      fun other => ?_, fun grout law => ?_⟩
    · rw [State.eq_iff]
      simp [← hu]
    · rw [← hu]
      exact tellStale_grout other _
    · subst grout hu
      exact tellStale_pulses_leaves law.1 (by simp)
  · rw [if_pos ⟨serving, (Timer.counting_iff _).mpr ⟨running, counting⟩⟩, blockExpired, setPort,
      Timer.atZero_running running]
    rfl
  · rw [if_neg fun due => h ⟨due.1, (Timer.counting_iff _).mp due.2⟩]

end Sys2Proof.Machine

/-! ## Notices raised (R8) -/

namespace Sys2Proof.Machine

theorem raise_getLsbD (n m : Notice) (s : State) :
    (raise n s).latched.getLsbD m.number = (s.latched.getLsbD m.number || decide (m = n)) := by
  rw [raise_latched, BitVec.getLsbD_or, Notice.bit_getLsbD, decide_eq_decide.mpr eq_comm]

/-- Nothing is raised where the latched notices are as they were. -/
theorem noticesRaised_none {s t : State} (h : t.latched = s.latched) : NoticesRaised (fun _ => False) s t := by
  simp [NoticesRaised, h]

theorem noticesRaised_raise (n : Notice) (s : State) : NoticesRaised (fun m => m = n) s (raise n s) := by
  intro m
  rw [raise_getLsbD, Bool.or_eq_true, decide_eq_true_iff]

/-- What is raised on the way to a state and what is raised from there on. -/
theorem NoticesRaised.trans {p q : Notice → Prop} {s t u : State} (h : NoticesRaised p s t) (g : NoticesRaised q t u) :
    NoticesRaised (fun n => p n ∨ q n) s u := by
  intro n
  rw [g n, h n, or_assoc]

theorem NoticesRaised.congr {p q : Notice → Prop} {s t : State} (h : NoticesRaised p s t) (e : ∀ n, p n ↔ q n) :
    NoticesRaised q s t := by
  intro n
  rw [h n, e n]

/-- What latches is all that counts of the later state. -/
theorem NoticesRaised.of_latched {p : Notice → Prop} {s t u : State} (h : NoticesRaised p s t)
    (e : u.latched = t.latched) : NoticesRaised p s u := by
  intro n
  rw [e, h n]

end Sys2Proof.Machine

/-! ## A change of cycle state, and a trip, of a part at work (R35, R49, R50) -/

namespace Sys2Proof.Machine

/-! ### The change of cycle state -/

theorem screwFollow_other {o : Fin 25} (h : o ≠ 22) (was : Bool) (s : State) :
    (screwFollow was s).outputs[o] = s.outputs[o] := by
  unfold screwFollow
  split
  · split
    · rfl
    · exact writeOutput_other h _ _
  · exact writeOutput_other h _ _

/-- The Grout Controller settles last, on the new cycle state (R35, R144). -/
theorem changeCycle_groutFollows (c : Cycle) (s : State) : GroutFollows { s with cycle := c } (changeCycle c s) := by
  generalize hu : screwFollow (screwRunning s) (deriveSetpoints (evalPermit { s with cycle := c })) = u
  have run : changeCycle c s = groutSettle u := by rw [← hu]; rfl
  have alike : GroutAlike { s with cycle := c } u := by simp [GroutAlike, ← hu]
  have kept {o : Fin 25} (h : 22 < o.val) : u.outputs[o] = s.outputs[o] := by
    have apart : o ≠ 22 ∧ o ≠ 0 := by
      constructor <;> rintro rfl <;> simp at h
    rw [← hu, screwFollow_other apart.1, deriveSetpoints_other (by omega), evalPermit_other apart.2]
  obtain ⟨ports, pointer, ⟨v, valve, valve'⟩, w, pump, pump'⟩ := groutSettle_alike alike
  rw [run]
  exact ⟨ports, pointer, by rw [valve, valve', kept (by decide)], by rw [pump, pump', kept (by decide)]⟩

/-- Out of BORING every word but the valve's and the pump's is that of a part that neither bores nor grouts. -/
theorem changeCycle_output {c : Cycle} (hc : c ≠ .boring) {o : Fin 25} (valve : o ≠ 23) (pump : o ≠ 24) (s : State) :
    (changeCycle c s).outputs[o] = (quietOutputs { s with cycle := c }).outputs[o] := by
  have permit : permitDue { s with cycle := c } = false := by simp [permitDue, hc]
  have screw : screwRunning (deriveSetpoints (evalPermit { s with cycle := c })) = false := by
    simp [screwRunning, hc]
  rw [changeCycle, groutSettle_other valve pump, screwFollow, screw, evalPermit, permit, quietOutputs,
    writeOutput_other pump, writeOutput_other valve]
  rfl

/-! ### The placement at a trip (R139) -/

theorem placementOnTrip_other {o : Fin 25} (h : o ≠ 21) (s : State) :
    (placementOnTrip s).outputs[o] = s.outputs[o] := by
  unfold placementOnTrip haltPlacement
  split
  · dsimp only [raise_outputs, writeErector]
    rw [writeOutput_other h]
    split <;> rfl
  · exact writeOutput_other h _ s
  · rfl

theorem haltPlacement_erector (st : Step) (s : State) :
    (haltPlacement st s).outputs[(21 : Fin 25)].value = 3 := writeOutput_value_self _ _ _

/-- The halted placement keeps its slot once it has gripped the segment (R136). -/
theorem haltPlacement_place (st : Step) (s : State) : (haltPlacement st s).place = { s.place with
    erector := .halted, interrupted := some st, timer := { s.place.timer with running := false }
    current := if st = .awaitSegment ∨ st = .picking then none else s.place.current } := by
  cases st <;> simp [haltPlacement, Step.beforeGrip, cancelReservation, Timer.freeze]

theorem haltPlacement_feed (st : Step) (s : State) : (haltPlacement st s).feed =
    if st = .awaitSegment ∨ st = .picking then s.feed.map (fun e => { e with reserved := false }) else s.feed := by
  cases st <;> simp [haltPlacement, Step.beforeGrip, cancelReservation]

theorem haltPlacement_latched (st : Step) (s : State) :
    (haltPlacement st s).latched = s.latched ||| Notice.buildAborted.bit := by
  cases st <;> simp [haltPlacement, Step.beforeGrip, cancelReservation]

theorem placementOnTrip_tripped (s : State) : PlacementTripped s (placementOnTrip s) := by
  unfold PlacementTripped placementOnTrip
  cases s.place.erector with
  | idle =>
    refine ⟨nofun, fun _ => ⟨by simp, by simp, writeOutput_value_self _ _ _⟩, nofun⟩
  | working st =>
    refine ⟨fun _ same => ?_, nofun, nofun⟩
    cases same
    exact ⟨haltPlacement_place st s, haltPlacement_feed st s, haltPlacement_erector st s⟩
  | halted => exact ⟨nofun, nofun, fun _ => ⟨rfl, rfl, rfl⟩⟩

theorem placementOnTrip_raises (s : State) :
    NoticesRaised (fun n => n = .buildAborted ∧ s.place.erector.underWay = true) s (placementOnTrip s) := by
  unfold placementOnTrip
  cases s.place.erector with
  | idle => exact (noticesRaised_none (by simp)).congr (by simp [Erector.underWay])
  | working st =>
    exact ((noticesRaised_raise .buildAborted s).of_latched (haltPlacement_latched st s)).congr
      (by simp [Erector.underWay])
  | halted => exact (noticesRaised_none rfl).congr (by simp [Erector.underWay])

/-- What a trip does to the placement reads the placement, the feed queue and the erector's word alone. -/
theorem PlacementTripped.of_before {s u t : State} (h : PlacementTripped u t) (place : u.place = s.place)
    (feed : u.feed = s.feed) (erector : u.outputs[(21 : Fin 25)] = s.outputs[(21 : Fin 25)]) :
    PlacementTripped s t := by
  simpa only [PlacementTripped, place, feed, erector] using h

/-! ### The trip -/

/-- The blocks' state on which the placement is halted: TRIPPED told to them, every cylinder LOCKed (R49, R89). -/
def trippedBlocks (cause : TripCause) (s : State) : State :=
  lockAll (changeCycle .tripped { s with tripCause := some cause })

theorem trip_eq {s : State} (h : s.cycle ≠ .tripped) (cause : TripCause) :
    trip cause s = placementOnTrip (trippedBlocks cause s) := by
  rw [trip, if_neg h]
  rfl

theorem trip_further {s : State} (h : s.cycle = .tripped) (cause : TripCause) :
    trip cause s = { s with furtherCauses := true } := by
  rw [trip, if_pos h]

@[simp] theorem trippedBlocks_frame (cause : TripCause) (s : State) :
    (trippedBlocks cause s).latched = s.latched ∧ (trippedBlocks cause s).place = s.place ∧
    (trippedBlocks cause s).feed = s.feed ∧ (trippedBlocks cause s).cycle = .tripped ∧
    (trippedBlocks cause s).tripCause = some cause ∧ (trippedBlocks cause s).furtherCauses = s.furtherCauses := by
  simp [trippedBlocks]

/-- In TRIPPED every word but the Grout Controller's stands at its safe value, the erector's as it was. -/
theorem trippedBlocks_value (cause : TripCause) {o : Fin 25} (valve : o ≠ 23) (pump : o ≠ 24) (s : State) :
    (trippedBlocks cause s).outputs[o].value = if o = 21 then s.outputs[(21 : Fin 25)].value else 0 := by
  have safe := lockAll_quietOutputs_value (s := { s with tripCause := some cause, cycle := .tripped }) rfl o
  rw [if_neg valve] at safe
  rw [← safe, trippedBlocks]
  simp only [lockAll, commandWhere_get, changeCycle_output (c := .tripped) nofun valve pump]

theorem trippedBlocks_erector (cause : TripCause) (s : State) :
    (trippedBlocks cause s).outputs[(21 : Fin 25)] = s.outputs[(21 : Fin 25)] := by
  rw [trippedBlocks, lockAll_other (by decide), changeCycle_output (c := .tripped) nofun (by decide) (by decide),
    quietOutputs_other (by decide) (by decide)]

/-- In TRIPPED the shot under way ends and no search is made (R144, R150). -/
theorem groutSettle_tripped {s : State} (h : s.cycle = .tripped) :
    (groutSettle s).pointer = s.pointer ∧ (groutSettle s).ports = (endServing s).ports := by
  simp [portsSettled_forbidden (groutAllowed_tripped h)]

theorem groutSettle_tripped_outputs {s : State} (h : s.cycle = .tripped) (one : OneServing s) :
    (groutSettle s).outputs[(23 : Fin 25)].value = 255 ∧ (groutSettle s).outputs[(24 : Fin 25)].value = 0 := by
  apply groutSettle_idle
  rw [portsSettled_forbidden (groutAllowed_tripped h), endServing_serving one]

theorem trippedBlocks_pointer (cause : TripCause) (s : State) : (trippedBlocks cause s).pointer = s.pointer := by
  obtain ⟨-, pointer, -⟩ := changeCycle_groutFollows .tripped { s with tripCause := some cause }
  rw [trippedBlocks, show ∀ u, (lockAll u).pointer = u.pointer by simp, pointer, (groutSettle_tripped rfl).1]

theorem trippedBlocks_grout (cause : TripCause) {s : State} (one : OneServing s) :
    (trippedBlocks cause s).outputs[(23 : Fin 25)].value = 255 ∧
    (trippedBlocks cause s).outputs[(24 : Fin 25)].value = 0 ∧
    ∀ p : Fin 6, (trippedBlocks cause s).ports[p] = if s.ports[p].state = .serving then
      { s.ports[p] with state := .idle, timer := { s.ports[p].timer with running := false } } else s.ports[p] := by
  obtain ⟨ports, -, valve, pump⟩ := changeCycle_groutFollows .tripped { s with tripCause := some cause }
  have safe := groutSettle_tripped_outputs (s := { s with tripCause := some cause, cycle := .tripped }) rfl one
  refine ⟨?_, ?_, fun p => ?_⟩
  · rw [trippedBlocks, lockAll_other (by decide), valve]
    exact safe.1
  · rw [trippedBlocks, lockAll_other (by decide), pump]
    exact safe.2
  · rw [trippedBlocks, show ∀ u, (lockAll u).ports = u.ports by simp, ports, (groutSettle_tripped rfl).2]
    exact endServing_get (s := { s with tripCause := some cause, cycle := .tripped }) one p

theorem trippedBlocks_locked (cause : TripCause) (s : State) : AllLocked s (trippedBlocks cause s) := by
  intro i
  refine ⟨lockAll_command i _, ?_⟩
  rw [trippedBlocks, lockAll_cylinder]
  simp [Timer.freeze]

/-- R49: what a cause does to a part that is not TRIPPED. -/
theorem trip_taken {s : State} (h : s.cycle ≠ .tripped) (cause : TripCause) : TripTaken cause s (trip cause s) := by
  have value {o : Fin 25} (valve : o ≠ 23) (pump : o ≠ 24) (other : o ≠ 21) :
      (trip cause s).outputs[o].value = 0 := by
    rw [trip_eq h, placementOnTrip_other other, trippedBlocks_value cause valve pump, if_neg other]
  have locked : AllLocked s (trip cause s) := by
    intro i
    rw [trip_eq h, command, placementOnTrip_other (cylinderOutput_ne (by decide) i),
      show ∀ u, (placementOnTrip u).cylinders = u.cylinders by simp]
    exact trippedBlocks_locked cause s i
  refine ⟨by simp [trip_eq h], by simp [trip_eq h], by simp [trip_eq h], value (by decide) (by decide) (by decide),
    fun g => value (groupOutput_ne (by decide) g) (groupOutput_ne (by decide) g) (groupOutput_ne (by decide) g), locked,
    value (by decide) (by decide) (by decide), ?_, fun one => ?_⟩
  · rw [trip_eq h]
    exact (placementOnTrip_tripped _).of_before (by simp) (by simp) (trippedBlocks_erector cause s)
  · obtain ⟨valve, pump, ports⟩ := trippedBlocks_grout cause one
    rw [trip_eq h, placementOnTrip_other (by decide), placementOnTrip_other (by decide)]
    refine ⟨by simp [trippedBlocks_pointer], valve, pump, fun p => ?_⟩
    rw [show ∀ u, (placementOnTrip u).ports = u.ports by simp, ports p]

/-- R136, R139: a trip raises BUILD_ABORTED where it halts a placement under way, and nothing else. -/
theorem trip_raises {s : State} (h : s.cycle ≠ .tripped) (cause : TripCause) :
    NoticesRaised (fun n => n = .buildAborted ∧ s.place.erector.underWay = true) s (trip cause s) := by
  have raised := placementOnTrip_raises (trippedBlocks cause s)
  rw [trip_eq h]
  simpa only [NoticesRaised, trippedBlocks_frame] using raised

/-- What a trip leaves beside the outputs and the cycle, the cylinders, the grout ports and the placement. -/
theorem trip_leaves {s : State} (h : s.cycle ≠ .tripped) (cause : TripCause) : trip cause s = { s with
    latched := (trip cause s).latched, cycle := (trip cause s).cycle, tripCause := (trip cause s).tripCause
    outputs := (trip cause s).outputs, cylinders := (trip cause s).cylinders, ports := (trip cause s).ports
    place := (trip cause s).place, feed := (trip cause s).feed } := by
  have kept : (trip cause s).pointer = s.pointer ∧ (trip cause s).furtherCauses = s.furtherCauses := by
    simp [trip_eq h, trippedBlocks_pointer]
  rw [State.eq_iff]
  simp [kept]

/-- What a trip does reads no more of the state before it than this. -/
theorem TripTaken.of_before {cause : TripCause} {s u t : State} (h : TripTaken cause u t)
    (further : u.furtherCauses = s.furtherCauses) (cylinders : u.cylinders = s.cylinders) (place : u.place = s.place)
    (feed : u.feed = s.feed) (outputs : u.outputs = s.outputs) (ports : u.ports = s.ports)
    (pointer : u.pointer = s.pointer) : TripTaken cause s t := by
  simpa only [TripTaken, AllLocked, PlacementTripped, OneServing, further, cylinders, place, feed, outputs, ports,
    pointer] using h

end Sys2Proof.Machine

/-! ## Discrete inputs (R28 to R32) -/

namespace Sys2Proof.Machine

/-! ### Sense events -/

/-- What the table of R28 calls a sense event where a line takes a level it did not hold. -/
def senses (mode : SenseMode) (level : Level) : Prop :=
  match mode with
  | .low => level = .low
  | .rising => level = .high
  | .falling => level = .low
  | .any => True

theorem lineEvent_iff {input : Input} {level : Level} (h : input.level ≠ level) :
    Input.lineEvent input { input with level := level } = true ↔ senses input.mode level := by
  obtain ⟨before, mode, mask⟩ := input
  cases mode <;> cases before <;> cases level <;> simp [Input.lineEvent, Input.asserted, senses] at h ⊢

/-- A line that holds its level raises no sense event. -/
theorem lineEvent_same (input : Input) : Input.lineEvent input { input with level := input.level } = false := by
  obtain ⟨level, mode, mask⟩ := input
  cases mode <;> cases level <;> rfl

theorem senseEvent_iff (input : Input) (mode : SenseMode) (mask : Bool) :
    Input.senseEvent input ⟨input.level, mode, mask⟩ = true ↔
      mode = .low ∧ input.level = .low ∧ (input.mode = .rising ∨ input.mode = .any) := by
  obtain ⟨level, before, masked⟩ := input
  cases mode <;> cases before <;> cases level <;> simp [Input.senseEvent, Input.asserted]

/-! ### The record and its group (R28, R31) -/

/-- The input record taken and its sense event judged by the mask, before the using block acts. -/
def sensed (i : Fin 12) (input : Input) (event : Bool) (s : State) : State :=
  if event then groupEvent i { s with inputs := s.inputs.set i input } else { s with inputs := s.inputs.set i input }

theorem takeInput_eq (i : Fin 12) (input : Input) (event : Bool) (s : State) :
    takeInput i input event s = useInput i event s (sensed i input event s) := rfl

theorem sensed_eq (i : Fin 12) (input : Input) (event : Bool) (s : State) : sensed i input event s = { s with
    inputs := s.inputs.set i input, groupFlags := (sensed i input event s).groupFlags
    latched := (sensed i input event s).latched } := by
  unfold sensed groupEvent
  repeat' split
  all_goals rfl

theorem sensed_raises (i : Fin 12) (input : Input) (event : Bool) (s : State) :
    NoticesRaised (fun n => n = .inputGroupChange ∧ event = true ∧ input.mask = true) s (sensed i input event s) := by
  unfold sensed groupEvent
  cases event with
  | false => exact (noticesRaised_none rfl).congr (by simp)
  | true =>
    cases masked : input.mask with
    | false => exact (noticesRaised_none (by simp [masked])).congr (by simp)
    | true =>
      exact ((noticesRaised_raise .inputGroupChange s).of_latched (by simp [masked])).congr (by simp)

theorem sensed_groupFlags (i : Fin 12) (input : Input) (event : Bool) (s : State) :
    (event = true ∧ input.mask = true →
      ∀ g : Fin 3, (sensed i input event s).groupFlags[g] = (s.groupFlags[g] || i.val / 4 == g.val)) ∧
    (event = false ∨ input.mask = false → (sensed i input event s).groupFlags = s.groupFlags) := by
  unfold sensed groupEvent
  refine ⟨?_, ?_⟩
  · rintro ⟨rfl, masked⟩ g
    by_cases h : i.val / 4 = g.val
    · simp [masked, groupIndex, h]
    · simp [masked, groupIndex, h, Vector.getElem_set_ne _ _ h]
  · rintro (rfl | unmasked)
    · rfl
    · simp [unmasked]

/-- No using block touches the input records or the group flags. -/
theorem takeInput_inputs (i : Fin 12) (input : Input) (event : Bool) (s : State) :
    (takeInput i input event s).inputs = s.inputs.set i input ∧
    (takeInput i input event s).groupFlags = (sensed i input event s).groupFlags := by
  rw [takeInput_eq, sensed_eq]
  simp

theorem takeInput_groupFlags (i : Fin 12) (input : Input) (event : Bool) (s : State) :
    (event = true ∧ input.mask = true →
      ∀ g : Fin 3, (takeInput i input event s).groupFlags[g] = (s.groupFlags[g] || i.val / 4 == g.val)) ∧
    (event = false ∨ input.mask = false → (takeInput i input event s).groupFlags = s.groupFlags) := by
  rw [(takeInput_inputs i input event s).2]
  exact sensed_groupFlags i input event s

/-! ### The using blocks (R30) -/

/-- What the block that uses an input other than the erector's can do. -/
theorem useInput_cases {i : Fin 12} (hi : i.val < 3 ∨ 6 ≤ i.val) (event : Bool) (before s : State) :
    (i = 0 ∧ stopAsserted before = false ∧ stopAsserted s = true ∧ useInput i event before s = trip .stop s) ∨
    (i = 2 ∧ doorOpen s ≠ doorOpen before ∧ useInput i event before s = evalPermit s) ∨
    (i = 6 ∧ gateOpen s ≠ gateOpen before ∧ useInput i event before s = screwFollow (screwRunning before) s) ∨
    (useInput i event before s = s ∧ (i = 0 → ¬ (stopAsserted before = false ∧ stopAsserted s = true)) ∧
      (i = 2 → doorOpen s = doorOpen before) ∧ (i = 6 → gateOpen s = gateOpen before)) := by
  have erector : i ≠ 3 ∧ i ≠ 4 ∧ i ≠ 5 := by
    refine ⟨?_, ?_, ?_⟩ <;> rintro rfl <;> simp at hi
  unfold useInput
  by_cases h0 : i = 0
  · subst h0
    cases hb : stopAsserted before <;> cases hs : stopAsserted s <;> simp
  · by_cases h2 : i = 2
    · subst h2
      by_cases h : doorOpen s = doorOpen before <;> simp [h]
    · by_cases h6 : i = 6
      · subst h6
        by_cases h : gateOpen s = gateOpen before <;> simp [h]
      · simp [h0, h2, h6, erector]

/-- Whether an input is asserted reads its record alone. -/
theorem asserted_congr {s t : State} (h : t.inputs = s.inputs) (i : Fin 12) : asserted t i = asserted s i := by
  rw [asserted, h, asserted]

theorem sensed_asserted (i j : Fin 12) (input : Input) (event : Bool) (s : State) :
    asserted (sensed i input event s) j = asserted (takeInput i input event s) j :=
  asserted_congr (by rw [(takeInput_inputs i input event s).1, sensed_eq]) j

theorem permitDue_iff (s : State) :
    permitDue s = true ↔ s.cycle = .boring ∧ doorOpen s = false ∧ s.blocking = 0 := by
  simp [permitDue, and_assoc]

theorem screwFollow_leaves (was : Bool) (s : State) :
    screwFollow was s = { s with outputs := (screwFollow was s).outputs } := by
  rw [State.eq_iff]
  simp

theorem screwFollow_stopped {s : State} (h : screwRunning s = false) (was : Bool) :
    (screwFollow was s).outputs[(22 : Fin 25)].value = 0 := by
  rw [screwFollow, h]
  exact writeOutput_value_self _ _ _

/-- The speed the screw starts at (R164). -/
theorem screwFollow_started {s : State} (h : screwRunning s = true) :
    (screwFollow false s).outputs[(22 : Fin 25)].value =
      screwClamp s (match s.screw.mode with | .auto => s.params.screwStart | .manual => s.screw.manual) := by
  rw [screwFollow, if_pos h, if_neg (by decide), startScrew, writeScrew, writeOutput_value_self]
  cases s.screw.mode <;> rfl

section acts

variable {i : Fin 12} {input : Input} {event : Bool} {s : State}

/-- STOP becoming asserted in a part that is not TRIPPED (R48, R49). -/
theorem inputActs_trips (fell : stopAsserted s = false) (rose : stopAsserted (sensed 0 input event s) = true)
    (run : takeInput 0 input event s = trip .stop (sensed 0 input event s)) (untripped : s.cycle ≠ .tripped) :
    InputActs 0 (event = true ∧ input.mask = true) s (takeInput 0 input event s) := by
  have same := sensed_eq 0 input event s
  have raised := sensed_raises 0 input event s
  have stopping : stopAsserted (takeInput 0 input event s) = true := (sensed_asserted 0 0 input event s).symm.trans rose
  generalize sensed 0 input event s = v at same raised run
  have untripped' : v.cycle ≠ .tripped := by rwa [same]
  refine ⟨fun _ _ => ⟨?_, ?_, ?_⟩, fun calm => absurd ⟨⟨rfl, fell, stopping⟩, untripped⟩ calm,
    fun _ tripped => absurd tripped untripped, ?_, nofun, nofun, nofun⟩
  · rw [run]
    exact (trip_taken untripped' .stop).of_before (by rw [same]) (by rw [same]) (by rw [same]) (by rw [same])
      (by rw [same]) (by rw [same]) (by rw [same])
  · rw [run]
    exact (raised.trans (trip_raises untripped' .stop)).congr fun n => by rw [same]
  · have left := trip_leaves untripped' .stop
    rw [run, left, same]
  · rintro (⟨-, calm⟩ | h | h)
    · exact absurd ⟨rfl, fell, stopping⟩ calm
    · cases h
    · cases h

/-- A further cause in TRIPPED is marked, and nothing else done (R50). -/
theorem inputActs_further (fell : stopAsserted s = false) (rose : stopAsserted (sensed 0 input event s) = true)
    (run : takeInput 0 input event s = trip .stop (sensed 0 input event s)) (tripped : s.cycle = .tripped) :
    InputActs 0 (event = true ∧ input.mask = true) s (takeInput 0 input event s) := by
  have same := sensed_eq 0 input event s
  have raised := sensed_raises 0 input event s
  have stopping : stopAsserted (takeInput 0 input event s) = true := (sensed_asserted 0 0 input event s).symm.trans rose
  generalize sensed 0 input event s = v at same raised run
  rw [trip_further (by rw [same]; exact tripped)] at run
  refine ⟨fun _ untripped => absurd tripped untripped, fun _ => raised.of_latched (by rw [run]), fun _ _ => ?_, ?_,
    nofun, nofun, nofun⟩
  · rw [run, same]
  · rintro (⟨-, calm⟩ | h | h)
    · exact absurd ⟨rfl, fell, stopping⟩ calm
    · cases h
    · cases h

/-- The permit follows the door (R38). -/
theorem inputActs_door (turned : doorOpen (sensed 2 input event s) ≠ doorOpen s)
    (run : takeInput 2 input event s = evalPermit (sensed 2 input event s)) :
    InputActs 2 (event = true ∧ input.mask = true) s (takeInput 2 input event s) := by
  have same := sensed_eq 2 input event s
  have raised := sensed_raises 2 input event s
  have door : doorOpen (sensed 2 input event s) = doorOpen (takeInput 2 input event s) :=
    sensed_asserted 2 2 input event s
  generalize sensed 2 input event s = v at same raised run turned door
  rw [run] at door ⊢
  refine ⟨nofun, fun _ => raised.of_latched (by simp), nofun, nofun, fun _ => ?_,
    fun _ => ⟨fun o ho => ?_, fun still => absurd (door.trans still) turned, fun _ => ?_⟩, nofun⟩
  · rw [evalPermit, same]
    rfl
  · rw [evalPermit_other (by rintro rfl; simp at ho), same]
  · rw [evalPermit_value]
    exact if_congr ((permitDue_iff v).trans (by rw [same]; rfl)) rfl rfl

/-- The screw follows its gate (R162, R164). -/
theorem inputActs_gate (turned : gateOpen (sensed 6 input event s) ≠ gateOpen s)
    (run : takeInput 6 input event s = screwFollow (screwRunning s) (sensed 6 input event s)) :
    InputActs 6 (event = true ∧ input.mask = true) s (takeInput 6 input event s) := by
  have same := sensed_eq 6 input event s
  have raised := sensed_raises 6 input event s
  have gate : gateOpen (sensed 6 input event s) = gateOpen (takeInput 6 input event s) :=
    sensed_asserted 6 6 input event s
  generalize sensed 6 input event s = v at same raised run turned gate
  rw [run] at gate ⊢
  refine ⟨nofun, fun _ => raised.of_latched (by simp), nofun, nofun, fun _ => ?_, nofun,
    fun _ => ⟨fun o ho => ?_, fun still => absurd (gate.trans still) turned, fun opened closes => ?_,
      fun closed opens => ?_⟩⟩
  · have left := screwFollow_leaves (screwRunning s) v
    rw [left, same]
  · rw [screwFollow_other (by rintro rfl; simp at ho), same]
  · exact screwFollow_stopped (by simp [screwRunning, gate.trans closes]) _
  · have rested : screwRunning s = false := by simp [screwRunning, closed]
    have runs : screwRunning v = (s.cycle == .boring) := by
      rw [screwRunning, gate.trans opens, Bool.and_true, same]
    rw [rested]
    by_cases boring : s.cycle = .boring
    · rw [if_pos boring, screwFollow_started (by simp [runs, boring]), same]
      cases s.screw.mode <;> rfl
    · rw [if_neg boring, screwFollow_stopped (by simp [runs, boring])]

/-- An input whose using block does nothing more than its record says. -/
theorem inputActs_still (run : takeInput i input event s = sensed i input event s)
    (stop : i = 0 → ¬ (stopAsserted s = false ∧ stopAsserted (sensed i input event s) = true))
    (door : i = 2 → doorOpen (sensed i input event s) = doorOpen s)
    (gate : i = 6 → gateOpen (sensed i input event s) = gateOpen s) :
    InputActs i (event = true ∧ input.mask = true) s (takeInput i input event s) := by
  have same := sensed_eq i input event s
  have raised := sensed_raises i input event s
  rw [run]
  generalize sensed i input event s = v at same raised stop door gate
  have calm : ¬ (i = 0 ∧ stopAsserted s = false ∧ stopAsserted v = true) := fun ⟨h, stopping⟩ => stop h stopping
  refine ⟨fun stopping => absurd stopping calm, fun _ => raised, fun stopping => absurd stopping calm, fun _ => ?_,
    fun _ => ?_, fun h => ⟨fun o _ => ?_, fun _ => ?_, fun turned => absurd (door h) turned⟩,
    fun h => ⟨fun o _ => ?_, fun _ => ?_, fun opened closes => ?_, fun closed opens => ?_⟩⟩
  · rw [same]
  · rw [same]
  · rw [same]
  · rw [same]
  · rw [same]
  · rw [same]
  · rw [gate h, opened] at closes
    cases closes
  · rw [gate h, closed] at opens
    cases opens

/-- What a new input record brings about in the block that uses the input. -/
theorem takeInput_acts (hi : i.val < 3 ∨ 6 ≤ i.val) (input : Input) (event : Bool) (s : State) :
    InputActs i (event = true ∧ input.mask = true) s (takeInput i input event s) := by
  obtain ⟨rfl, fell, rose, run⟩ | ⟨rfl, turned, run⟩ | ⟨rfl, turned, run⟩ | ⟨run, stop, door, gate⟩ :=
    useInput_cases hi event s (sensed i input event s)
  · by_cases tripped : s.cycle = .tripped
    · exact inputActs_further fell rose run tripped
    · exact inputActs_trips fell rose run tripped
  · exact inputActs_door turned run
  · exact inputActs_gate turned run
  · exact inputActs_still run stop door gate

end acts

/-- Settles O47. -/
theorem linesChange : Obligations.LinesChange := by
  refine ⟨fun i s => congrArg Host.Outcome.next (if_pos rfl), fun i level s moved hi =>
    ⟨_, congrArg Host.Outcome.next (if_neg moved), (takeInput_inputs i _ _ s).1, ?_⟩⟩
  show let event := senses s.inputs[i].mode level; _
  have flags := takeInput_groupFlags i { s.inputs[i] with level := level }
    (Input.lineEvent s.inputs[i] { s.inputs[i] with level := level }) s
  have acts := takeInput_acts hi { s.inputs[i] with level := level }
    (Input.lineEvent s.inputs[i] { s.inputs[i] with level := level }) s
  rw [← Bool.not_eq_true (Input.lineEvent _ _)] at flags
  rw [lineEvent_iff moved] at flags acts
  exact ⟨flags.1, flags.2, acts⟩

/-! ### SET_SENSE (R29, R32) -/

theorem SenseMode.ofCode_code (mode : SenseMode) : SenseMode.ofCode mode.code = some mode := by cases mode <;> rfl

theorem SenseMode.ofCode_above {v : Nat} (h : 3 < v) : SenseMode.ofCode v = none := by
  obtain ⟨k, rfl⟩ : ∃ k, v = k + 4 := ⟨v - 4, by omega⟩
  rfl

theorem indexArg_above {n v : Nat} (h : n ≤ v) : indexArg n v = none := by
  rw [indexArg, dif_neg (Nat.not_lt.mpr h)]

theorem field_of_three (a b c : Byte) :
    field [a, b, c] 0 1 = a.toNat ∧ field [a, b, c] 1 1 = b.toNat ∧ field [a, b, c] 2 1 = c.toNat := by
  simp [field, beNat]

/-- The arguments of SET_SENSE name the input, the mode and the mask (R32). -/
theorem setSense_fields (i : Fin 12) (mode : SenseMode) (mask : Bool) :
    let args := beBytes 1 i.val ++ beBytes 1 mode.code ++ beBytes 1 mask.toNat
    args.length = 3 ∧ indexArg 12 (field args 0 1) = some i ∧ SenseMode.ofCode (field args 1 1) = some mode ∧
      indexArg 2 (field args 2 1) = some (if mask then 1 else 0) := by
  have bytes : beBytes 1 i.val ++ beBytes 1 mode.code ++ beBytes 1 mask.toNat =
      [BitVec.ofNat 8 i.val, BitVec.ofNat 8 mode.code, BitVec.ofNat 8 mask.toNat] := rfl
  obtain ⟨first, second, third⟩ :=
    field_of_three (BitVec.ofNat 8 i.val) (BitVec.ofNat 8 mode.code) (BitVec.ofNat 8 mask.toNat)
  rw [bytes]
  refine ⟨rfl, ?_, ?_, ?_⟩
  · have small : i.val % 256 = i.val := Nat.mod_eq_of_lt (by omega)
    simp [first, small, indexArg]
  · rw [second, show (BitVec.ofNat 8 mode.code).toNat = mode.code by cases mode <;> rfl, SenseMode.ofCode_code]
  · rw [third]
    cases mask <;> rfl

/-- The record SET_SENSE leaves is the input's level with the new mode and mask. -/
theorem setSense_taken {s : State} (h : s.cycle ≠ .tripped) (i : Fin 12) (mode : SenseMode) (mask : Bool) :
    setSense (beBytes 1 i.val ++ beBytes 1 mode.code ++ beBytes 1 mask.toNat) s =
      ⟨takeInput i ⟨s.inputs[i].level, mode, mask⟩ (Input.senseEvent s.inputs[i] ⟨s.inputs[i].level, mode, mask⟩) s,
        .done, []⟩ := by
  obtain ⟨-, index, code, bit⟩ := setSense_fields i mode mask
  rw [setSense, inStates_true (ok := (· != .tripped)) (bne_iff_ne.mpr h), index, code, bit]
  cases mask <;> rfl

theorem setSense_tripped {s : State} (h : s.cycle = .tripped) (args : List Byte) :
    setSense args s = ⟨s, .wrongState, []⟩ := inStates_false (by rw [h]; rfl)

theorem setSense_bad {s : State} {args : List Byte} (h : s.cycle ≠ .tripped)
    (bad : 11 < field args 0 1 ∨ 3 < field args 1 1 ∨ 1 < field args 2 1) :
    setSense args s = ⟨s, .badArgument, []⟩ := by
  rw [setSense, inStates_true (ok := (· != .tripped)) (bne_iff_ne.mpr h)]
  obtain bad | bad | bad := bad
  · rw [indexArg_above bad]
    rfl
  · rw [SenseMode.ofCode_above bad]
    cases indexArg 12 (field args 0 1) <;> rfl
  · rw [indexArg_above (n := 2) bad]
    cases indexArg 12 (field args 0 1) <;> cases SenseMode.ofCode (field args 1 1) <;> rfl

/-- An input of the erector: its block acts on the sense event alone (R129, R131, R132). -/
theorem useInput_erector {i : Fin 12} (hi : i = 3 ∨ i = 4 ∨ i = 5) (event : Bool) (before before' s : State) :
    useInput i event before s = useInput i event before' s ∧ useInput i false before s = s := by
  obtain rfl | rfl | rfl := hi <;> exact ⟨rfl, rfl⟩

/-- In the mode LOW the fall of a line that held HIGH is the sense event of a SET_SENSE that makes it asserted. -/
theorem takeInput_erector_event {i : Fin 12} (hi : i = 3 ∨ i = 4 ∨ i = 5) (mask : Bool) (s : State) :
    exec (.lineChange i .low) { s with inputs := s.inputs.set i ⟨.high, .low, mask⟩ } =
      .next (takeInput i ⟨.low, .low, mask⟩ true s) := by
  generalize hb : ({ s with inputs := s.inputs.set i ⟨.high, .low, mask⟩ } : State) = b
  have record : b.inputs[i] = ⟨.high, .low, mask⟩ := by simp [← hb]
  have same : ({ b with inputs := b.inputs.set i ⟨.low, .low, mask⟩ } : State) =
      { s with inputs := s.inputs.set i ⟨.low, .low, mask⟩ } := by simp [← hb]
  show Host.Outcome.next (if b.inputs[i].level = .low then b else lineChange i .low b) = _
  rw [record, if_neg nofun, lineChange, record, takeInput_eq, takeInput_eq, sensed, sensed, same,
    (useInput_erector hi _ b s _).1]
  rfl

/-- Settles O48. -/
theorem senseSet : Obligations.SenseSet := by
  refine ⟨fun r i mode mask s hargs untripped => ?_, fun r s hlength untripped bad =>
      exec_owner rfl (by rw [hlength]; rfl) (setSense_bad untripped bad),
    fun r s hlength tripped => exec_owner rfl (by rw [hlength]; rfl) (setSense_tripped tripped r.args)⟩
  have taken := setSense_taken untripped i mode mask
  rw [← hargs] at taken
  refine ⟨_, exec_owner rfl (by rw [hargs]; rfl) taken, (takeInput_inputs i _ _ s).1, ?_⟩
  have flags := takeInput_groupFlags i ⟨s.inputs[i].level, mode, mask⟩
    (Input.senseEvent s.inputs[i] ⟨s.inputs[i].level, mode, mask⟩) s
  have event := senseEvent_iff s.inputs[i] mode mask
  refine ⟨fun h => flags.1 ⟨event.mpr h.1, h.2⟩, fun h => flags.2 (h.imp_left fun not => ?_), fun hi => ?_,
    fun hi none => ?_, fun hi some => ?_⟩
  · exact Bool.eq_false_iff.mpr fun h => not (event.mp h)
  · have acts := takeInput_acts hi ⟨s.inputs[i].level, mode, mask⟩
      (Input.senseEvent s.inputs[i] ⟨s.inputs[i].level, mode, mask⟩) s
    rwa [event] at acts
  · rw [Bool.eq_false_iff.mpr fun h => none (event.mp h), takeInput_eq, (useInput_erector hi false s s _).2]
    exact ⟨rfl, rfl⟩
  · rw [event.mpr some, takeInput_erector_event hi]
    obtain ⟨rfl, low, -⟩ := some
    rw [low]

end Sys2Proof.Machine

/-! ## Send marks (R26)

Whatever runs, an output word ends as it was or with its send mark set: one lemma an operation that writes output
words. Two kinds of step clear a mark or start anew, the beginning of a message and the resets. -/

namespace Sys2Proof.Machine

/-- Each word of `w` is as it was in `v`, or stands marked. -/
def Marks (v w : Vector Output 25) : Prop := ∀ o : Fin 25, w[o] = v[o] ∨ w[o].mark = true

@[simp] theorem marks_refl (v : Vector Output 25) : Marks v v := fun _ => .inl rfl

/-- A word of another value stands marked. -/
theorem Marks.marked {v w : Vector Output 25} (h : Marks v w) {o : Fin 25} (changed : w[o].value ≠ v[o].value) :
    w[o].mark = true :=
  (h o).resolve_left fun same => changed (congrArg Output.value same)

theorem AllMarked.marks {s : State} (h : AllMarked s) (v : Vector Output 25) : Marks v s.outputs := fun o => .inr (h o)

/-- A write leaves the word as it was or marks it. -/
theorem Output.write_cases (o : Output) (v : Nat) : o.write v = o ∨ (o.write v).mark = true := by
  unfold Output.write
  split
  · exact .inl rfl
  · exact .inr rfl

theorem Marks.write {v : Vector Output 25} {o : Fin 25} {x : Output} (h : x = v[o] ∨ x.mark = true) (y : Nat) :
    x.write y = v[o] ∨ (x.write y).mark = true := by
  obtain same | marked := x.write_cases y
  · rwa [same]
  · exact .inr marked

section shared

variable {v : Vector Output 25} {s : State}

/-! ### The writes -/

@[simp] theorem marks_writeOutput (h : Marks v s.outputs) (i : Fin 25) (x : Nat) :
    Marks v (writeOutput i x s).outputs := by
  intro o
  rw [writeOutput_get]
  split
  · next e => exact e ▸ Marks.write (h i) x
  · exact h o

@[simp] theorem marks_deriveSetpoints (h : Marks v s.outputs) : Marks v (deriveSetpoints s).outputs := by
  intro o
  rw [deriveSetpoints_get]
  split
  · exact Marks.write (h o) _
  · exact h o

@[simp] theorem marks_commandWhere (h : Marks v s.outputs) (chosen : Fin 16 → Bool) (c : Command)
    (owner : Option Owner) : Marks v (commandWhere chosen c owner s).outputs := by
  intro o
  rw [commandWhere_get]
  repeat' split
  · exact Marks.write (h o) _
  · exact h o
  · exact h o

/-! ### The shared operations -/

@[simp] theorem marks_writeErector (h : Marks v s.outputs) (c : ErectorCommand) :
    Marks v (writeErector c s).outputs := marks_writeOutput h _ _

@[simp] theorem marks_writeScrew (h : Marks v s.outputs) (x : Nat) : Marks v (writeScrew x s).outputs :=
  marks_writeOutput h _ _

@[simp] theorem marks_evalPermit (h : Marks v s.outputs) : Marks v (evalPermit s).outputs := marks_writeOutput h _ _

@[simp] theorem marks_lockAll (h : Marks v s.outputs) : Marks v (lockAll s).outputs := marks_commandWhere h _ _ _

@[simp] theorem marks_extendAll (h : Marks v s.outputs) : Marks v (extendAll s).outputs := marks_commandWhere h _ _ _

@[simp] theorem marks_extendSpan (h : Marks v s.outputs) (r : Ring) (slot : Slot) :
    Marks v (extendSpan r slot s).outputs := marks_commandWhere h _ _ _

@[simp] theorem marks_retractSpan (h : Marks v s.outputs) (r : Ring) (slot : Slot) :
    Marks v (retractSpan r slot s).outputs := marks_commandWhere h _ _ _

@[simp] theorem marks_groutSettle (h : Marks v s.outputs) : Marks v (groutSettle s).outputs := by
  rw [groutSettle_eq, groutOutputs_eq]
  exact marks_writeOutput (marks_writeOutput (by rwa [portsSettled_outputs]) _ _) _ _

@[simp] theorem marks_screwFollow (h : Marks v s.outputs) (was : Bool) : Marks v (screwFollow was s).outputs := by
  unfold screwFollow startScrew
  repeat' split
  all_goals simp [h]

@[simp] theorem marks_screwRange (h : Marks v s.outputs) : Marks v (screwRange s).outputs := by
  unfold screwRange
  split <;> simp [h]

@[simp] theorem marks_balanceTaken (h : Marks v s.outputs) (before : Bool) :
    Marks v (balanceTaken before s).outputs := by
  unfold balanceTaken
  split <;> simp [h]

@[simp] theorem marks_haltPlacement (h : Marks v s.outputs) (st : Step) : Marks v (haltPlacement st s).outputs := by
  unfold haltPlacement
  split <;> simp [h]

@[simp] theorem marks_placementOnTrip (h : Marks v s.outputs) : Marks v (placementOnTrip s).outputs := by
  unfold placementOnTrip
  split <;> simp [h]

@[simp] theorem marks_changeCycle (h : Marks v s.outputs) (c : Cycle) : Marks v (changeCycle c s).outputs := by
  have told : Marks v (deriveSetpoints (evalPermit { s with cycle := c })).outputs := by simp [h]
  exact marks_groutSettle (marks_screwFollow told _)

@[simp] theorem marks_trip (h : Marks v s.outputs) (cause : TripCause) : Marks v (trip cause s).outputs := by
  unfold trip
  split
  · exact h
  · have told : Marks v (changeCycle .tripped { s with tripCause := some cause }).outputs := by simp [h]
    simp [told]

/-! ### Tool records and the stroke -/

@[simp] theorem marks_evalConfigured (h : Marks v s.outputs) : Marks v (evalConfigured s).outputs := by
  unfold evalConfigured
  dsimp only
  repeat' split
  all_goals simp [h]

@[simp] theorem marks_evalGaugeWorn (h : Marks v s.outputs) : Marks v (evalGaugeWorn s).outputs := by
  unfold evalGaugeWorn
  dsimp only
  split <;> simp [h]

@[simp] theorem marks_toolChanged (h : Marks v s.outputs) (i : Fin 64) (old : ToolFields) :
    Marks v (toolChanged i old s).outputs := by
  have summed (new : ToolState) : Marks v (evalGaugeWorn (summarise (wearNotices old.state new s))).outputs :=
    marks_evalGaugeWorn (by simpa using h)
  unfold toolChanged
  dsimp only
  repeat' split
  all_goals simp [summed]

@[simp] theorem marks_putTool (h : Marks v s.outputs) (i : Fin 64) (x : ToolFields) :
    Marks v (putTool i x s).outputs := marks_toolChanged (s := storeTool i x s) h _ _

@[simp] theorem marks_failRecord (h : Marks v s.outputs) (i : Fin 64) : Marks v (failRecord i s).outputs := by
  have stored : Marks v (storeTool i { state := .suspect } s).outputs := h
  unfold failRecord
  dsimp only
  generalize storeTool i { state := .suspect } s = t at stored
  split
  · exact marks_toolChanged (marks_trip (by simpa using stored) _) _ _
  · exact marks_toolChanged (by simpa using stored) _ _

@[simp] theorem marks_readTool (h : Marks v s.outputs) (i : Fin 64) : Marks v (readTool i s).outputs := by
  unfold readTool
  split <;> simp [h]

@[simp] theorem marks_readOthers (h : Marks v s.outputs) (i : Fin 64) : Marks v (readOthers i s).outputs :=
  readOthers_induct (P := fun t => Marks v t.outputs) i (fun _ j h => marks_readTool h j) s h

@[simp] theorem marks_loadAtPointer (h : Marks v s.outputs) (x : ToolFields) :
    Marks v (loadAtPointer x s).outputs := by
  simp [loadAtPointer, h]

@[simp] theorem marks_endStrokeWith (h : Marks v s.outputs) (cause : EndCause) :
    Marks v (endStrokeWith cause s).outputs := by
  unfold endStrokeWith
  dsimp only
  split
  · exact marks_changeCycle (marks_balanceTaken (by simpa using h) _) _
  · exact marks_balanceTaken (by simpa using h) _

/-! ### Rings and placement -/

@[simp] theorem marks_advanceRings (h : Marks v s.outputs) (delta : Nat) : Marks v (advanceRings delta s).outputs := by
  simp [advanceRings, h]

@[simp] theorem marks_matchSegment (h : Marks v s.outputs) (kind : SegmentKind) (type : RingType) :
    Marks v (matchSegment kind type s).outputs := by
  unfold matchSegment
  split <;> simp [h]

@[simp] theorem marks_retryMatch (h : Marks v s.outputs) : Marks v (retryMatch s).outputs := by
  unfold retryMatch
  repeat' split
  all_goals simp [h]

@[simp] theorem marks_pickStep (h : Marks v s.outputs) (r : Ring) (slot : Slot) :
    Marks v (pickStep r slot s).outputs := by
  simp [pickStep, h]

@[simp] theorem marks_enterPositioning (h : Marks v s.outputs) (r : Ring) (slot : Slot) :
    Marks v (enterPositioning r slot s).outputs := by
  simp [enterPositioning, h]

@[simp] theorem marks_clearingLook (h : Marks v s.outputs) : Marks v (clearingLook s).outputs := by
  unfold clearingLook
  repeat' split
  all_goals simp [h]

@[simp] theorem marks_enterClearing (h : Marks v s.outputs) (r : Ring) (slot : Slot) :
    Marks v (enterClearing r slot s).outputs := by
  have retracted : Marks v (retractSpan r slot s).outputs := by simp [h]
  simp [enterClearing, retracted]

@[simp] theorem marks_enterSeating (h : Marks v s.outputs) (r : Ring) (slot : Slot) :
    Marks v (enterSeating r slot s).outputs := by
  simp [enterSeating, h]

@[simp] theorem marks_segGripped (h : Marks v s.outputs) : Marks v (segGripped s).outputs := by
  unfold segGripped
  dsimp only
  repeat' split
  all_goals simp [h]

@[simp] theorem marks_atSlot (h : Marks v s.outputs) : Marks v (atSlot s).outputs := by
  unfold atSlot
  repeat' split
  all_goals simp [h]

@[simp] theorem marks_placeIdle (h : Marks v s.outputs) : Marks v (placeIdle s).outputs := by
  simp [placeIdle, h]

@[simp] theorem marks_afterSlot (h : Marks v s.outputs) : Marks v (afterSlot s).outputs := by
  unfold afterSlot
  repeat' split
  all_goals simp [h]

@[simp] theorem marks_closure (h : Marks v s.outputs) : Marks v (closure s).outputs := by
  have idle : Marks v (placeIdle s).outputs := by simp [h]
  simp [closure, idle]

@[simp] theorem marks_segBolted (h : Marks v s.outputs) : Marks v (segBolted s).outputs := by
  unfold segBolted
  dsimp only
  repeat' split
  all_goals simp [h]

/-! ### Samples -/

@[simp] theorem marks_cylindersRetaken (h : Marks v s.outputs) (before : State) :
    Marks v (cylindersRetaken before s).outputs := by
  unfold cylindersRetaken
  dsimp only
  split <;> simp [h]

@[simp] theorem marks_accountIncrement (h : Marks v s.outputs) (delta mean : Nat) :
    Marks v (accountIncrement delta mean s).outputs := by
  simp [accountIncrement, h]

@[simp] theorem marks_measure (h : Marks v s.outputs) (mean : Nat) : Marks v (measure mean s).outputs := by
  unfold measure
  repeat' split
  all_goals simp [h]

@[simp] theorem marks_extensionSample (h : Marks v s.outputs) (i : Fin 16) (value : Nat) (before : State) :
    Marks v (extensionSample i value before s).outputs := by
  have retaken : Marks v (cylindersRetaken before s).outputs := by simp [h]
  unfold extensionSample
  dsimp only
  repeat' split
  all_goals simp [retaken]

@[simp] theorem marks_groupPressureSample (h : Marks v s.outputs) (value : Nat) :
    Marks v (groupPressureSample value s).outputs := by
  unfold groupPressureSample
  split <;> simp [h]

@[simp] theorem marks_massSample (h : Marks v s.outputs) (c : Nat) : Marks v (massSample c s).outputs := by
  unfold massSample
  dsimp only
  repeat' split
  · simpa using h
  · exact marks_balanceTaken (by simpa using h) _
  · exact h

@[simp] theorem marks_accrueRecord (h : Marks v s.outputs) (n : Nat) (i : Fin 64) :
    Marks v (accrueRecord n s i).outputs := by
  unfold accrueRecord
  repeat' split
  all_goals simp [h]

@[simp] theorem marks_accrueAll (h : Marks v s.outputs) (n : Nat) : Marks v (accrueAll n s).outputs :=
  accrueAll_induct (P := fun t => Marks v t.outputs) n (fun _ i h => marks_accrueRecord h n i) s h

@[simp] theorem marks_judgeBreach (h : Marks v s.outputs) (n : Nat) : Marks v (judgeBreach n s).outputs := by
  have told : Marks v (raise .rotationBreach s).outputs := h
  unfold judgeBreach
  split
  · exact marks_trip told _
  · exact h

@[simp] theorem marks_angleSample (h : Marks v s.outputs) (c : Nat) : Marks v (angleSample c s).outputs := by
  unfold angleSample
  dsimp only
  repeat' split
  · simpa using h
  · exact h
  · simpa using marks_accrueAll (marks_judgeBreach (by simpa using h) _) _

@[simp] theorem marks_chamberSample (h : Marks v s.outputs) (pressure : Nat) :
    Marks v (chamberSample pressure s).outputs := by
  unfold chamberSample
  dsimp only
  split <;> simp [h]

@[simp] theorem marks_portPressureSample (h : Marks v s.outputs) (p : Fin 6) (value : Nat) :
    Marks v (portPressureSample p value s).outputs := by
  unfold portPressureSample
  dsimp only
  repeat' split
  · exact marks_groutSettle h
  · exact h
  · exact marks_groutSettle h
  all_goals exact h

@[simp] theorem marks_pulseSample (h : Marks v s.outputs) (c : Nat) (first : Bool) :
    Marks v (pulseSample c first s).outputs := by
  unfold pulseSample
  dsimp only
  repeat' split
  all_goals simp [h]

@[simp] theorem marks_deliver (h : Marks v s.outputs) (c : Fin 30) (value : Nat) (first : Bool) (before : State) :
    Marks v (deliver c value first before s).outputs := by
  unfold deliver
  repeat' split
  all_goals simp [h]

@[simp] theorem marks_arrive (h : Marks v s.outputs) (c : Fin 30) (x : Nat) : Marks v (arrive c x s).outputs := by
  simp [arrive, h]

/-! ### Timers and inputs -/

@[simp] theorem marks_staleExpired (h : Marks v s.outputs) (c : Fin 30) : Marks v (staleExpired c s).outputs := by
  unfold staleExpired tellStale
  dsimp only
  repeat' split
  all_goals simp [h]

@[simp] theorem marks_blockExpired (h : Marks v s.outputs) (p : Fin 6) : Marks v (blockExpired p s).outputs :=
  marks_groutSettle h

@[simp] theorem marks_takeInput (h : Marks v s.outputs) (i : Fin 12) (input : Input) (event : Bool) :
    Marks v (takeInput i input event s).outputs := by
  have taken : Marks v (sensed i input event s).outputs := by rwa [sensed_eq]
  rw [takeInput_eq]
  unfold useInput
  repeat' split
  all_goals simp [taken]

theorem marks_expireRetracts (h : Marks v s.outputs) : Marks v (expireRetracts s).outputs := by
  unfold expireRetracts
  generalize List.finRange _ = l
  refine List.foldlRecOn (motive := fun t : State => Marks v t.outputs) l _ h fun t h i _ => ?_
  split <;> simp [h]

theorem marks_expireStales (h : Marks v s.outputs) : Marks v (expireStales s).outputs := by
  unfold expireStales
  generalize List.finRange _ = l
  refine List.foldlRecOn (motive := fun t : State => Marks v t.outputs) l _ h fun t h c _ => ?_
  split <;> simp [h]

theorem marks_expireBlocks (h : Marks v s.outputs) : Marks v (expireBlocks s).outputs := by
  unfold expireBlocks
  generalize List.finRange _ = l
  refine List.foldlRecOn (motive := fun t : State => Marks v t.outputs) l _ h fun t h p _ => ?_
  split <;> simp [h]

theorem marks_passMillisecond (h : Marks v s.outputs) : Marks v (passMillisecond s).outputs := by
  have retracts : Marks v (expireRetracts (countDown s)).outputs := marks_expireRetracts (s := countDown s) h
  have timers : Marks v (expireStep (expireRetracts (countDown s))).outputs := by
    unfold expireStep
    split <;> simp [retracts]
  unfold passMillisecond
  dsimp only
  split
  · exact marks_expireBlocks (marks_expireStales timers)
  · exact marks_expireStales (marks_expireBlocks timers)

end shared

end Sys2Proof.Machine

/-! ## Send marks: the owners of the requests -/

namespace Sys2Proof.Machine

/-- The state of an outcome has every output word as in `v` or marked. -/
def Taken.Marked (v : Vector Output 25) (t : Taken) : Prop := Marks v t.state.outputs

/-- However its request turns out, an owner leaves no changed word unmarked. -/
def Handler.Marking (f : Handler) : Prop :=
  ∀ (v : Vector Output 25) (args : List Byte) (s : State), Marks v s.outputs → (f args s).Marked v

section outcomes

variable {v : Vector Output 25} {s : State}

@[simp] theorem marked_refuse (st : Status) : (refuse st s).Marked v ↔ Marks v s.outputs := .rfl

@[simp] theorem marked_doneWith (results : List Byte) : (doneWith results s).Marked v ↔ Marks v s.outputs := .rfl

@[simp] theorem marked_doneOrClamped (clamped : Bool) (results : List Byte) :
    (doneOrClamped clamped results s).Marked v ↔ Marks v s.outputs := .rfl

@[simp] theorem marked_mk (st : Status) (results : List Byte) :
    Taken.Marked v ⟨s, st, results⟩ ↔ Marks v s.outputs := .rfl

end outcomes

theorem marking_inStates {ok : Cycle → Bool} {f : Handler} (h : f.Marking) : (inStates ok f).Marking := by
  intro v args s hs
  unfold inStates
  split
  · exact h v args s hs
  · exact hs

theorem marking_ifConfigured {f : Handler} (h : f.Marking) : (ifConfigured f).Marking := by
  intro v args s hs
  unfold ifConfigured
  split
  · exact hs
  · exact h v args s hs

/-! ### The port's own requests, parameters and inputs -/

@[simp] theorem marking_noRequest : noRequest.Marking := fun _ _ _ h => h

@[simp] theorem marking_readNotices : readNotices.Marking := fun _ _ _ h => h

@[simp] theorem marking_clearNotices : clearNotices.Marking := fun _ _ _ h => h

@[simp] theorem marking_setNoticeEnable : setNoticeEnable.Marking := fun _ _ _ h => h

@[simp] theorem marking_readErrorCapture : readErrorCapture.Marking := fun _ _ _ h => h

@[simp] theorem marking_readStatus : readStatus.Marking := fun _ _ _ h => h

@[simp] theorem marking_controllerReset : controllerReset.Marking := fun v _ s _ =>
  (controllerReset_allMarked s).marks v

@[simp] theorem marking_getParam : getParam.Marking := by
  intro v args s h
  unfold getParam
  dsimp only
  split <;> simp [h]

theorem marks_actOnTuning {v : Vector Output 25} {s : State} (h : Marks v s.outputs) (k : Tuning) (before : State) :
    Marks v (actOnTuning k before s).outputs := by
  cases k
  all_goals simp [actOnTuning, h]

theorem marked_setGeometry {v : Vector Output 25} {s : State} (h : Marks v s.outputs) (id : Nat) (g : Geometry)
    (bytes : List Byte) : (setGeometry id g bytes s).Marked v := by
  unfold setGeometry
  repeat' split
  · exact h
  · exact h
  · exact (marked_doneWith _).mpr (marks_evalConfigured (by simpa using h))
  · exact h

@[simp] theorem marking_setParam : setParam.Marking := by
  intro v args s h
  unfold setParam
  dsimp only
  split
  · exact h
  · exact marked_setGeometry h _ _ _
  · exact (marked_doneOrClamped _ _).mpr (marks_actOnTuning (by simpa using h) _ _)
  · unfold emptyCheckCapture
    split <;> exact h

@[simp] theorem marking_setSense : setSense.Marking := by
  refine marking_inStates fun v args s h => ?_
  split <;> simp [h]

@[simp] theorem marking_readInputs : readInputs.Marking := fun _ _ _ h => h

@[simp] theorem marking_readChannel : readChannel.Marking := by
  intro v args s h
  unfold readChannel
  split <;> exact h

/-! ### The machine cycle and the thrust controller -/

@[simp] theorem marking_beginStroke : beginStroke.Marking := by
  refine marking_inStates fun v args s h => ?_
  have begun : Marks v (strokeBegun s).outputs :=
    marks_changeCycle (marks_extendAll (marks_balanceTaken (by simpa using h) _)) _
  repeat' split
  all_goals simp [h, begun]

@[simp] theorem marking_endStroke : endStroke.Marking := by
  intro v args s h
  unfold endStroke
  split <;> simp [h]

theorem marks_buildBegun {v : Vector Output 25} {s : State} (h : Marks v s.outputs) :
    Marks v (buildBegun s).outputs := by
  have taken (account : Stroke) : Marks v (balanceTaken (overExcavation s)
      { s with stroke := account, rings := buildFirstPlanned s.rings }).outputs :=
    marks_balanceTaken (by simpa using h) _
  have extended (account : Stroke) := marks_commandWhere (taken account) (fun i => command s i == .lock) .extend
    (some .advance)
  exact marks_writeOutput (marks_changeCycle (by simpa using extended _) _) _ _

@[simp] theorem marking_beginBuild : beginBuild.Marking := by
  refine marking_inStates fun v args s h => ?_
  repeat' split
  all_goals simp [h, marks_buildBegun h]

@[simp] theorem marking_enterIntervention : enterIntervention.Marking := by
  refine marking_inStates fun v args s h => ?_
  split <;> simp [h]

@[simp] theorem marking_leaveIntervention : leaveIntervention.Marking := by
  refine marking_inStates fun v args s h => ?_
  split <;> simp [h]

theorem marks_tripCleared {v : Vector Output 25} {s : State} (h : Marks v s.outputs) :
    Marks v (tripCleared s).outputs := by
  have ended : Marks v (if s.stroke.state = .opened then endStrokeWith .trip s else s).outputs := by
    split <;> simp [h]
  exact marks_changeCycle (by simpa using ended) _

@[simp] theorem marking_clearTrip : clearTrip.Marking := by
  refine marking_inStates fun v args s h => ?_
  split <;> simp [h, marks_tripCleared]

@[simp] theorem marking_setThrust : setThrust.Marking := by
  refine marking_ifConfigured fun v args s h => ?_
  simp [h]

@[simp] theorem marking_readCylinder : readCylinder.Marking := by
  intro v args s h
  unfold readCylinder
  split <;> exact h

@[simp] theorem marking_readStroke : readStroke.Marking := fun _ _ _ h => h

@[simp] theorem marking_readBalance : readBalance.Marking := fun _ _ _ h => h

/-! ### Rings, the Feed Queue and placement -/

@[simp] theorem marking_ringPlan : ringPlan.Marking := by
  refine marking_inStates fun v args s h => ?_
  dsimp only
  repeat' split
  all_goals exact h

@[simp] theorem marking_ringCancel : ringCancel.Marking := by
  refine marking_inStates fun v args s h => ?_
  split <;> exact h

@[simp] theorem marking_ringRetire : ringRetire.Marking := by
  refine marking_inStates fun v args s h => ?_
  dsimp only
  repeat' split
  all_goals exact h

@[simp] theorem marking_readRing : readRing.Marking := by
  intro v args s h
  unfold readRing
  dsimp only
  repeat' split
  all_goals exact h

@[simp] theorem marking_segmentEnqueue : segmentEnqueue.Marking := by
  refine marking_ifConfigured fun v args s h => ?_
  dsimp only
  repeat' split
  all_goals simp [h]

@[simp] theorem marking_segmentWithdraw : segmentWithdraw.Marking := by
  refine marking_ifConfigured fun v args s h => ?_
  dsimp only
  repeat' split
  all_goals exact h

@[simp] theorem marking_readFeed : readFeed.Marking := by
  refine marking_ifConfigured fun v args s h => ?_
  exact h

@[simp] theorem marking_placeStart (start : Placement → Placement) : (placeStart start).Marking := by
  refine marking_inStates fun v args s h => ?_
  repeat' split
  all_goals simp [h]

@[simp] theorem marking_erectorHold : erectorHold.Marking := by
  refine marking_inStates fun v args s h => ?_
  exact h

@[simp] theorem marking_erectorAbort : erectorAbort.Marking := by
  refine marking_inStates fun v args s h => ?_
  split <;> simp [h]

theorem marked_resumeClearing {v : Vector Output 25} {s : State} (h : Marks v s.outputs) (r : Ring) (slot : Slot) :
    (resumeClearing r slot s).Marked v := by
  unfold resumeClearing
  split <;> simp [h, clearInterrupted]

theorem marked_resumeHeld {v : Vector Output 25} {s : State} (h : Marks v s.outputs) (st : Step) (r : Ring)
    (slot : Slot) : (resumeHeld st r slot s).Marked v := by
  cases st with
  | awaitSegment => exact h
  | picking => exact h
  | clearing => exact marked_resumeClearing h r slot
  | positioning =>
    simp only [resumeHeld]
    split
    · simp [h, clearInterrupted]
    · exact marked_resumeClearing h r slot
  | seating => simp [resumeHeld, h, clearInterrupted]

@[simp] theorem marking_erectorResume : erectorResume.Marking := by
  refine marking_inStates fun v args s h => ?_
  repeat' split
  all_goals simp [h, clearInterrupted, marked_resumeHeld]

@[simp] theorem marking_erectorReturn : erectorReturn.Marking := by
  refine marking_inStates fun v args s h => ?_
  repeat' split
  all_goals simp [h, placeReturned, returnSegment]

/-! ### Grouting and the screw -/

@[simp] theorem marking_setRotation : setRotation.Marking := by
  refine marking_ifConfigured fun v args s h => ?_
  dsimp only
  repeat' split
  all_goals simp [h]

@[simp] theorem marking_setPortRequest : setPortRequest.Marking := by
  refine marking_ifConfigured fun v args s h => ?_
  dsimp only
  split <;> exact h

@[simp] theorem marking_movePort (acts : PortState → Bool) (st : PortState) : (movePort acts st).Marking := by
  refine marking_ifConfigured fun v args s h => ?_
  repeat' split
  all_goals simp [h]

@[simp] theorem marking_groutRate : groutRate.Marking := by
  refine marking_ifConfigured fun v args s h => ?_
  simp [storeGroutRate, h]

@[simp] theorem marking_readPort : readPort.Marking := by
  refine marking_ifConfigured fun v args s h => ?_
  split <;> exact h

@[simp] theorem marking_readGrout : readGrout.Marking := by
  refine marking_ifConfigured fun v args s h => ?_
  exact h

@[simp] theorem marking_setScrewMode : setScrewMode.Marking := by
  intro v args s h
  unfold setScrewMode setManual
  dsimp only
  repeat' split
  all_goals simp [setAuto, h]

/-! ### Tools -/

theorem marked_onRecord {v : Vector Output 25} {s : State} (h : Marks v s.outputs) {judge : ToolFields → State → Taken}
    (judged : ∀ x t, Marks v t.outputs → (judge x t).Marked v) (i : Fin 64) : (onRecord i judge s).Marked v :=
  judged _ _ (marks_readTool h i)

@[simp] theorem marking_setLoadPointer : setLoadPointer.Marking := by
  refine marking_inStates fun v args s h => ?_
  split <;> exact h

@[simp] theorem marking_toolLoad : toolLoad.Marking := by
  refine marking_inStates fun v args s h => ?_
  dsimp only
  repeat' split
  all_goals simp [h]

@[simp] theorem marking_toolRead : toolRead.Marking := by
  intro v args s h
  unfold toolRead
  split
  · exact h
  · exact marked_onRecord h (fun _ _ h => (marked_doneWith _).mpr h) _

@[simp] theorem marking_toolAmend : toolAmend.Marking := by
  refine fun v args s h => marking_inStates (fun v _ s h => ?_) v args s h
  split
  · exact h
  · split
    · exact h
    · refine marked_onRecord h (fun x t h => ?_) _
      split <;> simp [h]

@[simp] theorem marking_changeTool (acts : ToolFields → Bool) (change : ToolFields → ToolFields) :
    (changeTool acts change).Marking := by
  refine marking_inStates fun v args s h => ?_
  split
  · exact h
  · refine marked_onRecord h (fun x t h => ?_) _
    split <;> simp [h]

@[simp] theorem marking_toolFit : toolFit.Marking := by
  refine marking_inStates fun v args s h => ?_
  dsimp only
  split
  · exact h
  · split
    · exact h
    · refine marked_onRecord h (fun x t h => ?_) _
      repeat' split
      all_goals simp [h]

theorem marking_refuse (st : Status) : Handler.Marking fun _ s => refuse st s := fun _ _ _ h => h

theorem marking_ownerOf (kind : Nat) : (ownerOf kind).Marking := by
  unfold ownerOf
  split
  all_goals simp [placeNext, placeRun, portOutOfService, portRestore, portClear, toolLockOut, toolRetire, toolRelease,
    marking_refuse]

end Sys2Proof.Machine

/-! ## The transmitter (R26, R27), and the marks over a whole step -/

namespace Sys2Proof.Machine

/-! ### The lowest-numbered marked output -/

theorem lowestMarked_eq_some {s : State} {o : Fin 25} (marked : s.outputs[o].mark = true)
    (lower : ∀ o' : Fin 25, o'.val < o.val → s.outputs[o'].mark = false) : lowestMarked s = some o := by
  refine List.find?_eq_some_iff_getElem.mpr ⟨marked, o, by simp, by simp, fun j hj => ?_⟩
  simpa using lower ⟨j, by omega⟩ hj

theorem lowestMarked_eq_none {s : State} (h : ∀ o : Fin 25, s.outputs[o].mark = false) : lowestMarked s = none :=
  List.find?_eq_none.mpr fun o _ => by rw [h o]; nofun

theorem beginMessage_free {s : State} {o : Fin 25} (free : s.sending = none) (marked : s.outputs[o].mark = true)
    (lower : ∀ o' : Fin 25, o'.val < o.val → s.outputs[o'].mark = false) : beginMessage s = { s with
      sending := some ⟨o, s.outputs[o].value⟩, outputs := s.outputs.set o { s.outputs[o] with mark := false } } := by
  rw [beginMessage, free, lowestMarked_eq_some marked lower]

/-- With the transmitter busy or no mark set no message begins. -/
theorem beginMessage_none {s : State} (h : s.sending ≠ none ∨ ∀ o : Fin 25, s.outputs[o].mark = false) :
    beginMessage s = s := by
  unfold beginMessage
  split
  · next free found =>
    obtain busy | unmarked := h
    · exact absurd free busy
    · rw [lowestMarked_eq_none unmarked] at found
      cases found
  · rfl

/-- The beginning of a message moves marks only. -/
theorem beginMessage_value (s : State) (o : Fin 25) : (beginMessage s).outputs[o].value = s.outputs[o].value := by
  unfold beginMessage
  split
  · next i _ _ =>
    by_cases e : i = o
    · subst e
      simp
    · have apart : i.val ≠ o.val := fun h => e (Fin.ext h)
      simp [Vector.getElem_set_ne _ _ apart]
  · rfl

/-! ### Whole commands and steps -/

theorem marks_takeByKind (kind : Byte) (r : Request) (s : State) : Marks s.outputs (takeByKind kind r s).outputs := by
  obtain ⟨t, ht, rfl | ⟨st, rfl⟩⟩ := takeByKind_cases kind r s <;> rw [ht]
  · exact marking_ownerOf _ _ _ s (marks_refl _)
  · exact marks_refl _

theorem marks_transact (bytes : List Byte) (s : State) : Marks s.outputs (transact bytes s).outputs := by
  unfold transact
  dsimp only
  repeat' split
  · exact marks_refl _
  · exact marks_takeByKind _ _ s
  · exact marks_refl _

theorem marks_receiveMessage (channel : Byte) (v : Word16) (check : Byte) (s : State) :
    Marks s.outputs (receiveMessage channel v check s).outputs := by
  unfold receiveMessage
  repeat' split
  · exact marks_arrive (marks_refl _) _ _
  · exact marks_refl _
  · exact marks_refl _

theorem powerOnReset_allMarked (lines : BitVec 12) (s : State) : AllMarked (powerOnReset lines s) := by
  have marked (o : Fin 25) : State.reset.outputs[o].mark = true := congrArg Output.mark (reset_outputs o)
  intro o
  cases line : lines.getLsbD 0 with
  | true =>
    rw [powerOnReset_running lines s line]
    exact marked o
  | false =>
    rw [powerOnReset_stopped_output lines s line o]
    split
    · rfl
    · exact marked o

/-- The words that have another value in `t` than in `s` stand marked in `t`. -/
def ChangesMarked (s t : State) : Prop :=
  ∀ o : Fin 25, t.outputs[o].value ≠ s.outputs[o].value → t.outputs[o].mark = true

theorem Marks.changesMarked {s t : State} (h : Marks s.outputs t.outputs) : ChangesMarked s t := fun _ => h.marked

theorem Marks.changesMarked_ite {s t : State} {c : Prop} [Decidable c] (h : Marks s.outputs t.outputs) :
    ChangesMarked s (if c then t else s) := by
  split
  · exact h.changesMarked
  · exact (marks_refl _).changesMarked

theorem Marks.changesMarked_ite_not {s t : State} {c : Prop} [Decidable c] (h : Marks s.outputs t.outputs) :
    ChangesMarked s (if c then s else t) := by
  split
  · exact (marks_refl _).changesMarked
  · exact h.changesMarked

theorem exec_changesMarked (c : Instr) (s : State) : ∃ t, exec c s = .next t ∧ ChangesMarked s t := by
  have same := marks_refl s.outputs
  cases hr : requestOf c with
  | some kr => exact ⟨_, exec_request hr s, (marks_takeByKind _ _ s).changesMarked⟩
  | none =>
    cases c
    case powerOnReset lines received => exact ⟨_, rfl, fun o _ => powerOnReset_allMarked lines s o⟩
    case transactionCutShort bytes => exact ⟨_, rfl, (marks_transact bytes s).changesMarked⟩
    case linkCheck bytes => exact ⟨_, rfl, (marks_transact bytes s).changesMarked⟩
    case storageFault i => exact ⟨_, rfl, same.changesMarked⟩
    case sampleArrival c v => exact ⟨_, rfl, (marks_arrive same c _).changesMarked⟩
    case sampleMessageDiscarded channel v check =>
      exact ⟨_, rfl, (marks_receiveMessage channel v check s).changesMarked⟩
    case staleTimerExpiry c => exact ⟨_, rfl, (marks_staleExpired same c).changesMarked_ite⟩
    case setpointMessage => exact ⟨_, rfl, fun o changed => absurd (beginMessage_value s o) changed⟩
    case lineChange i level => exact ⟨_, rfl, (marks_takeInput same i _ _).changesMarked_ite_not⟩
    case retractTimerExpiry i => exact ⟨_, rfl, Marks.changesMarked_ite (by simp)⟩
    case stepTimerExpiry => exact ⟨_, rfl, Marks.changesMarked_ite (by simp)⟩
    case blockTimerExpiry p => exact ⟨_, rfl, (marks_blockExpired same p).changesMarked_ite⟩
    case setpointMessageEnd => exact ⟨_, rfl, same.changesMarked⟩
    all_goals cases hr

/-- An idle millisecond begins a message before its timers act. -/
theorem idle_changesMarked (s : State) : ChangesMarked s (idle s) := by
  intro o changed
  have kept : Marks (beginMessage s).outputs (idle s).outputs := marks_passMillisecond (marks_refl _)
  exact kept.marked (by rwa [beginMessage_value])

theorem step_changesMarked {s t : State} (h : step s = .next t) : ChangesMarked s t := by
  obtain ⟨-, rfl⟩ | ⟨c, rest, -, run⟩ := step_next h
  · exact idle_changesMarked s
  · obtain ⟨u, hu, marked⟩ := exec_changesMarked c { s with pending := rest }
    obtain rfl : u = t := by
      rw [run] at hu
      cases hu
      rfl
    exact marked

/-- Settles O46: a message moves no value, and every other write of a word of another value marks it. -/
theorem outputsMarkedAndSent : Obligations.OutputsMarkedAndSent :=
  ⟨fun _ _ free marked lower => congrArg Host.Outcome.next (beginMessage_free free marked lower),
    fun _ h => congrArg Host.Outcome.next (beginMessage_none h), fun _ => rfl,
    fun o _ _ run => step_changesMarked run o⟩

end Sys2Proof.Machine

/-! ## Placement: the ring, the spans and the pick step (R90, R91, R114, R122, R128 to R130) -/

namespace Sys2Proof.Machine

/-! ### The ring under construction -/

theorem modifyFirst_append {α : Type} {p : α → Bool} {older : List α} {x : α} (before : ∀ y ∈ older, p y = false)
    (hx : p x = true) (f : α → α) (newer : List α) :
    modifyFirst p f (older ++ x :: newer) = older ++ f x :: newer := by
  induction older with
  | nil => simp [modifyFirst, hx]
  | cons a older ih => simp [modifyFirst, before a (by simp), ih fun y hy => before y (by simp [hy])]

section building

variable {s t : State} {older newer : List Ring} {x y : Ring} {slot : Slot}

theorem BuildsAt.building (h : BuildsAt s older x newer) : buildingRing s = some x := by
  obtain ⟨rings, before, building⟩ := h
  have none : older.find? (fun r => r.state == .building) = none := by simpa using before
  simp [buildingRing, rings, List.find?_append, none, building]

theorem BuildsAt.updated (h : BuildsAt s older x newer) (f : Ring → Ring) :
    (updateBuilding f s).rings = older ++ f x :: newer := by
  obtain ⟨rings, before, building⟩ := h
  rw [updateBuilding_rings, rings, modifyFirst_append (by simpa using before) (by simpa using building)]

/-- The ring under construction in a state that has changed its record. -/
theorem BuildsAt.changed (h : BuildsAt s older x newer) (rings : t.rings = older ++ y :: newer)
    (building : y.state = .building) : BuildsAt t older y newer := ⟨rings, h.2.1, building⟩

theorem nextSlot_vacant (h : x.nextSlot = some slot) : x.slots[slot].state = .vacant := by
  unfold Ring.nextSlot at h
  split at h
  · cases h
  split at h
  · cases h
  split at h
  · next n found =>
    cases h
    simpa using List.find?_some found
  · split at h
    · next vacant =>
      cases h
      exact vacant
    · cases h

theorem loadSlot_rings (h : BuildsAt s older x newer) (next : x.nextSlot = some slot) (id : Nat) :
    (loadSlot slot id s).rings = older ++ { x with slots := x.slots.set slot ⟨.onErector, some id⟩ } :: newer := by
  rw [loadSlot, h.updated, if_pos ⟨next, nextSlot_vacant next⟩, Ring.setSlot]

theorem placeSlot_rings (h : BuildsAt s older x newer) (held : x.slots[slot].state = .onErector) :
    (placeSlot slot s).rings =
      older ++ { x with slots := x.slots.set slot { x.slots[slot] with state := .placed } } :: newer := by
  rw [placeSlot, h.updated, if_pos held, Ring.setSlot]

theorem closeRing_rings (h : BuildsAt s older x newer) : (closeRing s).rings = older ++ { x with
    state := .closed, advance := 0, exposure := 0, target := 0, delivered := 0
    voidArea := some (s.params.voidArea.getD 0), groutFactor := some s.params.groutFactor } :: newer := by
  rw [closeRing, raise_rings, h.updated]

end building

/-! ### Spans commanded -/

theorem derived_retracted (s : State) (i : Fin 16) :
    derived s i = .retracted ↔ command s i = .retract ∧ extension s i ≤ s.params.retractedAt := by
  unfold derived
  cases command s i <;> simp
  split <;> simp

theorem timerOnCommand_eq (s : State) (i : Fin 16) (c : Command) : timerOnCommand s i c =
    if c ≠ .retract then { s.cylinders[i].timer with running := false }
    else if command s i = .retract then s.cylinders[i].timer
    else ⟨s.params.retractTime, decide (s.params.retractedAt < extension s i)⟩ := by
  unfold timerOnCommand
  split
  · next retract =>
    rw [if_neg (not_not.mpr retract)]
    split
    · rfl
    · split
      · next at_ => simp [Timer.load, Timer.freeze, Nat.not_lt.mpr at_]
      · next late => simp [Timer.load, Nat.lt_of_not_le late]
  · rfl

theorem spanCommanded_commandWhere (cyls : List (Fin 16)) (c : Command) (ring : Nat) (slot : Slot) (s : State) :
    SpanCommanded cyls c ring slot s
      (commandWhere (fun i => cyls.contains i) c (some (.build ring slot)) s) := by
  intro i
  split
  · next chosen =>
    rw [commandWhere_command, commandWhere_cylinder, if_pos (by simpa using chosen), if_pos (by simpa using chosen)]
    exact ⟨rfl, rfl, timerOnCommand_eq s i c⟩
  · next other =>
    rw [commandWhere_output, commandWhere_cylinder, if_neg (by simpa using other), if_neg (by simpa using other)]
    exact ⟨rfl, rfl⟩

/-- A write to the erector's word commands no cylinder. -/
theorem SpanCommanded.of_after {cyls : List (Fin 16)} {c : Command} {ring : Nat} {slot : Slot} {s t u : State}
    (h : SpanCommanded cyls c ring slot s t) (cylinders : u.cylinders = t.cylinders)
    (outputs : OutputsKeptBut [21] t u) : SpanCommanded cyls c ring slot s u := by
  have word (i : Fin 16) : u.outputs[cylinderOutput i] = t.outputs[cylinderOutput i] :=
    outputs _ (by simp only [cylinderOutput, List.mem_singleton]; omega)
  simpa only [SpanCommanded, command, word, cylinders] using h

theorem placementOutputsOnly_commandWhere (chosen : Fin 16 → Bool) (c : Command) (owner : Option Owner) (s : State) :
    PlacementOutputsOnly s (commandWhere chosen c owner s) := fun _ ho => commandWhere_other chosen c owner (by omega) s

theorem PlacementOutputsOnly.of_after {s t u : State} (h : PlacementOutputsOnly s t)
    (outputs : OutputsKeptBut [21] t u) : PlacementOutputsOnly s u := fun o ho =>
  (outputs o (by simp only [List.mem_singleton]; omega)).trans (h o ho)

theorem writeErector_keeps (c : ErectorCommand) (s : State) : OutputsKeptBut [21] s (writeErector c s) := by
  intro o ho
  exact writeOutput_other (fun e => ho (by simp [e])) _ s

theorem OutputsKeptBut.trans {l : List Nat} {s t u : State} (h : OutputsKeptBut l s t) (g : OutputsKeptBut l t u) :
    OutputsKeptBut l s u := fun o ho => (g o ho).trans (h o ho)

theorem writeErector_value (c : ErectorCommand) (s : State) :
    (writeErector c s).outputs[(21 : Fin 25)].value = c.code := writeOutput_value_self _ _ _

theorem haltPlacement_keeps (st : Step) (s : State) : OutputsKeptBut [21] s (haltPlacement st s) := by
  intro o ho
  have apart : o ≠ 21 := fun e => ho (by simp [e])
  unfold haltPlacement
  dsimp only [raise_outputs, writeErector]
  rw [writeOutput_other apart]
  split <;> rfl

/-! ### The pick step (R122, R128) -/

/-- The oldest entry that fits is the first with none that fits before it. -/
theorem reserve_feed {kind : SegmentKind} {type : RingType} {s : State} {before after : List Segment} {e : Segment}
    (feed : s.feed = before ++ e :: after) (fits : e.kind = kind ∧ e.type = type)
    (none : ∀ f ∈ before, ¬ (f.kind = kind ∧ f.type = type)) :
    (reserve kind type s).feed = before ++ { e with reserved := true } :: after := by
  show modifyFirst (Segment.fits kind type) _ s.feed = _
  rw [feed, modifyFirst_append (fun f hf => ?_) (by simpa [Segment.fits] using fits)]
  simpa [Segment.fits] using none f hf

theorem matchSegment_found {kind : SegmentKind} {type : RingType} {s : State}
    (h : s.feed.any (Segment.fits kind type) = true) : matchSegment kind type s =
      writeErector .pick { reserve kind type s with
        place := { s.place with erector := .working .picking, timer := Timer.load s.params.erectorStepTime } } := by
  rw [matchSegment, if_pos h]
  rfl

theorem matchSegment_none {kind : SegmentKind} {type : RingType} {s : State}
    (h : s.feed.any (Segment.fits kind type) = false) : matchSegment kind type s =
      writeErector .idle { starve s with place := { s.place with erector := .working .awaitSegment } } := by
  rw [matchSegment, if_neg (by simp [h])]
  rfl

theorem matchSegment_keeps (kind : SegmentKind) (type : RingType) (s : State) :
    OutputsKeptBut [21] s (matchSegment kind type s) := by
  unfold matchSegment
  dsimp only
  split
  · exact writeErector_keeps .pick _
  · exact writeErector_keeps .idle _

theorem pickStep_matched (r : Ring) (slot : Slot) (s : State) : Matched r slot s (pickStep r slot s) := by
  unfold pickStep
  generalize hu : ({ s with place := { s.place with current := some slot } } : State) = u
  have feed : u.feed = s.feed := by rw [← hu]
  have any : s.feed.any (Segment.fits slot.kind r.type) = true ↔ ∃ f ∈ s.feed, f.kind = slot.kind ∧ f.type = r.type := by
    simp [Segment.fits]
  refine ⟨?_, fun before e after split fits none => ?_, fun none => ?_⟩
  · unfold matchSegment
    split <;> simp [← hu, reserve, starve]
  · have found : u.feed.any (Segment.fits slot.kind r.type) = true := by
      rw [feed, any]
      exact ⟨e, by simp [split], fits⟩
    rw [matchSegment_found found]
    refine ⟨reserve_feed (feed.trans split) fits none, rfl, by simp [← hu, Timer.load], writeErector_value _ _, ?_⟩
    simp [← hu, reserve]
  · have missing : u.feed.any (Segment.fits slot.kind r.type) = false := by
      rw [feed, Bool.eq_false_iff, ne_eq, any]
      rintro ⟨f, hf, fits⟩
      exact none f hf fits
    rw [matchSegment_none missing]
    refine ⟨by simp [starve, feed], rfl, by simp [← hu], writeErector_value _ _, by simp [← hu, starve]⟩

/-! ### Clearing and seating (R129 to R131) -/

/-- A step entered with its erector command writes the erector's word alone. -/
theorem writeStep_keeps (c : ErectorCommand) (st : Step) (s : State) :
    OutputsKeptBut [21] s (writeErector c (enterStep st s)) := by
  intro o ho
  exact writeOutput_other (fun e => ho (by simp [e])) _ (enterStep st s)

theorem writeStep_place (c : ErectorCommand) (st : Step) (s : State) :
    (writeErector c (enterStep st s)).place =
      { s.place with erector := .working st, timer := ⟨s.params.erectorStepTime, true⟩ } := by
  simp [enterStep, Timer.load]

theorem retractSpan_commanded (r : Ring) (slot : Slot) (s : State) :
    SpanCommanded (span r.key slot) .retract r.number slot s (retractSpan r slot s) ∧
      PlacementOutputsOnly s (retractSpan r slot s) :=
  ⟨spanCommanded_commandWhere _ _ _ _ s, placementOutputsOnly_commandWhere _ _ _ s⟩

theorem extendSpan_commanded (r : Ring) (slot : Slot) (s : State) :
    SpanCommanded (span r.key slot) .extend r.number slot s (extendSpan r slot s) ∧
      PlacementOutputsOnly s (extendSpan r slot s) :=
  ⟨spanCommanded_commandWhere _ _ _ _ s, placementOutputsOnly_commandWhere _ _ _ s⟩

/-- The span commanded RETRACT and the erector holding the segment, before the first look at the span. -/
def spanClearing (r : Ring) (slot : Slot) (s : State) : State :=
  writeErector .pick (enterStep .clearing (retractSpan r slot s))

theorem enterClearing_eq (r : Ring) (slot : Slot) (s : State) :
    enterClearing r slot s = clearingLook (spanClearing r slot s) := rfl

theorem spanClearing_commanded (r : Ring) (slot : Slot) (s : State) :
    SpanCommanded (span r.key slot) .retract r.number slot s (spanClearing r slot s) ∧
      PlacementOutputsOnly s (spanClearing r slot s) := by
  obtain ⟨commanded, only⟩ := retractSpan_commanded r slot s
  unfold spanClearing
  generalize retractSpan r slot s = u at commanded only
  have kept := writeStep_keeps .pick .clearing u
  exact ⟨commanded.of_after (by simp [enterStep]) kept, only.of_after kept⟩

theorem spanClearing_place (r : Ring) (slot : Slot) (s : State) : (spanClearing r slot s).place =
    { s.place with erector := .working .clearing, timer := ⟨s.params.erectorStepTime, true⟩ } := by
  rw [spanClearing, writeStep_place]
  simp

@[simp] theorem spanClearing_frame (r : Ring) (slot : Slot) (s : State) :
    (spanClearing r slot s).params = s.params ∧ (spanClearing r slot s).rings = s.rings ∧
    (spanClearing r slot s).channels = s.channels := by
  simp [spanClearing, enterStep]

theorem spanClearing_retracted {r : Ring} {slot : Slot} {s : State} {i : Fin 16} (hi : i ∈ span r.key slot) :
    derived (spanClearing r slot s) i = .retracted ↔ extension s i ≤ s.params.retractedAt := by
  have commanded := (spanClearing_commanded r slot s).1 i
  rw [if_pos hi] at commanded
  simp [derived_retracted, extension, commanded.1]

/-- CLEARING ends at once where the whole span is RETRACTED (R130). -/
theorem enterClearing_cases {r x : Ring} {slot : Slot} {s : State} (building : buildingRing s = some x)
    (key : x.key = r.key) (current : s.place.current = some slot) :
    enterClearing r slot s = if ∀ i ∈ span r.key slot, extension s i ≤ s.params.retractedAt then
      enterPositioning r slot (spanClearing r slot s) else spanClearing r slot s := by
  have building' : buildingRing (spanClearing r slot s) = some x := by simpa [buildingRing] using building
  have look : ((span r.key slot).all fun i => derived (spanClearing r slot s) i == .retracted) = true ↔
      ∀ i ∈ span r.key slot, extension s i ≤ s.params.retractedAt := by
    simp only [List.all_eq_true, beq_iff_eq]
    exact forall₂_congr fun i hi => spanClearing_retracted hi
  have go : enterPositioning x slot (spanClearing r slot s) = enterPositioning r slot (spanClearing r slot s) := by
    rw [enterPositioning, key, enterPositioning]
  rw [enterClearing_eq, clearingLook, if_pos (by rw [spanClearing_place]), building', spanClearing_place, current]
  dsimp only
  rw [key, go]
  exact if_congr look rfl rfl

theorem enterPositioning_leaves (r : Ring) (slot : Slot) (s : State) :
    OutputsKeptBut [21] s (enterPositioning r slot s) ∧ (enterPositioning r slot s).place =
      { s.place with erector := .working .positioning, timer := ⟨s.params.erectorStepTime, true⟩ } :=
  ⟨writeStep_keeps _ _ s, writeStep_place _ _ s⟩

/-- What CLEARING entered leaves: the span commanded, the step timer loaded, and CLEARING or POSITIONING by the span. -/
theorem enterClearing_leaves {r x : Ring} {slot : Slot} {s t : State} (run : t = enterClearing r slot s)
    (building : buildingRing s = some x) (key : x.key = r.key) (current : s.place.current = some slot) :
    SpanCommanded (span r.key slot) .retract r.number slot s t ∧ PlacementOutputsOnly s t ∧
    t.place = { s.place with erector := t.place.erector, timer := ⟨s.params.erectorStepTime, true⟩ } ∧
    (if ∀ i ∈ span r.key slot, extension s i ≤ s.params.retractedAt then
        t.place.erector = .working .positioning ∧ t.outputs[(21 : Fin 25)].value = 16 + (spanFirst r.key slot).val
      else t.place.erector = .working .clearing ∧ t.outputs[(21 : Fin 25)].value = 1) := by
  obtain ⟨commanded, only⟩ := spanClearing_commanded r slot s
  have place := spanClearing_place r slot s
  have params : (spanClearing r slot s).params = s.params := by simp
  have held : (spanClearing r slot s).outputs[(21 : Fin 25)].value = 1 := writeErector_value _ _
  rw [enterClearing_cases building key current] at run
  generalize spanClearing r slot s = u at commanded only place params held run
  split at run <;> subst run
  · next retracted =>
    obtain ⟨kept, place'⟩ := enterPositioning_leaves r slot u
    refine ⟨commanded.of_after (by simp) kept, only.of_after kept, ?_, ?_⟩
    · rw [place', place, params]
    · rw [if_pos retracted]
      exact ⟨by rw [place'], writeErector_value _ _⟩
  · next extended =>
    rw [if_neg extended]
    exact ⟨commanded, only, by rw [place], by rw [place], held⟩

/-- What SEATING entered leaves (R131). -/
theorem enterSeating_leaves (r : Ring) (slot : Slot) (s : State) :
    SpanCommanded (span r.key slot) .extend r.number slot s (enterSeating r slot s) ∧
    PlacementOutputsOnly s (enterSeating r slot s) ∧
    (enterSeating r slot s).place =
      { s.place with erector := .working .seating, timer := ⟨s.params.erectorStepTime, true⟩ } ∧
    (enterSeating r slot s).outputs[(21 : Fin 25)].value = 2 := by
  obtain ⟨commanded, only⟩ := extendSpan_commanded r slot s
  have place : (extendSpan r slot s).place = s.place ∧ (extendSpan r slot s).params = s.params := by simp
  unfold enterSeating
  generalize extendSpan r slot s = u at commanded only place
  have kept := writeStep_keeps .seat .seating u
  refine ⟨commanded.of_after (by simp [enterStep]) kept, only.of_after kept, ?_, writeErector_value _ _⟩
  rw [writeStep_place, place.1, place.2]

end Sys2Proof.Machine

/-! ## The erector's sense events (R129 to R133) -/

namespace Sys2Proof.Machine

/-! ### An event on an input -/

/-- The Placement Controller sees none of what an input record alone changes: inputs, groups and notices. -/
def WorkAlike (s v : State) : Prop :=
  v = { s with inputs := v.inputs, groupFlags := v.groupFlags, latched := v.latched }

/-- What the Placement Controller reads. -/
theorem WorkAlike.fields {s v : State} (h : WorkAlike s v) : v.rings = s.rings ∧ v.place = s.place ∧ v.feed = s.feed ∧
    v.outputs = s.outputs ∧ v.cylinders = s.cylinders ∧ v.params = s.params ∧ v.channels = s.channels ∧
    v.starvation = s.starvation ∧ v.gaugeWorn = s.gaugeWorn := by
  unfold WorkAlike at h
  rw [h]
  simp

theorem WorkAlike.retractCountAfter {s v : State} (h : WorkAlike s v) (cyls : List (Fin 16)) :
    retractCountAfter v cyls = retractCountAfter s cyls := by
  simp only [Machine.retractCountAfter, retractCount, command, h.fields]

theorem WorkAlike.buildsAt {s v : State} (h : WorkAlike s v) {older newer : List Ring} {x : Ring}
    (builds : BuildsAt s older x newer) : BuildsAt v older x newer :=
  builds.changed (h.fields.1.trans builds.1) builds.2.2

theorem WorkAlike.spanCommanded {s v t : State} (h : WorkAlike s v) {cyls : List (Fin 16)} {c : Command} {ring : Nat}
    {slot : Slot} (commanded : SpanCommanded cyls c ring slot v t) : SpanCommanded cyls c ring slot s t := by
  obtain ⟨-, -, -, outputs, cylinders, params, -⟩ := h.fields
  intro i
  have held := commanded i
  have before : command v i = command s i ∧ extension v i = extension s i := by
    simp only [command, extension, h.fields, and_self]
  rwa [before.1, before.2, outputs, cylinders, params] at held

theorem WorkAlike.placementOutputsOnly {s v t : State} (h : WorkAlike s v) (only : PlacementOutputsOnly v t) :
    PlacementOutputsOnly s t := by
  simpa only [PlacementOutputsOnly, h.fields] using only

theorem WorkAlike.outputsKeptBut {s v t : State} (h : WorkAlike s v) {l : List Nat} (kept : OutputsKeptBut l v t) :
    OutputsKeptBut l s t := by
  simpa only [OutputsKeptBut, h.fields] using kept

theorem lineChange_event {i : Fin 12} {level : Level} {s : State}
    (event : Input.lineEvent s.inputs[i] { s.inputs[i] with level := level } = true) :
    ∃ v : State, WorkAlike s v ∧
      exec (.lineChange i level) s = .next (useInput i true s v) ∧
      NoticesRaised (fun n => n = .inputGroupChange ∧ s.inputs[i].mask = true) s v := by
  have moved : s.inputs[i].level ≠ level := by
    rintro rfl
    rw [lineEvent_same] at event
    cases event
  have same := sensed_eq i { s.inputs[i] with level := level } true s
  refine ⟨sensed i { s.inputs[i] with level := level } true s, same.trans (by rw [same]), ?_,
    (sensed_raises i { s.inputs[i] with level := level } true s).congr (by simp)⟩
  show Host.Outcome.next (if s.inputs[i].level = level then s else lineChange i level s) = _
  rw [if_neg moved, lineChange, event, takeInput_eq]

/-! ### SEG_GRIPPED (R129) -/

section gripped

variable {s t : State} {older newer : List Ring} {x : Ring} {slot : Slot} {e : Segment}

/-- The load of R114, and the segment taken from the queue. -/
def segmentLoaded (slot : Slot) (id : Nat) (s : State) : State :=
  loadSlot slot id { s with feed := s.feed.filter (fun f => !f.reserved) }

theorem segGripped_eq (builds : BuildsAt s older x newer) (current : s.place.current = some slot)
    (picking : s.place.erector = .working .picking) (reserved : s.feed.find? (·.reserved) = some e) :
    segGripped s = if retractionAllowed s (span x.key slot) then enterClearing x slot (segmentLoaded slot e.id s)
      else haltPlacement .clearing (segmentLoaded slot e.id s) := by
  rw [segGripped, if_pos picking, builds.building, current, reserved]
  rfl

theorem segmentLoaded_rings (builds : BuildsAt s older x newer) (next : x.nextSlot = some slot) (id : Nat) :
    (segmentLoaded slot id s).rings =
      older ++ { x with slots := x.slots.set slot ⟨.onErector, some id⟩ } :: newer :=
  loadSlot_rings (s := { s with feed := s.feed.filter (fun f => !f.reserved) }) builds next id

@[simp] theorem segmentLoaded_frame (slot : Slot) (id : Nat) (s : State) :
    (segmentLoaded slot id s).feed = s.feed.filter (fun f => !f.reserved) ∧
    (segmentLoaded slot id s).place = s.place ∧ (segmentLoaded slot id s).outputs = s.outputs ∧
    (segmentLoaded slot id s).cylinders = s.cylinders ∧ (segmentLoaded slot id s).latched = s.latched ∧
    (segmentLoaded slot id s).params = s.params ∧ (segmentLoaded slot id s).channels = s.channels := by
  simp [segmentLoaded]

theorem segGripped_register (builds : BuildsAt s older x newer) (current : s.place.current = some slot)
    (picking : s.place.erector = .working .picking) (reserved : s.feed.find? (·.reserved) = some e)
    (next : x.nextSlot = some slot) :
    (segGripped s).feed = s.feed.filter (fun f => !f.reserved) ∧
    (segGripped s).rings = older ++ { x with slots := x.slots.set slot ⟨.onErector, some e.id⟩ } :: newer := by
  rw [segGripped_eq builds current picking reserved, ← segmentLoaded_rings builds next]
  split <;> simp [haltPlacement_feed]

theorem segGripped_clears (builds : BuildsAt s older x newer) (current : s.place.current = some slot)
    (picking : s.place.erector = .working .picking) (reserved : s.feed.find? (·.reserved) = some e)
    (next : x.nextSlot = some slot) (allowed : retractCountAfter s (span x.key slot) ≤ 16 - s.params.minHold)
    (run : t = segGripped s) :
    SpanCommanded (span x.key slot) .retract x.number slot s t ∧ PlacementOutputsOnly s t ∧
    NoticesRaised (fun n => n ∈ ([] : List Notice)) s t ∧
    t.place = { s.place with erector := t.place.erector, timer := ⟨s.params.erectorStepTime, true⟩ } ∧
    (if ∀ i ∈ span x.key slot, extension s i ≤ s.params.retractedAt then
        t.place.erector = .working .positioning ∧ t.outputs[(21 : Fin 25)].value = 16 + (spanFirst x.key slot).val
      else t.place.erector = .working .clearing ∧ t.outputs[(21 : Fin 25)].value = 1) := by
  rw [segGripped_eq builds current picking reserved, if_pos (by simpa [retractionAllowed] using allowed)] at run
  have loaded := builds.changed (segmentLoaded_rings builds next e.id) builds.2.2
  obtain ⟨commanded, only, place, step⟩ := enterClearing_leaves run loaded.building rfl (by simpa using current)
  refine ⟨commanded, only, ?_, place, step⟩
  have quiet : t.latched = s.latched := by rw [run]; simp
  exact (noticesRaised_none quiet).congr (by simp)

theorem segGripped_halts (builds : BuildsAt s older x newer) (current : s.place.current = some slot)
    (picking : s.place.erector = .working .picking) (reserved : s.feed.find? (·.reserved) = some e)
    (beyond : 16 - s.params.minHold < retractCountAfter s (span x.key slot)) (run : t = segGripped s) :
    t.place = { s.place with
      erector := .halted, interrupted := some .clearing, timer := { s.place.timer with running := false } } ∧
    t.outputs[(21 : Fin 25)].value = 3 ∧ OutputsKeptBut [21] s t ∧ t.cylinders = s.cylinders ∧
    NoticesRaised (fun n => n ∈ [Notice.buildAborted]) s t := by
  rw [segGripped_eq builds current picking reserved, if_neg (by simpa [retractionAllowed] using beyond)] at run
  have kept := haltPlacement_keeps .clearing (segmentLoaded slot e.id s)
  have place := haltPlacement_place .clearing (segmentLoaded slot e.id s)
  have latched := haltPlacement_latched .clearing (segmentLoaded slot e.id s)
  have cylinders : t.cylinders = s.cylinders := by rw [run]; simp
  rw [← run] at kept place latched
  refine ⟨by simpa using place, by rw [run]; exact haltPlacement_erector _ _, fun o ho => ?_, cylinders, ?_⟩
  · rw [kept o ho]
    simp
  · refine ((noticesRaised_raise .buildAborted s).of_latched ?_).congr (by simp)
    simpa using latched

end gripped

/-! ### SEG_BOLTED (R132) -/

/-- The segment bolted: its slot PLACED, and no step timer or current slot any more. -/
def segmentPlaced (slot : Slot) (s : State) : State :=
  { raise .slotPlaced (placeSlot slot s) with
    place := { s.place with timer := { s.place.timer with running := false }, current := none } }

section bolted

variable {s b t : State} {older newer : List Ring} {x : Ring} {slot next : Slot}

theorem segBolted_eq (seating : s.place.erector = .working .seating) (current : s.place.current = some slot) :
    segBolted s = if slot = 6 then closure (segmentPlaced slot s) else afterSlot (segmentPlaced slot s) := by
  rw [segBolted, if_pos seating, current]
  rfl

@[simp] theorem segmentPlaced_frame (slot : Slot) (s : State) :
    (segmentPlaced slot s).feed = s.feed ∧ (segmentPlaced slot s).outputs = s.outputs ∧
    (segmentPlaced slot s).cylinders = s.cylinders ∧ (segmentPlaced slot s).params = s.params ∧
    (segmentPlaced slot s).starvation = s.starvation ∧ (segmentPlaced slot s).ports = s.ports ∧
    (segmentPlaced slot s).pointer = s.pointer ∧ (segmentPlaced slot s).rotation = s.rotation ∧
    (segmentPlaced slot s).channels = s.channels ∧ (segmentPlaced slot s).gaugeWorn = s.gaugeWorn ∧
    (segmentPlaced slot s).cycle = s.cycle ∧ (segmentPlaced slot s).place =
      { s.place with timer := { s.place.timer with running := false }, current := none } := by
  simp [segmentPlaced]

theorem segmentPlaced_raises (slot : Slot) (s : State) :
    NoticesRaised (fun n => n = .slotPlaced) s (segmentPlaced slot s) :=
  (noticesRaised_raise .slotPlaced s).of_latched (by simp [segmentPlaced])

theorem segmentPlaced_builds (builds : BuildsAt s older x newer) (held : x.slots[slot].state = .onErector) :
    BuildsAt (segmentPlaced slot s) older
      { x with slots := x.slots.set slot { x.slots[slot] with state := .placed } } newer :=
  builds.changed (placeSlot_rings builds held) builds.2.2

/-! #### The placement ends or goes on -/

@[simp] theorem placeIdle_place (s : State) : (placeIdle s).place = { s.place with erector := .idle } := by
  simp [placeIdle]

theorem placeIdle_keeps (s : State) : OutputsKeptBut [21] s (placeIdle s) :=
  writeErector_keeps .idle { s with place := { s.place with erector := .idle } }

theorem placeIdle_value (s : State) : (placeIdle s).outputs[(21 : Fin 25)].value = 0 := writeErector_value _ _

theorem afterSlot_single (single : b.place.mode = .single) : afterSlot b = placeIdle b := by
  rw [afterSlot, single]

theorem afterSlot_held (run : b.place.mode = .run) (builds : BuildsAt b older x newer)
    (following : x.nextSlot = some next)
    (held : b.place.hold = true ∨ 16 - b.params.minHold < retractCountAfter b (span x.key next)) :
    afterSlot b = raise .buildHeld (placeIdle b) := by
  rw [afterSlot, run]
  dsimp only
  split
  · rfl
  · next running =>
    rw [builds.building]
    dsimp only
    rw [following]
    exact if_neg (by simpa [retractionAllowed] using held.resolve_left running)

theorem afterSlot_next (run : b.place.mode = .run) (builds : BuildsAt b older x newer)
    (following : x.nextSlot = some next)
    (free : b.place.hold = false) (allowed : retractCountAfter b (span x.key next) ≤ 16 - b.params.minHold) :
    afterSlot b = pickStep x next b := by
  rw [afterSlot, run]
  dsimp only
  rw [free, if_neg nofun, builds.building]
  dsimp only
  rw [following]
  exact if_pos (by simpa [retractionAllowed] using allowed)

theorem pickStep_keeps (r : Ring) (slot : Slot) (s : State) : OutputsKeptBut [21] s (pickStep r slot s) :=
  matchSegment_keeps slot.kind r.type { s with place := { s.place with current := some slot } }

theorem pickStep_place (r : Ring) (slot : Slot) (s : State) : (pickStep r slot s).place = { s.place with
    erector := (pickStep r slot s).place.erector, current := (pickStep r slot s).place.current
    timer := (pickStep r slot s).place.timer } := by
  unfold pickStep matchSegment
  dsimp only
  split <;> simp [reserve, starve]

/-- R132 keeps the mode and the hold flag, and writes the erector's word alone. -/
theorem afterSlot_leaves (s : State) : OutputsKeptBut [21] s (afterSlot s) ∧ (afterSlot s).place = { s.place with
    erector := (afterSlot s).place.erector, current := (afterSlot s).place.current
    timer := (afterSlot s).place.timer } := by
  have idle : OutputsKeptBut [21] s (raise .buildHeld (placeIdle s)) := placeIdle_keeps s
  unfold afterSlot
  repeat' split
  · exact ⟨placeIdle_keeps s, by simp⟩
  · exact ⟨idle, by simp⟩
  · exact ⟨idle, by simp⟩
  · exact ⟨idle, by simp⟩
  · exact ⟨pickStep_keeps _ _ s, pickStep_place _ _ s⟩
  · exact ⟨idle, by simp⟩

/-! #### The closure (R115, R45) -/

/-- The grout of two states that give the Grout Controller the same is settled alike. -/
theorem GroutFollows.of_alike {s u t : State} (h : GroutFollows s t) (alike : GroutAlike s u)
    (valve : u.outputs[(23 : Fin 25)] = s.outputs[(23 : Fin 25)])
    (pump : u.outputs[(24 : Fin 25)] = s.outputs[(24 : Fin 25)]) : GroutFollows u t := by
  obtain ⟨ports, pointer, ⟨v, hv, hv'⟩, w, hw, hw'⟩ := groutSettle_alike alike
  obtain ⟨ports', pointer', valve', pump'⟩ := h
  exact ⟨ports'.trans ports.symm, pointer'.trans pointer.symm, by rw [valve', hv, hv', valve],
    by rw [pump', hw, hw', pump]⟩

theorem extendAll_other {o : Fin 25} (h : ¬ (5 ≤ o.val ∧ o.val ≤ 20)) (s : State) :
    (extendAll s).outputs[o] = s.outputs[o] := commandWhere_other _ _ _ h s

/-- Every cylinder extended, its retract timer frozen (R89, R91). -/
theorem extendAll_cylinder (i : Fin 16) (s : State) : command (extendAll s) i = .extend ∧
    (extendAll s).cylinders[i] = ⟨{ s.cylinders[i].timer with running := false }, .advance⟩ := by
  rw [extendAll, commandWhere_command, commandWhere_cylinder, if_pos rfl, if_pos rfl, timerOnCommand_eq]
  exact ⟨rfl, rfl⟩

/-- The ring closed and the erector IDLE, before the cycle changes. -/
def ringClosed (s : State) : State := closeRing (placeIdle s)

theorem closure_eq (s : State) : closure s = extendAll (changeCycle .standstill (ringClosed s)) := rfl

theorem ringClosed_keeps (s : State) : OutputsKeptBut [21] s (ringClosed s) := by
  intro o ho
  rw [ringClosed, show (closeRing (placeIdle s)).outputs = (placeIdle s).outputs by simp]
  exact placeIdle_keeps s o ho

theorem ringClosed_erector (s : State) : (ringClosed s).outputs[(21 : Fin 25)].value = 0 := placeIdle_value s

@[simp] theorem ringClosed_frame (s : State) :
    (ringClosed s).ports = s.ports ∧ (ringClosed s).pointer = s.pointer ∧ (ringClosed s).rotation = s.rotation ∧
    (ringClosed s).params = s.params ∧ (ringClosed s).channels = s.channels ∧
    (ringClosed s).cylinders = s.cylinders ∧ (ringClosed s).gaugeWorn = s.gaugeWorn ∧
    (ringClosed s).place = { s.place with erector := .idle } := by
  simp [ringClosed]

theorem ringClosed_rings (builds : BuildsAt s older x newer) : (ringClosed s).rings = older ++ { x with
    state := .closed, advance := 0, exposure := 0, target := 0, delivered := 0
    voidArea := some (s.params.voidArea.getD 0), groutFactor := some s.params.groutFactor } :: newer := by
  have builds' : BuildsAt (placeIdle s) older x newer := builds.changed (by simpa using builds.1) builds.2.2
  rw [ringClosed, closeRing_rings builds']
  simp

theorem closure_raises (s : State) : NoticesRaised (fun n => n = .ringClosed) s (closure s) := by
  refine (noticesRaised_raise .ringClosed s).of_latched ?_
  simp [closure_eq, ringClosed, closeRing]

theorem closure_state (s : State) : (closure s).cycle = .standstill ∧ (closure s).rings = (ringClosed s).rings ∧
    (closure s).place = { s.place with erector := .idle } := by
  simp [closure_eq]

theorem closure_word {o : Fin 25} (h : ¬ (5 ≤ o.val ∧ o.val ≤ 20)) (valve : o ≠ 23) (pump : o ≠ 24) (s : State) :
    (closure s).outputs[o] = (quietOutputs { ringClosed s with cycle := .standstill }).outputs[o] := by
  rw [closure_eq, extendAll_other h, changeCycle_output (c := .standstill) nofun valve pump]

theorem closure_outputs (s : State) : (closure s).outputs[(0 : Fin 25)].value = 0 ∧
    (closure s).outputs[(22 : Fin 25)].value = 0 ∧ (closure s).outputs[(21 : Fin 25)].value = 0 ∧
    GroupsAt (closure s) (fun _ => heldPressure s) := by
  refine ⟨?_, ?_, ?_, fun g => ?_⟩
  · rw [closure_word (by decide) (by decide) (by decide), quietOutputs_permit]
  · rw [closure_word (by decide) (by decide) (by decide), quietOutputs_screw]
  · rw [closure_word (by decide) (by decide) (by decide), quietOutputs_other (by decide) (by decide)]
    exact ringClosed_erector s
  · have low : (groupOutput g).val < 5 := by simp only [groupOutput]; omega
    rw [closure_word (by omega) (by rintro e; simp [e] at low) (by rintro e; simp [e] at low), quietOutputs_group]
    simp [groupSetpoint, heldPressure, ceiling]

theorem closure_cylinders (i : Fin 16) (s : State) : command (closure s) i = .extend ∧
    (closure s).cylinders[i] = ⟨{ s.cylinders[i].timer with running := false }, .advance⟩ := by
  have extended := extendAll_cylinder i (changeCycle .standstill (ringClosed s))
  rw [closure_eq]
  simpa using extended

theorem closure_groutFollows (s : State) :
    GroutFollows { s with cycle := .standstill, rings := (closure s).rings } (closure s) := by
  have settled := changeCycle_groutFollows .standstill (ringClosed s)
  have follows : GroutFollows { ringClosed s with cycle := .standstill } (closure s) := by
    obtain ⟨ports, pointer, valve, pump⟩ := settled
    rw [closure_eq]
    refine ⟨by simpa using ports, by simpa using pointer, ?_, ?_⟩
    · rw [extendAll_other (by decide), valve]
    · rw [extendAll_other (by decide), pump]
  refine follows.of_alike ?_ (ringClosed_keeps s 23 (by decide)).symm (ringClosed_keeps s 24 (by decide)).symm
  simp [GroutAlike, closure_state]

end bolted

end Sys2Proof.Machine

/-! ## The erector's inputs (O38) -/

namespace Sys2Proof.Machine

section events

variable {s : State} {older newer : List Ring} {x : Ring} {slot : Slot} {level : Level}

/-- What the Placement Controller raises comes on top of the event of the input's group. -/
theorem NoticesRaised.with_group {i : Fin 12} {l : List Notice} {s v t : State}
    (group : NoticesRaised (fun n => n = .inputGroupChange ∧ s.inputs[i].mask = true) s v)
    (placed : NoticesRaised (fun n => n ∈ l) v t) :
    NoticesRaised (fun n => (n = .inputGroupChange ∧ s.inputs[i].mask = true) ∨ n ∈ l) s t := group.trans placed

theorem gripped_event {e : Segment} (builds : BuildsAt s older x newer) (current : s.place.current = some slot)
    (event : Input.lineEvent s.inputs[(3 : Fin 12)] { s.inputs[(3 : Fin 12)] with level := level } = true)
    (picking : s.place.erector = .working .picking) (reserved : s.feed.find? (·.reserved) = some e)
    (next : x.nextSlot = some slot) : ∃ t,
    exec (.lineChange 3 level) s = .next t ∧
    t = { s with
      inputs := t.inputs, groupFlags := t.groupFlags, latched := t.latched
      feed := s.feed.filter (fun f => !f.reserved)
      rings := older ++ { x with slots := x.slots.set slot ⟨.onErector, some e.id⟩ } :: newer
      place := t.place, outputs := t.outputs, cylinders := t.cylinders } ∧
    (retractCountAfter s (span x.key slot) ≤ 16 - s.params.minHold →
      SpanCommanded (span x.key slot) .retract x.number slot s t ∧ PlacementOutputsOnly s t ∧
      NoticesRaised (fun n => (n = .inputGroupChange ∧ s.inputs[(3 : Fin 12)].mask = true) ∨ n ∈ []) s t ∧
      t.place = { s.place with erector := t.place.erector, timer := ⟨s.params.erectorStepTime, true⟩ } ∧
      (if ∀ i ∈ span x.key slot, extension s i ≤ s.params.retractedAt then
          t.place.erector = .working .positioning ∧
            t.outputs[(21 : Fin 25)].value = 16 + (spanFirst x.key slot).val
        else t.place.erector = .working .clearing ∧ t.outputs[(21 : Fin 25)].value = 1)) ∧
    (16 - s.params.minHold < retractCountAfter s (span x.key slot) →
      t.place = { s.place with
        erector := .halted, interrupted := some .clearing, timer := { s.place.timer with running := false } } ∧
      t.outputs[(21 : Fin 25)].value = 3 ∧ OutputsKeptBut [21] s t ∧ t.cylinders = s.cylinders ∧
      NoticesRaised (fun n =>
        (n = .inputGroupChange ∧ s.inputs[(3 : Fin 12)].mask = true) ∨ n ∈ [.buildAborted]) s t) := by
  obtain ⟨v, same, run, raised⟩ := lineChange_event event
  obtain ⟨-, place, feed, outputs, cylinders, params, channels, -⟩ := same.fields
  have builds' := same.buildsAt builds
  rw [← place] at current picking
  rw [← feed] at reserved
  obtain ⟨feed', rings'⟩ := segGripped_register builds' current picking reserved next
  refine ⟨segGripped v, run, ?_, fun allowed => ?_, fun beyond => ?_⟩
  · rw [feed] at feed'
    generalize ht : segGripped v = t at feed' rings'
    have left : t = { v with
        inputs := t.inputs, groupFlags := t.groupFlags, latched := t.latched, feed := t.feed, rings := t.rings
        place := t.place, outputs := t.outputs, cylinders := t.cylinders } := by
      rw [State.eq_iff, ← ht]
      simp
    rw [same, feed', rings'] at left
    exact left
  · rw [← same.retractCountAfter, ← params] at allowed
    obtain ⟨commanded, only, quiet, placed, step⟩ :=
      segGripped_clears builds' current picking reserved next allowed rfl
    simp only [params, place, extension, channels] at placed step
    exact ⟨same.spanCommanded commanded, same.placementOutputsOnly only, raised.with_group quiet, placed, step⟩
  · rw [← same.retractCountAfter, ← params] at beyond
    obtain ⟨placed, value, kept, cylinders', aborted⟩ := segGripped_halts builds' current picking reserved beyond rfl
    rw [place] at placed
    exact ⟨placed, value, same.outputsKeptBut kept, cylinders'.trans cylinders, raised.with_group aborted⟩

theorem atSlot_event (builds : BuildsAt s older x newer) (current : s.place.current = some slot)
    (event : Input.lineEvent s.inputs[(4 : Fin 12)] { s.inputs[(4 : Fin 12)] with level := level } = true)
    (positioning : s.place.erector = .working .positioning) : ∃ t, exec (.lineChange 4 level) s = .next t ∧
    t = { s with
      inputs := t.inputs, groupFlags := t.groupFlags, latched := t.latched, outputs := t.outputs
      cylinders := t.cylinders
      place := { s.place with erector := .working .seating, timer := ⟨s.params.erectorStepTime, true⟩ } } ∧
    SpanCommanded (span x.key slot) .extend x.number slot s t ∧ PlacementOutputsOnly s t ∧
    NoticesRaised (fun n => (n = .inputGroupChange ∧ s.inputs[(4 : Fin 12)].mask = true) ∨ n ∈ []) s t ∧
    t.outputs[(21 : Fin 25)].value = 2 := by
  obtain ⟨v, same, run, raised⟩ := lineChange_event event
  obtain ⟨-, place, -, -, -, params, -⟩ := same.fields
  rw [← place] at current positioning
  have seats : atSlot v = enterSeating x slot v := by
    rw [atSlot, if_pos positioning, (same.buildsAt builds).building, current]
  obtain ⟨commanded, only, placed, value⟩ := enterSeating_leaves x slot v
  have quiet : NoticesRaised (fun n => n ∈ ([] : List Notice)) v (enterSeating x slot v) :=
    (noticesRaised_none (by simp)).congr (by simp)
  rw [place, params] at placed
  refine ⟨enterSeating x slot v, run.trans (congrArg _ seats), ?_, same.spanCommanded commanded,
    same.placementOutputsOnly only, raised.with_group quiet, value⟩
  generalize ht : enterSeating x slot v = t at placed
  have left : t = { v with
      inputs := t.inputs, groupFlags := t.groupFlags, latched := t.latched, outputs := t.outputs
      cylinders := t.cylinders, place := t.place } := by
    rw [State.eq_iff, ← ht]
    simp
  rw [same, placed] at left
  exact left

/-! ### SEG_BOLTED on an ordinary slot -/

theorem bolted_ordinary (seating : s.place.erector = .working .seating) (current : s.place.current = some slot)
    (ordinary : slot ≠ 6) : segBolted s = afterSlot (segmentPlaced slot s) := by
  rw [segBolted_eq seating current, if_neg ordinary]

theorem bolted_ordinary_leaves (builds : BuildsAt s older x newer) (seating : s.place.erector = .working .seating)
    (current : s.place.current = some slot) (held : x.slots[slot].state = .onErector) (ordinary : slot ≠ 6) :
    OutputsKeptBut [21] s (segBolted s) ∧ (segBolted s).rings =
      older ++ { x with slots := x.slots.set slot { x.slots[slot] with state := .placed } } :: newer ∧
    (segBolted s).place = { s.place with
      erector := (segBolted s).place.erector, current := (segBolted s).place.current
      timer := (segBolted s).place.timer } := by
  have rings := (segmentPlaced_builds builds held).1
  obtain ⟨kept, place⟩ := afterSlot_leaves (segmentPlaced slot s)
  rw [bolted_ordinary seating current ordinary]
  refine ⟨fun o ho => ?_, ?_, ?_⟩
  · rw [kept o ho]
    simp
  · rw [← rings]
    simp
  · rw [place]
    simp

/-- The placement of a bolted slot ends: the erector IDLE, no slot current, the timer frozen (R132). -/
def PlacementStops (s t : State) : Prop :=
  t.feed = s.feed ∧ t.starvation = s.starvation ∧ t.outputs[(21 : Fin 25)].value = 0 ∧
    t.place = { s.place with erector := .idle, current := none, timer := { s.place.timer with running := false } }

theorem WorkAlike.placementStops {s v t : State} (h : WorkAlike s v) (stops : PlacementStops v t) :
    PlacementStops s t := by
  simpa only [PlacementStops, h.fields] using stops

theorem placementStops_placeIdle (slot : Slot) (s : State) : PlacementStops s (placeIdle (segmentPlaced slot s)) := by
  refine ⟨by simp, by simp, placeIdle_value _, ?_⟩
  simp

theorem bolted_single (seating : s.place.erector = .working .seating) (current : s.place.current = some slot)
    (ordinary : slot ≠ 6) (single : s.place.mode = .single) :
    PlacementStops s (segBolted s) ∧ NoticesRaised (fun n => n ∈ [Notice.slotPlaced]) s (segBolted s) := by
  rw [bolted_ordinary seating current ordinary, afterSlot_single (by simpa using single)]
  exact ⟨placementStops_placeIdle slot s, ((segmentPlaced_raises slot s).of_latched (by simp)).congr (by simp)⟩

theorem segmentPlaced_retractCountAfter (slot : Slot) (s : State) (cyls : List (Fin 16)) :
    retractCountAfter (segmentPlaced slot s) cyls = retractCountAfter s cyls := by
  simp only [retractCountAfter, retractCount, command, segmentPlaced_frame]

variable {next : Slot}

theorem bolted_held (builds : BuildsAt s older x newer) (seating : s.place.erector = .working .seating)
    (current : s.place.current = some slot) (held : x.slots[slot].state = .onErector) (ordinary : slot ≠ 6)
    (running : s.place.mode = .run)
    (following : Ring.nextSlot { x with slots := x.slots.set slot { x.slots[slot] with state := .placed } } = some next)
    (stopped : s.place.hold = true ∨ 16 - s.params.minHold < retractCountAfter s (span x.key next)) :
    PlacementStops s (segBolted s) ∧
      NoticesRaised (fun n => n ∈ [Notice.slotPlaced, .buildHeld]) s (segBolted s) := by
  rw [← segmentPlaced_retractCountAfter slot] at stopped
  rw [bolted_ordinary seating current ordinary, afterSlot_held (by simpa using running)
    (segmentPlaced_builds builds held) following (by simpa using stopped)]
  have raised := (segmentPlaced_raises slot s).trans (noticesRaised_raise .buildHeld (segmentPlaced slot s))
  exact ⟨placementStops_placeIdle slot s, (raised.of_latched (by simp)).congr (by simp)⟩

theorem bolted_next (builds : BuildsAt s older x newer) (seating : s.place.erector = .working .seating)
    (current : s.place.current = some slot) (held : x.slots[slot].state = .onErector) (ordinary : slot ≠ 6)
    (running : s.place.mode = .run)
    (following : Ring.nextSlot { x with slots := x.slots.set slot { x.slots[slot] with state := .placed } } = some next)
    (free : s.place.hold = false) (allowed : retractCountAfter s (span x.key next) ≤ 16 - s.params.minHold) :
    NoticesRaised (fun n => n ∈ [Notice.slotPlaced]) s (segBolted s) ∧
      Matched x next { s with place := { s.place with timer := { s.place.timer with running := false } } }
        (segBolted s) := by
  rw [← segmentPlaced_retractCountAfter slot] at allowed
  rw [bolted_ordinary seating current ordinary, afterSlot_next (by simpa using running)
    (segmentPlaced_builds builds held) following (by simpa using free) (by simpa using allowed)]
  refine ⟨((segmentPlaced_raises slot s).of_latched (by simp)).congr (by simp), ?_⟩
  simpa only [Matched, segmentPlaced_frame] using pickStep_matched
    { x with slots := x.slots.set slot { x.slots[slot] with state := .placed } } next (segmentPlaced slot s)

theorem WorkAlike.matched {s v t : State} (h : WorkAlike s v) {r : Ring} {next : Slot}
    (matched : Matched r next { v with place := { v.place with timer := { v.place.timer with running := false } } } t) :
    Matched r next { s with place := { s.place with timer := { s.place.timer with running := false } } } t := by
  simpa only [Matched, h.fields] using matched

/-! ### SEG_BOLTED on the key -/

theorem bolted_key (seating : s.place.erector = .working .seating) (current : s.place.current = some 6) :
    segBolted s = closure (segmentPlaced 6 s) := by
  rw [segBolted_eq seating current, if_pos rfl]

/-- What the closure leaves of the state before the bolting. -/
theorem bolted_key_leaves (seating : s.place.erector = .working .seating) (current : s.place.current = some 6) :
    segBolted s = { s with
      latched := (segBolted s).latched, cycle := .standstill, rings := (segBolted s).rings
      place := (segBolted s).place, outputs := (segBolted s).outputs, cylinders := (segBolted s).cylinders
      ports := (segBolted s).ports, pointer := (segBolted s).pointer } := by
  have state := closure_state (segmentPlaced 6 s)
  have kept : (segBolted s).feed = s.feed ∧ (segBolted s).starvation = s.starvation ∧
      (segBolted s).cycle = .standstill := by
    rw [bolted_key seating current]
    simp [state]
  rw [State.eq_iff]
  simp [kept]

theorem bolted_closes (builds : BuildsAt s older x newer) (seating : s.place.erector = .working .seating)
    (current : s.place.current = some 6) (held : x.slots[(6 : Slot)].state = .onErector) :
    (segBolted s).rings = older ++ { x with
        slots := x.slots.set (6 : Slot) { x.slots[(6 : Slot)] with state := .placed }
        state := .closed, advance := 0, exposure := 0, target := 0, delivered := 0
        voidArea := some (s.params.voidArea.getD 0), groutFactor := some s.params.groutFactor } :: newer ∧
    (segBolted s).place =
      { s.place with erector := .idle, current := none, timer := { s.place.timer with running := false } } ∧
    NoticesRaised (fun n => n ∈ [Notice.slotPlaced, .ringClosed]) s (segBolted s) := by
  have rings := ringClosed_rings (segmentPlaced_builds builds held)
  have state := closure_state (segmentPlaced 6 s)
  rw [bolted_key seating current]
  refine ⟨by simpa [state] using rings, by simp [state], ?_⟩
  exact ((segmentPlaced_raises 6 s).trans (closure_raises _)).congr (by simp)

theorem bolted_key_outputs (seating : s.place.erector = .working .seating) (current : s.place.current = some 6) :
    (segBolted s).outputs[(0 : Fin 25)].value = 0 ∧ (segBolted s).outputs[(22 : Fin 25)].value = 0 ∧
    (segBolted s).outputs[(21 : Fin 25)].value = 0 ∧ GroupsAt (segBolted s) (fun _ => heldPressure s) ∧
    GroutFollows { s with cycle := .standstill, rings := (segBolted s).rings } (segBolted s) ∧
    ∀ i : Fin 16, command (segBolted s) i = .extend ∧
      (segBolted s).cylinders[i] = ⟨{ s.cylinders[i].timer with running := false }, .advance⟩ := by
  rw [bolted_key seating current]
  obtain ⟨permit, screw, erector, groups⟩ := closure_outputs (segmentPlaced 6 s)
  refine ⟨permit, screw, erector, ?_, ?_, fun i => ?_⟩
  · simpa only [heldPressure, ceiling, segmentPlaced_frame] using groups
  · refine (closure_groutFollows (segmentPlaced 6 s)).of_alike ?_ (by simp) (by simp)
    simp [GroutAlike]
  · simpa only [segmentPlaced_frame] using closure_cylinders i (segmentPlaced 6 s)

/-! ### The bolting from the line -/

theorem bolted_event_ordinary {v : State} (same : WorkAlike s v) (builds : BuildsAt s older x newer)
    (current : s.place.current = some slot) (seating : s.place.erector = .working .seating)
    (held : x.slots[slot].state = .onErector) (ordinary : slot ≠ 6) :
    OutputsKeptBut [21] s (segBolted v) ∧ segBolted v = { s with
      inputs := (segBolted v).inputs, groupFlags := (segBolted v).groupFlags, latched := (segBolted v).latched
      rings := older ++ { x with slots := x.slots.set slot { x.slots[slot] with state := .placed } } :: newer
      feed := (segBolted v).feed, outputs := (segBolted v).outputs, starvation := (segBolted v).starvation
      place := { s.place with
        erector := (segBolted v).place.erector, current := (segBolted v).place.current
        timer := (segBolted v).place.timer } } := by
  obtain ⟨-, place, -⟩ := same.fields
  rw [← place] at current seating
  obtain ⟨kept, rings, placed⟩ := bolted_ordinary_leaves (same.buildsAt builds) seating current held ordinary
  have after := bolted_ordinary seating current ordinary
  rw [place] at placed
  generalize ht : segBolted v = t at kept rings placed after
  have left : t = { v with
      inputs := t.inputs, groupFlags := t.groupFlags, latched := t.latched, rings := t.rings, feed := t.feed
      outputs := t.outputs, starvation := t.starvation, place := t.place } := by
    rw [State.eq_iff, after]
    simp [segmentPlaced]
  rw [same, rings, placed] at left
  exact ⟨same.outputsKeptBut kept, left⟩

theorem bolted_event_key {v : State} (same : WorkAlike s v) (builds : BuildsAt s older x newer)
    (current : s.place.current = some 6) (seating : s.place.erector = .working .seating)
    (held : x.slots[(6 : Slot)].state = .onErector) {t : State} (run : t = segBolted v) : t.cycle = .standstill ∧
      t = { s with
        inputs := t.inputs, groupFlags := t.groupFlags, latched := t.latched, cycle := t.cycle, rings := t.rings
        place := t.place, outputs := t.outputs, cylinders := t.cylinders, ports := t.ports
        pointer := t.pointer } ∧
      t.outputs[(0 : Fin 25)].value = 0 ∧ t.outputs[(22 : Fin 25)].value = 0 ∧
      GroutFollows { s with cycle := .standstill, rings := t.rings } t ∧
      t.rings = older ++ { x with
        slots := x.slots.set (6 : Slot) { x.slots[(6 : Slot)] with state := .placed }
        state := .closed, advance := 0, exposure := 0, target := 0, delivered := 0
        voidArea := some (s.params.voidArea.getD 0), groutFactor := some s.params.groutFactor } :: newer ∧
      t.place = { s.place with
        erector := .idle, current := none, timer := { s.place.timer with running := false } } ∧
      t.outputs[(21 : Fin 25)].value = 0 ∧ GroupsAt t (fun _ => heldPressure s) ∧
      ∀ i : Fin 16, command t i = .extend ∧
        t.cylinders[i] = ⟨{ s.cylinders[i].timer with running := false }, .advance⟩ := by
  obtain ⟨-, place, -, outputs, cylinders, params, channels, -, gaugeWorn⟩ := same.fields
  rw [← place] at current seating
  obtain ⟨rings, placed, -⟩ := bolted_closes (same.buildsAt builds) seating current held
  obtain ⟨permit, screw, erector, groups, follows, extended⟩ := bolted_key_outputs seating current
  have left := bolted_key_leaves seating current
  rw [place] at placed
  rw [params] at rings
  simp only [cylinders] at extended
  simp only [heldPressure, ceiling, params, gaugeWorn] at groups
  rw [← run] at *
  have cycle : t.cycle = .standstill := congrArg State.cycle left
  have alike : GroutAlike { v with cycle := .standstill, rings := t.rings }
      { s with cycle := .standstill, rings := t.rings } := by
    unfold GroutAlike
    rw [same]
    simp
  refine ⟨cycle, ?_, permit, screw, follows.of_alike alike (by rw [outputs]) (by rw [outputs]), rings, placed, erector,
    groups, extended⟩
  have left' : t = { v with
      inputs := t.inputs, groupFlags := t.groupFlags, latched := t.latched, cycle := t.cycle, rings := t.rings
      place := t.place, outputs := t.outputs, cylinders := t.cylinders, ports := t.ports, pointer := t.pointer } := by
    rw [State.eq_iff, left]
    simp
  rw [same] at left'
  exact left'

/-- Of O38, the clause on SEG_BOLTED. -/
theorem bolted_event (builds : BuildsAt s older x newer) (current : s.place.current = some slot)
    (event : Input.lineEvent s.inputs[(5 : Fin 12)] { s.inputs[(5 : Fin 12)] with level := level } = true)
    (seating : s.place.erector = .working .seating) (held : x.slots[slot].state = .onErector) :
    let notices := fun (others : List Notice) (s t : State) =>
      NoticesRaised (fun n => (n = .inputGroupChange ∧ s.inputs[(5 : Fin 12)].mask = true) ∨ n ∈ others) s t
    ∃ t placed, exec (.lineChange 5 level) s = .next t ∧
    placed = { x with slots := x.slots.set slot { x.slots[slot] with state := .placed } } ∧
    (slot ≠ 6 → OutputsKeptBut [21] s t ∧
      t = { s with
        inputs := t.inputs, groupFlags := t.groupFlags, latched := t.latched, rings := older ++ placed :: newer
        feed := t.feed, outputs := t.outputs, starvation := t.starvation
        place := { s.place with
          erector := t.place.erector, current := t.place.current, timer := t.place.timer } } ∧
      (s.place.mode = .single → PlacementStops s t ∧ notices [.slotPlaced] s t) ∧
      (∀ next, s.place.mode = .run → placed.nextSlot = some next →
        (s.place.hold = true ∨ 16 - s.params.minHold < retractCountAfter s (span x.key next) →
          PlacementStops s t ∧ notices [.slotPlaced, .buildHeld] s t) ∧
        (s.place.hold = false → retractCountAfter s (span x.key next) ≤ 16 - s.params.minHold →
          notices [.slotPlaced] s t ∧ Matched x next { s with place := { s.place with
            timer := { s.place.timer with running := false } } } t))) ∧
    (slot = 6 → notices [.slotPlaced, .ringClosed] s t ∧ t.cycle = .standstill ∧
      t = { s with
        inputs := t.inputs, groupFlags := t.groupFlags, latched := t.latched, cycle := t.cycle, rings := t.rings
        place := t.place, outputs := t.outputs, cylinders := t.cylinders, ports := t.ports
        pointer := t.pointer } ∧
      t.outputs[(0 : Fin 25)].value = 0 ∧ t.outputs[(22 : Fin 25)].value = 0 ∧
      GroutFollows { s with cycle := .standstill, rings := t.rings } t ∧
      t.rings = older ++ { placed with
        state := .closed, advance := 0, exposure := 0, target := 0, delivered := 0
        voidArea := some (s.params.voidArea.getD 0), groutFactor := some s.params.groutFactor } :: newer ∧
      t.place = { s.place with
        erector := .idle, current := none, timer := { s.place.timer with running := false } } ∧
      t.outputs[(21 : Fin 25)].value = 0 ∧ GroupsAt t (fun _ => heldPressure s) ∧
      ∀ i : Fin 16, command t i = .extend ∧
        t.cylinders[i] = ⟨{ s.cylinders[i].timer with running := false }, .advance⟩) := by
  intro notices
  obtain ⟨v, same, run, raised⟩ := lineChange_event event
  obtain ⟨-, place, -, -, -, params, -⟩ := same.fields
  have builds' := same.buildsAt builds
  have current' : v.place.current = some slot := by rw [place]; exact current
  have seating' : v.place.erector = .working .seating := by rw [place]; exact seating
  refine ⟨segBolted v, _, run, rfl, fun ordinary => ?_, fun key => ?_⟩
  · obtain ⟨kept, left⟩ := bolted_event_ordinary same builds current seating held ordinary
    refine ⟨kept, left, fun single => ?_, fun next running following => ⟨fun stopped => ?_, fun free allowed => ?_⟩⟩
    · obtain ⟨stops, placed⟩ := bolted_single seating' current' ordinary (by rw [place]; exact single)
      exact ⟨same.placementStops stops, raised.with_group placed⟩
    · rw [← same.retractCountAfter, ← params, ← place] at stopped
      obtain ⟨stops, placed⟩ :=
        bolted_held builds' seating' current' held ordinary (by rw [place]; exact running) following stopped
      exact ⟨same.placementStops stops, raised.with_group placed⟩
    · rw [← same.retractCountAfter, ← params] at allowed
      rw [← place] at free
      obtain ⟨placed, matched⟩ :=
        bolted_next builds' seating' current' held ordinary (by rw [place]; exact running) following free allowed
      exact ⟨raised.with_group placed, same.matched matched⟩
  · subst key
    obtain ⟨-, -, closed⟩ := bolted_closes builds' seating' current' held
    exact ⟨raised.with_group closed, bolted_event_key same builds current seating held rfl⟩

end events

/-! ### What moves no placement (R133), and the input's own record (R28, R31) -/

theorem segGripped_idle {s : State} (h : s.place.erector ≠ .working .picking) : segGripped s = s := if_neg h

theorem atSlot_idle {s : State} (h : s.place.erector ≠ .working .positioning) : atSlot s = s := if_neg h

theorem segBolted_idle {s : State} (h : s.place.erector ≠ .working .seating) : segBolted s = s := if_neg h

/-- A line change of an erector input, held or not. -/
theorem exec_lineChange_cases (i : Fin 12) (level : Level) (s : State) :
    (s.inputs[i].level = level ∧ exec (.lineChange i level) s = .next s) ∨
      exec (.lineChange i level) s = .next (takeInput i { s.inputs[i] with level := level }
        (Input.lineEvent s.inputs[i] { s.inputs[i] with level := level }) s) := by
  by_cases same : s.inputs[i].level = level
  · exact .inl ⟨same, congrArg Host.Outcome.next (if_pos same)⟩
  · exact .inr (congrArg Host.Outcome.next (if_neg same))

theorem useInput_unmoved {i : Fin 12} {event : Bool} {before s : State} (hi : i = 3 ∨ i = 4 ∨ i = 5)
    (still : event = false ∨ (i = 3 ∧ s.place.erector ≠ .working .picking) ∨
      (i = 4 ∧ s.place.erector ≠ .working .positioning) ∨ (i = 5 ∧ s.place.erector ≠ .working .seating)) :
    useInput i event before s = s := by
  obtain rfl | ⟨rfl, idle⟩ | ⟨rfl, idle⟩ | ⟨rfl, idle⟩ := still
  · exact (useInput_erector hi false before before s).2
  · exact (ite_eq_right_iff.mpr fun _ => segGripped_idle idle)
  · exact (ite_eq_right_iff.mpr fun _ => atSlot_idle idle)
  · exact (ite_eq_right_iff.mpr fun _ => segBolted_idle idle)

theorem erector_unmoved {i : Fin 12} {level : Level} {s : State} (hi : i = 3 ∨ i = 4 ∨ i = 5)
    (still : Input.lineEvent s.inputs[i] { s.inputs[i] with level := level } = false ∨
      (i = 3 ∧ s.place.erector ≠ .working .picking) ∨ (i = 4 ∧ s.place.erector ≠ .working .positioning) ∨
      (i = 5 ∧ s.place.erector ≠ .working .seating)) : ∃ t, exec (.lineChange i level) s = .next t ∧
    t = { s with inputs := t.inputs, groupFlags := t.groupFlags, latched := t.latched } ∧
    NoticesRaised (fun n => n = .inputGroupChange ∧ s.inputs[i].mask = true ∧
      Input.lineEvent s.inputs[i] { s.inputs[i] with level := level } = true) s t := by
  obtain ⟨held, run⟩ | run := exec_lineChange_cases i level s
  · subst held
    refine ⟨s, run, rfl, (noticesRaised_none rfl).congr fun n => ?_⟩
    simp [lineEvent_same]
  · generalize Input.lineEvent s.inputs[i] { s.inputs[i] with level := level } = event at still run
    have raised := sensed_raises i { s.inputs[i] with level := level } event s
    have same := sensed_eq i { s.inputs[i] with level := level } event s
    rw [takeInput_eq, useInput_unmoved hi (by rw [same]; exact still)] at run
    exact ⟨_, run, same.trans (by rw [same]), raised.congr fun n => by simp [and_comm]⟩

/-- The notices of `t` are those of `s` and perhaps more. -/
def LatchesMore (s t : State) : Prop := ∃ more, t.latched = s.latched ||| more

theorem latchesMore_of_eq {s t : State} (h : t.latched = s.latched) : LatchesMore s t := ⟨0, by simp [h]⟩

theorem LatchesMore.getLsbD {s t : State} (h : LatchesMore s t) {n : Notice}
    (latched : s.latched.getLsbD n.number = true) : t.latched.getLsbD n.number = true := by
  obtain ⟨more, h⟩ := h
  rw [h, BitVec.getLsbD_or, latched, Bool.true_or]

theorem segGripped_latchesMore (s : State) : LatchesMore s (segGripped s) := by
  unfold segGripped
  dsimp only
  repeat' split
  · exact latchesMore_of_eq (by simp)
  · exact ⟨_, by rw [haltPlacement_latched]; simp; rfl⟩
  · exact latchesMore_of_eq rfl
  · exact latchesMore_of_eq rfl

theorem afterSlot_latchesMore (s : State) : LatchesMore s (afterSlot s) := by
  have held : LatchesMore s (raise .buildHeld (placeIdle s)) := ⟨_, by simp; rfl⟩
  unfold afterSlot
  repeat' split
  · exact latchesMore_of_eq (by simp)
  · exact held
  · exact held
  · exact held
  · exact latchesMore_of_eq (by simp)
  · exact held

theorem segBolted_latchesMore (s : State) : LatchesMore s (segBolted s) := by
  by_cases seating : s.place.erector = .working .seating
  · cases current : s.place.current with
    | none =>
      refine latchesMore_of_eq ?_
      rw [segBolted, if_pos seating, current]
    | some slot =>
      have placed : (segmentPlaced slot s).latched = s.latched ||| Notice.slotPlaced.bit := by simp [segmentPlaced]
      rw [segBolted_eq seating current]
      split
      · refine ⟨Notice.slotPlaced.bit ||| Notice.ringClosed.bit, ?_⟩
        rw [← BitVec.or_assoc, ← placed]
        simp [closure_eq, ringClosed, closeRing]
      · obtain ⟨more, after⟩ := afterSlot_latchesMore (segmentPlaced slot s)
        exact ⟨Notice.slotPlaced.bit ||| more, by rw [after, placed, BitVec.or_assoc]⟩
  · exact latchesMore_of_eq (by rw [segBolted_idle seating])

theorem useInput_latchesMore {i : Fin 12} (hi : i = 3 ∨ i = 4 ∨ i = 5) (event : Bool) (before s : State) :
    LatchesMore s (useInput i event before s) := by
  cases event with
  | false => exact latchesMore_of_eq (by rw [(useInput_erector hi false before before s).2])
  | true =>
    obtain rfl | rfl | rfl := hi
    · exact segGripped_latchesMore s
    · exact latchesMore_of_eq (atSlot_frame s).2.1
    · exact segBolted_latchesMore s

theorem erector_input {i : Fin 12} {level : Level} {s : State} (hi : i = 3 ∨ i = 4 ∨ i = 5)
    (moved : s.inputs[i].level ≠ level) : ∃ t, exec (.lineChange i level) s = .next t ∧
    t.inputs = s.inputs.set i { s.inputs[i] with level := level } ∧
    (senses s.inputs[i].mode level ∧ s.inputs[i].mask = true →
      t.latched.getLsbD Notice.inputGroupChange.number = true ∧
        ∀ g : Fin 3, t.groupFlags[g] = (s.groupFlags[g] || i.val / 4 == g.val)) ∧
    (¬ senses s.inputs[i].mode level ∨ s.inputs[i].mask = false → t.groupFlags = s.groupFlags) := by
  have event := lineEvent_iff moved
  have flags := takeInput_groupFlags i { s.inputs[i] with level := level }
    (Input.lineEvent s.inputs[i] { s.inputs[i] with level := level }) s
  have raised := sensed_raises i { s.inputs[i] with level := level }
    (Input.lineEvent s.inputs[i] { s.inputs[i] with level := level }) s
  refine ⟨_, congrArg Host.Outcome.next (if_neg moved), (takeInput_inputs i _ _ s).1, fun h => ⟨?_, ?_⟩, fun h => ?_⟩
  · exact (useInput_latchesMore hi _ s _).getLsbD ((raised .inputGroupChange).mpr (.inr ⟨rfl, event.mpr h.1, h.2⟩))
  · exact flags.1 ⟨event.mpr h.1, h.2⟩
  · exact flags.2 (h.imp_left fun none => Bool.eq_false_iff.mpr fun e => none (event.mp e))

/-- Settles O38. -/
theorem erectorEvents : Obligations.ErectorEvents :=
  ⟨fun _ _ _ _ _ _ builds current =>
    ⟨fun _ event picking reserved next => gripped_event builds current event picking reserved next,
      fun event positioning => atSlot_event builds current event positioning,
      fun event seating held => bolted_event builds current event seating held⟩,
    fun _ _ _ hi still => erector_unmoved hi still, fun _ _ _ hi moved => erector_input hi moved⟩

end Sys2Proof.Machine

/-! ## An idle millisecond: the timers that reach zero, one group after another (log 1, log 3)

Each group is a fold of one expiry over its timers. An expiry touches its own timer's record and what its owner keeps
of it, so a view of the state that only the expiry of `k` changes is after the fold what that expiry made of it. -/

namespace Sys2Proof.Machine

/-! ### Folds -/

theorem foldl_view {σ α β : Type} {f : σ → α → σ} {view : σ → β} {k : α} {l : List α} (once : l.Nodup) (hk : k ∈ l)
    (others : ∀ t a, a ≠ k → view (f t a) = view t) (s : σ) :
    ∃ u, view u = view s ∧ view (l.foldl f s) = view (f u k) := by
  obtain ⟨before, after, rfl⟩ := List.append_of_mem hk
  have apart : (∀ a ∈ before, a ≠ k) ∧ ∀ a ∈ after, a ≠ k := by
    rw [List.nodup_append, List.nodup_cons] at once
    obtain ⟨-, ⟨fresh, -⟩, disjoint⟩ := once
    exact ⟨fun a ha => disjoint a ha k (by simp), fun a ha e => fresh (e ▸ ha)⟩
  rw [List.foldl_append, List.foldl_cons]
  refine ⟨before.foldl f s, ?_, ?_⟩
  · exact List.foldlRecOn (motive := fun t : σ => view t = view s) before f rfl fun t h a ha =>
      (others t a (apart.1 a ha)).trans h
  · exact List.foldlRecOn (motive := fun t : σ => view t = _) after f rfl fun t h a ha =>
      (others t a (apart.2 a ha)).trans h

theorem foldl_still {σ α : Type} {f : σ → α → σ} {s : σ} {l : List α} (h : ∀ a ∈ l, f s a = s) : l.foldl f s = s :=
  List.foldlRecOn (motive := fun t : σ => t = s) l f rfl fun t e a ha => by rw [e, h a ha]

/-! ### Counting down -/

theorem Timer.pass_due (t : Timer) : t.pass.due = (t.running && t.value == 1) := by
  obtain ⟨value, running⟩ := t
  cases running with
  | false => rfl
  | true =>
    simp only [Timer.pass, Timer.due, if_true, Bool.true_and]
    rw [Bool.eq_iff_iff, beq_iff_eq, beq_iff_eq]
    omega

theorem Timer.due_iff (t : Timer) : t.due = true ↔ t.running = true ∧ t.value = 0 := by simp [Timer.due]

theorem Timer.atZero_due {t : Timer} (h : t.due = true) : t.atZero = t := by
  rw [Timer.due_iff] at h
  rw [Timer.atZero, ← h.2]

theorem Timer.eq_of_due {t : Timer} (h : t.due = true) : t = ⟨0, true⟩ := by
  obtain ⟨running, zero⟩ := t.due_iff.mp h
  rw [← running, ← zero]

/-! ### Stale timers (R21, R22) -/

/-- The channel record that has gone STALE, before its owner is told. -/
def wentStale (c : Fin 30) (s : State) : State :=
  { s with channels := s.channels.set c { s.channels[c] with fresh := false, timer := s.channels[c].timer.atZero } }

theorem staleExpired_told (c : Fin 30) (s : State) : staleExpired c s = tellStale c (wentStale c s) := rfl

theorem wentStale_fresh (c : Fin 30) (s : State) : (wentStale c s).channels[c].fresh = false := by simp [wentStale]

/-- The expiry of one stale timer, where it is due. -/
def staleStep (s : State) (c : Fin 30) : State := if s.channels[c].timer.due then staleExpired c s else s

theorem expireStales_eq (s : State) : expireStales s = (List.finRange 30).foldl staleStep s := rfl

theorem expireStales_view {β : Type} {view : State → β} {c : Fin 30}
    (others : ∀ t d, d ≠ c → view (staleStep t d) = view t) (s : State) :
    ∃ u, view u = view s ∧ view (expireStales s) = view (staleStep u c) :=
  foldl_view (List.nodup_finRange 30) (List.mem_finRange c) others s

theorem staleStep_other {c d : Fin 30} (h : d ≠ c) (s : State) : (staleStep s d).channels[c] = s.channels[c] := by
  have apart : d.val ≠ c.val := fun e => h (Fin.ext e)
  unfold staleStep
  split
  · simp [staleExpired_channels, Vector.getElem_set_ne _ _ apart]
  · rfl

theorem staleStep_self (c : Fin 30) (s : State) : (staleStep s c).channels[c] =
    { s.channels[c] with fresh := s.channels[c].fresh && !s.channels[c].timer.due } := by
  cases due : s.channels[c].timer.due with
  | true =>
    rw [staleStep, if_pos due, staleExpired_channels, Timer.atZero_due due]
    simp
  | false => rw [staleStep, due, if_neg (by decide), Bool.not_false, Bool.and_true]

theorem expireStales_channel (c : Fin 30) (s : State) : (expireStales s).channels[c] =
    { s.channels[c] with fresh := s.channels[c].fresh && !s.channels[c].timer.due } := by
  obtain ⟨u, before, after⟩ :=
    expireStales_view (view := fun t => t.channels[c]) (fun t d h => staleStep_other h t) s
  rw [after, staleStep_self, before]

/-- What the owner keeps is to be taken anew where the channel's timer is due. -/
theorem staleStep_anew (c : Fin 30) (s : State) :
    (staleStep s c).angle = ⟨s.angle.prev, s.angle.rebase || (c == 20 && s.channels[c].timer.due)⟩ ∧
    (staleStep s c).mass = ⟨s.mass.prev, s.mass.rebase || (c == 22 && s.channels[c].timer.due)⟩ ∧
    (staleStep s c).pulse = ⟨s.pulse.prev, s.pulse.rebase || (c == 23 && s.channels[c].timer.due)⟩ ∧
    (staleStep s c).screw =
      { s.screw with chamberHeld := s.screw.chamberHeld || (c == 21 && s.channels[c].timer.due) } := by
  unfold staleStep
  split
  · next due =>
    rw [due]
    simpa [staleExpired_told, wentStale] using tellStale_anew c (wentStale c s)
  · next not =>
    rw [Bool.not_eq_true] at not
    simp only [not, Bool.and_false, Bool.or_false, and_self]

/-- A part of the state that the expiry of one channel alone changes, with that channel's record. -/
theorem expireStales_owner {β : Type} {part : State → β} {c : Fin 30}
    (others : ∀ t d, d ≠ c → part (staleStep t d) = part t) (s : State) :
    ∃ u, part u = part s ∧ u.channels[c] = s.channels[c] ∧ part (expireStales s) = part (staleStep u c) := by
  obtain ⟨u, before, after⟩ := expireStales_view (view := fun t => (part t, t.channels[c]))
    (fun t d h => Prod.ext (others t d h) (staleStep_other h t)) s
  exact ⟨u, congrArg Prod.fst before, congrArg Prod.snd before, congrArg Prod.fst after⟩

theorem expireStales_anew (s : State) :
    (expireStales s).angle = ⟨s.angle.prev, s.angle.rebase || s.channels[(20 : Fin 30)].timer.due⟩ ∧
    (expireStales s).mass = ⟨s.mass.prev, s.mass.rebase || s.channels[(22 : Fin 30)].timer.due⟩ ∧
    (expireStales s).pulse = ⟨s.pulse.prev, s.pulse.rebase || s.channels[(23 : Fin 30)].timer.due⟩ ∧
    (expireStales s).screw =
      { s.screw with chamberHeld := s.screw.chamberHeld || s.channels[(21 : Fin 30)].timer.due } := by
  refine ⟨?_, ?_, ?_, ?_⟩
  · obtain ⟨u, same, channel, after⟩ := expireStales_owner (part := State.angle) (c := 20)
      (fun t d h => by rw [(staleStep_anew d t).1, beq_false_of_ne h, Bool.false_and, Bool.or_false]) s
    rw [after, (staleStep_anew 20 u).1, same, channel]
    rfl
  · obtain ⟨u, same, channel, after⟩ := expireStales_owner (part := State.mass) (c := 22)
      (fun t d h => by rw [(staleStep_anew d t).2.1, beq_false_of_ne h, Bool.false_and, Bool.or_false]) s
    rw [after, (staleStep_anew 22 u).2.1, same, channel]
    rfl
  · obtain ⟨u, same, channel, after⟩ := expireStales_owner (part := State.pulse) (c := 23)
      (fun t d h => by rw [(staleStep_anew d t).2.2.1, beq_false_of_ne h, Bool.false_and, Bool.or_false]) s
    rw [after, (staleStep_anew 23 u).2.2.1, same, channel]
    rfl
  · obtain ⟨u, same, channel, after⟩ := expireStales_owner (part := State.screw) (c := 21)
      (fun t d h => by rw [(staleStep_anew d t).2.2.2, beq_false_of_ne h, Bool.false_and, Bool.or_false]) s
    rw [after, (staleStep_anew 21 u).2.2.2, same, channel]
    rfl

/-- The ports, the outputs and the search pointer. -/
def grout (s : State) : Vector Port 6 × Vector Output 25 × Fin 16 := (s.ports, s.outputs, s.pointer)

theorem staleStep_grout {c : Fin 30} (h : c ≠ 23) (s : State) : grout (staleStep s c) = grout s := by
  unfold staleStep
  split
  · obtain ⟨ports, outputs, pointer⟩ := tellStale_grout h (wentStale c s)
    rw [grout, staleExpired_told, ports, outputs, pointer]
    rfl
  · rfl

theorem expireStales_grout (s : State) :
    ∃ u, grout u = grout s ∧ u.channels[(23 : Fin 30)] = s.channels[(23 : Fin 30)] ∧
      grout (expireStales s) = grout (staleStep u 23) :=
  expireStales_owner (fun t _ h => staleStep_grout h t) s

theorem grout_iff {s t : State} :
    grout t = grout s ↔ t.ports = s.ports ∧ t.outputs = s.outputs ∧ t.pointer = s.pointer := by
  simp [grout]

/-- While channel 23 stays FRESH the Grout Controller is told nothing. -/
theorem expireStales_grout_kept {s : State} (h : s.channels[(23 : Fin 30)].timer.due = false) :
    grout (expireStales s) = grout s := by
  obtain ⟨u, same, channel, after⟩ := expireStales_grout s
  rw [after, staleStep, channel, h, if_neg (by decide), same]

theorem staleExpired_pulses {s : State} (one : OneServing s) : (staleExpired 23 s).pointer = s.pointer ∧
    (staleExpired 23 s).outputs[(23 : Fin 25)].value = 255 ∧ (staleExpired 23 s).outputs[(24 : Fin 25)].value = 0 ∧
    ∀ p : Fin 6, (staleExpired 23 s).ports[p] = if s.ports[p].state = .serving then
      { s.ports[p] with state := .idle, timer := s.ports[p].timer.freeze } else s.ports[p] := by
  obtain ⟨pointer, valve, pump, -, shots⟩ :=
    tellStale_pulses_leaves (s := wentStale 23 s) one (wentStale_fresh 23 s)
  exact ⟨pointer, valve, pump, shots⟩

theorem expireStales_grout_stale {s : State} (one : OneServing s) (h : s.channels[(23 : Fin 30)].timer.due = true) :
    (expireStales s).pointer = s.pointer ∧ (expireStales s).outputs[(23 : Fin 25)].value = 255 ∧
    (expireStales s).outputs[(24 : Fin 25)].value = 0 ∧
    ∀ p : Fin 6, (expireStales s).ports[p] = if s.ports[p].state = .serving then
      { s.ports[p] with state := .idle, timer := s.ports[p].timer.freeze } else s.ports[p] := by
  obtain ⟨u, same, channel, after⟩ := expireStales_grout s
  rw [staleStep, channel, h, if_pos rfl] at after
  obtain ⟨ports, outputs, pointer⟩ := grout_iff.mp same
  obtain ⟨ports', outputs', pointer'⟩ := grout_iff.mp after
  have one' : OneServing u := by simpa only [OneServing, ports] using one
  rw [ports', outputs', pointer', ← pointer, ← ports]
  exact staleExpired_pulses one'

theorem expireStales_outputs (s : State) : OutputsKeptBut [23, 24] s (expireStales s) := by
  obtain ⟨u, same, -, after⟩ := expireStales_grout s
  obtain ⟨-, outputs, -⟩ := grout_iff.mp same
  obtain ⟨-, outputs', -⟩ := grout_iff.mp after
  intro o ho
  have apart : o ≠ 23 ∧ o ≠ 24 := by
    constructor <;> rintro rfl <;> simp at ho
  rw [outputs', ← outputs, staleStep]
  split
  · show (groutSettle _).outputs[o] = _
    rw [groutSettle_other apart.1 apart.2]
    split <;> rfl
  · rfl

theorem tellStale_pulses_settles (s : State) :
    ∃ u : State, u.ports = s.ports ∧ u.channels = s.channels ∧ tellStale 23 s = groutSettle (endServing u) :=
  ⟨{ s with pulse := { s.pulse with rebase := true } }, rfl, rfl, rfl⟩

/-- A shot ended, perhaps another after it, and no search. -/
theorem staleExpired_port (p : Fin 6) (s : State) :
    (staleExpired 23 s).ports[p] = s.ports[p] ∨ (staleExpired 23 s).ports[p].state = .idle := by
  obtain ⟨u, ports, channels, told⟩ := tellStale_pulses_settles (wentStale 23 s)
  have stale : (endServing u).channels[(23 : Fin 30)].fresh = false := by
    simpa [channels] using wentStale_fresh 23 s
  have first := endServing_get_or u p
  rw [staleExpired_told, told, groutSettle_ports, show s.ports = u.ports from ports.symm]
  obtain settled | settled := portsSettled_stale stale
  · rw [settled]
    exact first
  · rw [settled]
    obtain kept | idle := endServing_get_or (endServing u) p
    · rw [kept]
      exact first
    · exact .inr idle

/-- With or without a shot ended, a port is as it was or IDLE. -/
theorem expireStales_port (p : Fin 6) (s : State) :
    (expireStales s).ports[p] = s.ports[p] ∨ (expireStales s).ports[p].state = .idle := by
  obtain ⟨u, same, -, after⟩ := expireStales_grout s
  obtain ⟨ports, -⟩ := grout_iff.mp same
  obtain ⟨ports', -⟩ := grout_iff.mp after
  rw [ports', ← ports, staleStep]
  split
  · exact staleExpired_port p u
  · exact .inl rfl

/-- Nothing changes but the channels, what their owners keep of them, and the grout. -/
def StalesOnly (s t : State) : Prop :=
  t = { s with
    channels := t.channels, angle := t.angle, screw := t.screw, mass := t.mass, pulse := t.pulse, ports := t.ports
    outputs := t.outputs, pointer := t.pointer }

theorem StalesOnly.trans {s t u : State} (h : StalesOnly s t) (g : StalesOnly t u) : StalesOnly s u := by
  unfold StalesOnly at h g
  rw [h] at g
  exact g

theorem expireStales_only (s : State) : StalesOnly s (expireStales s) := by
  rw [expireStales_eq]
  generalize List.finRange 30 = l
  refine List.foldlRecOn (motive := fun t : State => StalesOnly s t) l staleStep rfl fun t h c _ => ?_
  rw [staleStep]
  split
  · exact h.trans (staleExpired_eq c t)
  · exact h

end Sys2Proof.Machine

/-! ## An idle millisecond: retract timers, the step timer and block timers -/

namespace Sys2Proof.Machine

/-! ### Retract timers and the step timer (R91, R134) -/

/-- Nothing changes but the latched notices. -/
def NoticesOnly (s t : State) : Prop := t = { s with latched := t.latched }

theorem NoticesOnly.trans {s t u : State} (h : NoticesOnly s t) (g : NoticesOnly t u) : NoticesOnly s u := by
  unfold NoticesOnly at h g
  rw [h] at g
  exact g

def retractStep (s : State) (i : Fin 16) : State := if s.cylinders[i].timer.due then retractExpired i s else s

/-- The retract timer of cylinder i stands at zero and the cylinder is RETRACTING. -/
def retractLate (s : State) (i : Fin 16) : Prop :=
  s.cylinders[i].timer.due = true ∧ command s i = .retract ∧ s.params.retractedAt < extension s i

theorem NoticesOnly.retractLate {s t : State} (h : NoticesOnly s t) (i : Fin 16) :
    retractLate t i ↔ retractLate s i := by
  unfold NoticesOnly at h
  rw [h]
  rfl

theorem retractStep_leaves (s : State) (i : Fin 16) : NoticesOnly s (retractStep s i) ∧
    NoticesRaised (fun n => n = .retractLate ∧ retractLate s i) s (retractStep s i) := by
  unfold retractStep retractLate
  cases due : s.cylinders[i].timer.due with
  | false => exact ⟨rfl, (noticesRaised_none rfl).congr (by simp)⟩
  | true =>
    have record : { s.cylinders[i] with timer := ⟨0, true⟩ } = s.cylinders[i] := by rw [← Timer.eq_of_due due]
    have cylinders : s.cylinders.set i { s.cylinders[i] with timer := ⟨0, true⟩ } = s.cylinders := by
      rw [record]
      exact Vector.set_getElem_self _
    rw [if_pos rfl, retractExpired_eq ((Timer.due_iff _).mp due).1, cylinders]
    refine ⟨rfl, ?_⟩
    split
    · next late => exact ((noticesRaised_raise .retractLate s).of_latched rfl).congr (by simp [late])
    · next early => exact (noticesRaised_none rfl).congr fun n => by simp [early]

theorem retractSteps_leave (l : List (Fin 16)) (s : State) : NoticesOnly s (l.foldl retractStep s) ∧
    NoticesRaised (fun n => n = .retractLate ∧ ∃ i ∈ l, retractLate s i) s (l.foldl retractStep s) := by
  induction l generalizing s with
  | nil => exact ⟨rfl, (noticesRaised_none rfl).congr (by simp)⟩
  | cons i l ih =>
    obtain ⟨only, raised⟩ := retractStep_leaves s i
    obtain ⟨only', raised'⟩ := ih (retractStep s i)
    refine ⟨only.trans only', (raised.trans raised').congr fun n => ?_⟩
    simp only [only.retractLate, List.mem_cons, exists_eq_or_imp, and_or_left]

theorem expireRetracts_leaves (s : State) : NoticesOnly s (expireRetracts s) ∧
    NoticesRaised (fun n => n = .retractLate ∧ ∃ i, retractLate s i) s (expireRetracts s) := by
  obtain ⟨only, raised⟩ := retractSteps_leave (List.finRange 16) s
  exact ⟨only, raised.congr (by simp)⟩

theorem expireStep_leaves (s : State) : NoticesOnly s (expireStep s) ∧
    NoticesRaised (fun n => n = .erectorStepLate ∧ s.place.timer.due = true) s (expireStep s) := by
  unfold expireStep
  cases due : s.place.timer.due with
  | false => exact ⟨rfl, (noticesRaised_none rfl).congr (by simp)⟩
  | true =>
    rw [if_pos rfl, stepExpired, Timer.atZero_due due]
    exact ⟨rfl, (noticesRaised_raise .erectorStepLate s).congr (by simp)⟩

/-! ### Block timers (R149, R146) -/

/-- The port is SERVING and its block timer stands at zero. -/
def blockDue (s : State) (p : Fin 6) : Prop := s.ports[p].state = .serving ∧ s.ports[p].timer.due = true

/-- The port that has become BLOCKED, before the grout settles. -/
def wentBlocked (p : Fin 6) (s : State) : State :=
  raise .portBlocked (setPort p (fun port => { port with state := .blocked, timer := port.timer.atZero }) s)

theorem blockExpired_settles (p : Fin 6) (s : State) : blockExpired p s = groutSettle (wentBlocked p s) := rfl

theorem wentBlocked_get (p q : Fin 6) (s : State) : (wentBlocked p s).ports[q] =
    if q = p then { s.ports[p] with state := .blocked, timer := s.ports[p].timer.atZero } else s.ports[q] :=
  setPort_get p q (fun port => { port with state := .blocked, timer := port.timer.atZero }) s

theorem wentBlocked_rests {p : Fin 6} {s : State} (one : OneServing s) (serving : s.ports[p].state = .serving)
    (q : Fin 6) : (wentBlocked p s).ports[q].state ≠ .serving := by
  rw [wentBlocked_get]
  split
  · nofun
  · next other => exact fun h => other (one q p h serving)

theorem searchEntry_idle {s : State} {e : Fin 16} {q : Fin 6} (h : searchEntry s = some (e, q)) :
    s.ports[q].state = .idle := by
  obtain ⟨j, -, found⟩ := List.exists_of_findSome?_eq_some h
  dsimp only at found
  split at found
  · split at found
    · next idle =>
      cases found
      exact idle
    · cases found
  · cases found

/-- With no port SERVING settling leaves the ports, or serves one IDLE port with a new shot (R146). -/
theorem portsSettled_resting {s : State} (rests : ∀ p : Fin 6, s.ports[p].state ≠ .serving) :
    (portsSettled s).ports = s.ports ∨ ∃ q : Fin 6, s.ports[q].state = .idle ∧ ∀ r : Fin 6, (portsSettled s).ports[r] =
      if r = q then { s.ports[q] with state := .serving, shot := 0, timer := ⟨s.params.blockTime, true⟩ }
      else s.ports[r] := by
  have resting := servingPort_eq_none.mpr rests
  unfold portsSettled
  rw [endServing_of_none resting, resting, Option.isNone_none, if_pos rfl]
  split
  · unfold search
    split
    · split
      · next e q found => exact .inr ⟨q, searchEntry_idle found, fun r => setPort_get q r _ _⟩
      · exact .inl rfl
    · exact .inl rfl
  · exact .inl rfl

section one

variable {p : Fin 6} {s : State}

/-- The ports after the SERVING port blocked: one other, at most, is SERVING, with its block timer loaded. -/
theorem blockExpired_port (one : OneServing s) (serving : s.ports[p].state = .serving) :
    ∃ q : Fin 6, q ≠ p ∧ (blockExpired p s).ports[p].state = .blocked ∧ ∀ r : Fin 6,
      (blockExpired p s).ports[r].state = .serving →
        r = q ∧ (blockExpired p s).ports[r].timer = ⟨s.params.blockTime, true⟩ := by
  have rests := wentBlocked_rests one serving
  have blocked : (wentBlocked p s).ports[p].state = .blocked := by rw [wentBlocked_get, if_pos rfl]
  rw [blockExpired_settles, groutSettle_ports]
  obtain kept | ⟨q, idle, ports⟩ := portsSettled_resting rests
  · rw [kept]
    exact ⟨p + 1, by omega, blocked, fun r h => absurd h (rests r)⟩
  · have apart : q ≠ p := by
      rintro rfl
      rw [blocked] at idle
      cases idle
    refine ⟨q, apart, by rw [ports, if_neg apart.symm, blocked], fun r h => ?_⟩
    rw [ports] at h ⊢
    split at h
    · next e => exact ⟨e, by rw [if_pos e]; rfl⟩
    · exact absurd h (rests r)

theorem blockExpired_one (one : OneServing s) (serving : s.ports[p].state = .serving) :
    OneServing (blockExpired p s) := by
  obtain ⟨q, -, -, only⟩ := blockExpired_port one serving
  intro a b ha hb
  rw [(only a ha).1, (only b hb).1]

/-- The port a search serves has its block timer loaded above zero. -/
theorem blockExpired_calm (one : OneServing s) (serving : s.ports[p].state = .serving) (loads : 0 < s.params.blockTime)
    (r : Fin 6) : ¬ blockDue (blockExpired p s) r := by
  obtain ⟨q, -, -, only⟩ := blockExpired_port one serving
  rintro ⟨again, due⟩
  rw [(only r again).2, Timer.due_iff] at due
  have zero : (s.params.blockTime : Int) = 0 := due.2
  omega

end one

/-- Nothing changes but the ports, the search pointer, the outputs and the latched notices. -/
def BlocksOnly (s t : State) : Prop :=
  t = { s with ports := t.ports, pointer := t.pointer, outputs := t.outputs, latched := t.latched }

theorem BlocksOnly.trans {s t u : State} (h : BlocksOnly s t) (g : BlocksOnly t u) : BlocksOnly s u := by
  unfold BlocksOnly at h g
  rw [h] at g
  exact g

theorem blockExpired_only (p : Fin 6) (s : State) : BlocksOnly s (blockExpired p s) := by
  unfold BlocksOnly
  rw [State.eq_iff]
  simp

theorem blockExpired_raises (p : Fin 6) (s : State) :
    NoticesRaised (fun n => n = .portBlocked) s (blockExpired p s) :=
  (noticesRaised_raise .portBlocked s).of_latched (by simp [blockExpired_settles, wentBlocked])

theorem blockExpired_outputs (p : Fin 6) (s : State) : OutputsKeptBut [23, 24] s (blockExpired p s) := by
  intro o ho
  have apart : o ≠ 23 ∧ o ≠ 24 := by
    constructor <;> rintro rfl <;> simp at ho
  rw [blockExpired_settles, groutSettle_other apart.1 apart.2]
  rfl

/-- The expiry of one block timer, where it is due. -/
def blockStep (s : State) (p : Fin 6) : State :=
  if s.ports[p].state = .serving ∧ s.ports[p].timer.due then blockExpired p s else s

theorem blockStep_due {s : State} {p : Fin 6} (h : blockDue s p) : blockStep s p = blockExpired p s := if_pos h

theorem blockStep_still {s : State} {p : Fin 6} (h : ¬ blockDue s p) : blockStep s p = s := if_neg h

theorem expireBlocks_eq (s : State) : expireBlocks s = (List.finRange 6).foldl blockStep s := rfl

theorem expireBlocks_still {s : State} (h : ∀ p, ¬ blockDue s p) : expireBlocks s = s :=
  foldl_still fun p _ => blockStep_still (h p)

/-- Where at most one port is SERVING its expiry is the only one, and makes no other due. -/
theorem expireBlocks_one {s : State} {p : Fin 6} (one : OneServing s) (due : blockDue s p)
    (loads : 0 < s.params.blockTime) : expireBlocks s = blockExpired p s := by
  obtain ⟨before, after, split⟩ := List.append_of_mem (List.mem_finRange p)
  have once := List.nodup_finRange 6
  rw [split, List.nodup_append] at once
  obtain ⟨-, -, disjoint⟩ := once
  have first : before.foldl blockStep s = s := foldl_still fun q hq => blockStep_still fun other =>
    disjoint q hq p (by simp) (one q p other.1 due.1)
  rw [expireBlocks_eq, split, List.foldl_append, first, List.foldl_cons, blockStep_due due]
  exact foldl_still fun q _ => blockStep_still (blockExpired_calm one due.1 loads q)

theorem expireBlocks_leaves (s : State) :
    BlocksOnly s (expireBlocks s) ∧ OutputsKeptBut [23, 24] s (expireBlocks s) := by
  rw [expireBlocks_eq]
  generalize List.finRange 6 = l
  refine List.foldlRecOn (motive := fun t : State => BlocksOnly s t ∧ OutputsKeptBut [23, 24] s t) l blockStep
    ⟨rfl, fun _ _ => rfl⟩ fun t h p _ => ?_
  unfold blockStep
  split
  · exact ⟨h.1.trans (blockExpired_only p t), OutputsKeptBut.trans h.2 (blockExpired_outputs p t)⟩
  · exact h

/-- The first timer due raises PORT_BLOCKED, and a further one raises nothing else. -/
theorem blockSteps_raise (l : List (Fin 6)) (s : State) :
    NoticesRaised (fun n => n = .portBlocked ∧ ∃ p ∈ l, blockDue s p) s (l.foldl blockStep s) := by
  induction l generalizing s with
  | nil => exact (noticesRaised_none rfl).congr (by simp)
  | cons p l ih =>
    by_cases due : blockDue s p
    · rw [List.foldl_cons, blockStep_due due]
      refine ((blockExpired_raises p s).trans (ih _)).congr fun n => ?_
      exact ⟨fun h => ⟨h.elim id And.left, p, by simp, due⟩, fun h => .inl h.1⟩
    · rw [List.foldl_cons, blockStep_still due]
      exact (ih s).congr (by simp [due])

theorem expireBlocks_raises (s : State) :
    NoticesRaised (fun n => n = .portBlocked ∧ ∃ p, blockDue s p) s (expireBlocks s) :=
  (blockSteps_raise (List.finRange 6) s).congr (by simp)

end Sys2Proof.Machine

/-! ## An idle millisecond as a whole (O3) -/

namespace Sys2Proof.Machine

/-! ### What ages before the grout's timers -/

/-- A running timer that reaches zero in the next millisecond. -/
def Timer.reachesZero (t : Timer) : Prop := t.running = true ∧ t.value = 1

theorem Timer.pass_due_iff (t : Timer) : t.pass.due = true ↔ t.reachesZero := by
  rw [Timer.pass_due, Bool.and_eq_true, beq_iff_eq, Timer.reachesZero]

/-- The millisecond up to the stale and the block timers: a message begun, every timer counted down, the retract timers
and the step timer at zero expired. -/
def aged (s : State) : State := expireStep (expireRetracts (countDown (beginMessage s)))

theorem aged_notices (s : State) : NoticesOnly (countDown (beginMessage s)) (aged s) :=
  (expireRetracts_leaves _).1.trans (expireStep_leaves _).1

theorem aged_leaves (s : State) : aged s = { s with
    clock := s.clock + 1, channels := (aged s).channels, cylinders := (aged s).cylinders, ports := (aged s).ports
    place := { s.place with timer := s.place.timer.pass }, latched := (aged s).latched
    sending := (beginMessage s).sending, outputs := (beginMessage s).outputs } := by
  have only := aged_notices s
  unfold NoticesOnly at only
  have counted : countDown (beginMessage s) = { s with
      clock := s.clock + 1, channels := (countDown (beginMessage s)).channels
      cylinders := (countDown (beginMessage s)).cylinders, ports := (countDown (beginMessage s)).ports
      place := { s.place with timer := s.place.timer.pass }
      sending := (beginMessage s).sending, outputs := (beginMessage s).outputs } := by
    rw [State.eq_iff]
    simp [countDown]
  have records : (aged s).channels = (countDown (beginMessage s)).channels ∧
      (aged s).cylinders = (countDown (beginMessage s)).cylinders ∧
      (aged s).ports = (countDown (beginMessage s)).ports := by
    rw [only]
    simp
  obtain ⟨channels, cylinders, ports⟩ := records
  rw [counted, ← channels, ← cylinders, ← ports] at only
  exact only

theorem aged_records (s : State) :
    (∀ c : Fin 30, (aged s).channels[c] = { s.channels[c] with timer := s.channels[c].timer.pass }) ∧
    (∀ i : Fin 16, (aged s).cylinders[i] = { s.cylinders[i] with timer := s.cylinders[i].timer.pass }) ∧
    ∀ p : Fin 6, (aged s).ports[p] = { s.ports[p] with timer := s.ports[p].timer.pass } := by
  have only := aged_notices s
  unfold NoticesOnly at only
  rw [only]
  simp [countDown]

theorem beginMessage_command (s : State) (i : Fin 16) : command (beginMessage s) i = command s i := by
  rw [command, beginMessage_value, command]

theorem retractLate_countDown (s : State) (i : Fin 16) : retractLate (countDown (beginMessage s)) i ↔
    s.cylinders[i].timer.reachesZero ∧ command s i = .retract ∧ s.params.retractedAt < extension s i := by
  have due : (countDown (beginMessage s)).cylinders[i].timer = s.cylinders[i].timer.pass := by simp [countDown]
  have held : command (countDown (beginMessage s)) i = command s i := beginMessage_command s i
  have reach : extension (countDown (beginMessage s)) i = extension s i := by simp [extension, countDown]
  have params : (countDown (beginMessage s)).params = s.params := by simp [countDown]
  rw [retractLate, due, held, reach, params, Timer.pass_due_iff]

theorem aged_raises (s : State) : NoticesRaised (fun n =>
    (n = .retractLate ∧ ∃ i : Fin 16, s.cylinders[i].timer.reachesZero ∧ command s i = .retract ∧
      s.params.retractedAt < extension s i) ∨ (n = .erectorStepLate ∧ s.place.timer.reachesZero)) s (aged s) := by
  obtain ⟨only, retracts⟩ := expireRetracts_leaves (countDown (beginMessage s))
  have place : (expireRetracts (countDown (beginMessage s))).place.timer = s.place.timer.pass := by
    unfold NoticesOnly at only
    rw [only]
    simp [countDown]
  have quiet : NoticesRaised (fun _ => False) s (countDown (beginMessage s)) :=
    noticesRaised_none (by simp [countDown])
  have step := (expireStep_leaves (expireRetracts (countDown (beginMessage s)))).2
  refine (quiet.trans (retracts.trans step)).congr fun n => ?_
  rw [place, Timer.pass_due_iff, false_or]
  simp only [retractLate_countDown]

theorem aged_due (s : State) (c : Fin 30) : (aged s).channels[c].timer.due = true ↔ s.channels[c].timer.reachesZero := by
  rw [(aged_records s).1 c, Timer.pass_due_iff]

theorem aged_blockDue (s : State) (p : Fin 6) :
    blockDue (aged s) p ↔ s.ports[p].state = .serving ∧ s.ports[p].timer.reachesZero := by
  rw [blockDue, (aged_records s).2.2 p, Timer.pass_due_iff]

theorem aged_one {s : State} (one : OneServing s) : OneServing (aged s) := by
  intro p q hp hq
  rw [(aged_records s).2.2] at hp hq
  exact one p q hp hq

/-! ### Both orders of the stale and the block timers (log 3) -/

/-- The stale and the block timers at zero in `s` have expired, in the one order or the other. -/
def Expired (s t : State) : Prop := t = expireBlocks (expireStales s) ∨ t = expireStales (expireBlocks s)

theorem idle_expired (s : State) : Expired (aged s) (idle s) := by
  unfold Expired idle passMillisecond aged
  dsimp only
  split
  · exact .inl rfl
  · exact .inr rfl

theorem BlocksOnly.fields {s t : State} (h : BlocksOnly s t) : t.channels = s.channels ∧ t.angle = s.angle ∧
    t.mass = s.mass ∧ t.pulse = s.pulse ∧ t.screw = s.screw ∧ t.params = s.params ∧ t.rotation = s.rotation ∧
    t.rings = s.rings ∧ t.cycle = s.cycle := by
  unfold BlocksOnly at h
  rw [h]
  simp

theorem StalesOnly.fields {s t : State} (h : StalesOnly s t) : t.latched = s.latched ∧ t.params = s.params ∧
    t.rotation = s.rotation ∧ t.rings = s.rings ∧ t.cycle = s.cycle := by
  unfold StalesOnly at h
  rw [h]
  simp

section expired

variable {s t : State}

theorem Expired.channel (h : Expired s t) (c : Fin 30) : t.channels[c] =
    { s.channels[c] with fresh := s.channels[c].fresh && !s.channels[c].timer.due } := by
  obtain h | h := h
  · have stales := expireStales_channel c s
    have blocks := (expireBlocks_leaves (expireStales s)).1.fields
    rw [← h] at blocks
    rw [blocks.1, stales]
  · have blocks := (expireBlocks_leaves s).1.fields
    have stales := expireStales_channel c (expireBlocks s)
    rw [← h] at stales
    rw [stales, blocks.1]

theorem Expired.anew (h : Expired s t) :
    t.angle = ⟨s.angle.prev, s.angle.rebase || s.channels[(20 : Fin 30)].timer.due⟩ ∧
    t.mass = ⟨s.mass.prev, s.mass.rebase || s.channels[(22 : Fin 30)].timer.due⟩ ∧
    t.pulse = ⟨s.pulse.prev, s.pulse.rebase || s.channels[(23 : Fin 30)].timer.due⟩ ∧
    t.screw = { s.screw with chamberHeld := s.screw.chamberHeld || s.channels[(21 : Fin 30)].timer.due } := by
  obtain h | h := h
  · have stales := expireStales_anew s
    have blocks := (expireBlocks_leaves (expireStales s)).1.fields
    rw [← h] at blocks
    obtain ⟨-, angle, mass, pulse, screw, -⟩ := blocks
    rw [angle, mass, pulse, screw]
    exact stales
  · have stales := expireStales_anew (expireBlocks s)
    have blocks := (expireBlocks_leaves s).1.fields
    rw [← h] at stales
    generalize expireBlocks s = u at stales blocks
    obtain ⟨channels, angle, mass, pulse, screw, -⟩ := blocks
    rw [← channels, ← angle, ← mass, ← pulse, ← screw]
    exact stales

/-- Nothing changes but the channels, what their owners keep of them, the grout, and the latched notices. -/
def ExpiriesOnly (s t : State) : Prop :=
  t = { s with
    channels := t.channels, angle := t.angle, screw := t.screw, mass := t.mass, pulse := t.pulse, ports := t.ports
    outputs := t.outputs, pointer := t.pointer, latched := t.latched }

theorem ExpiriesOnly.trans {s t u : State} (h : ExpiriesOnly s t) (g : ExpiriesOnly t u) : ExpiriesOnly s u := by
  unfold ExpiriesOnly at h g
  rw [h] at g
  exact g

theorem StalesOnly.expiries (h : StalesOnly s t) : ExpiriesOnly s t := by
  unfold ExpiriesOnly
  rw [h.fields.1]
  exact h

theorem BlocksOnly.expiries (h : BlocksOnly s t) : ExpiriesOnly s t := by
  obtain ⟨channels, angle, mass, pulse, screw, -⟩ := h.fields
  unfold ExpiriesOnly
  rw [channels, angle, mass, pulse, screw]
  exact h

theorem Expired.only (h : Expired s t) : ExpiriesOnly s t := by
  obtain h | h := h
  · rw [h]
    exact (expireStales_only s).expiries.trans (expireBlocks_leaves (expireStales s)).1.expiries
  · rw [h]
    exact (expireBlocks_leaves s).1.expiries.trans (expireStales_only (expireBlocks s)).expiries

theorem Expired.outputs (h : Expired s t) : OutputsKeptBut [23, 24] s t := by
  obtain h | h := h
  · rw [h]
    exact (expireStales_outputs s).trans (expireBlocks_leaves _).2
  · rw [h]
    exact OutputsKeptBut.trans (expireBlocks_leaves s).2 (expireStales_outputs _)

/-! ### The grout -/

/-- A shot ended makes no block timer due. -/
theorem expireStales_blockDue {p : Fin 6} (h : blockDue (expireStales s) p) : blockDue s p := by
  obtain kept | idle := expireStales_port p s
  · rwa [blockDue, kept] at h
  · rw [blockDue, idle] at h
    cases h.1

theorem blockDue_congr (h : grout t = grout s) (p : Fin 6) : blockDue t p ↔ blockDue s p := by
  rw [blockDue, (grout_iff.mp h).1, blockDue]

/-- With no block timer due the stale timers act alone. -/
theorem Expired.stales (h : Expired s t) (none : ∀ p, ¬ blockDue s p) : grout t = grout (expireStales s) := by
  obtain h | h := h
  · rw [h, expireBlocks_still fun p due => none p (expireStales_blockDue due)]
  · rw [h, expireBlocks_still none]

/-- A port blocks: in either order on a grout as it was. -/
theorem Expired.blocks (h : Expired s t) (fresh : s.channels[(23 : Fin 30)].timer.due = false) {p : Fin 6}
    (due : blockDue s p) (one : OneServing s) (loads : 0 < s.params.blockTime) :
    ∃ e, grout e = grout s ∧ GroutAlike s e ∧ grout t = grout (blockExpired p e) := by
  have kept := expireStales_grout_kept fresh
  obtain ⟨ports, -, pointer⟩ := grout_iff.mp kept
  obtain ⟨-, params, rotation, rings, cycle⟩ := (expireStales_only s).fields
  obtain h | h := h
  · rw [h]
    have channel : (expireStales s).channels[(23 : Fin 30)].fresh = s.channels[(23 : Fin 30)].fresh := by
      rw [expireStales_channel, fresh, Bool.not_false, Bool.and_true]
    refine ⟨expireStales s, kept, ⟨ports, pointer, rotation, rings, params, cycle, channel⟩, congrArg grout ?_⟩
    exact expireBlocks_one (by simpa only [OneServing, ports] using one) ((blockDue_congr kept p).mpr due)
      (by rwa [params])
  · rw [h]
    refine ⟨s, rfl, ⟨rfl, rfl, rfl, rfl, rfl, rfl, rfl⟩, ?_⟩
    rw [expireBlocks_one one due loads]
    have channel : (blockExpired p s).channels[(23 : Fin 30)].timer.due = false := by
      rw [(blockExpired_only p s).fields.1]
      exact fresh
    exact expireStales_grout_kept channel

/-- Channel 23 and the block timer of `p` together: the shot ends, with the port IDLE or BLOCKED by the order. -/
theorem Expired.together (h : Expired s t) (stale : s.channels[(23 : Fin 30)].timer.due = true) {p : Fin 6}
    (due : blockDue s p) (one : OneServing s) (loads : 0 < s.params.blockTime) :
    t.outputs[(23 : Fin 25)].value = 255 ∧ t.outputs[(24 : Fin 25)].value = 0 ∧
    (t.ports[p].state = .idle ∨
      (t.ports[p].state = .blocked ∧ t.latched.getLsbD Notice.portBlocked.number = true)) := by
  obtain h | h := h
  · rw [h]
    obtain ⟨-, valve, pump, ports⟩ := expireStales_grout_stale one stale
    have rests (q : Fin 6) : (expireStales s).ports[q].state ≠ .serving := by
      rw [ports]
      split
      · nofun
      · assumption
    rw [expireBlocks_still fun q again => rests q again.1]
    refine ⟨valve, pump, .inl ?_⟩
    rw [ports, if_pos due.1]
  · rw [h]
    rw [expireBlocks_one one due loads]
    have channel : (blockExpired p s).channels[(23 : Fin 30)].timer.due = true := by
      rwa [(blockExpired_only p s).fields.1]
    obtain ⟨q, -, blocked, -⟩ := blockExpired_port one due.1
    obtain ⟨-, valve, pump, ports⟩ := expireStales_grout_stale (blockExpired_one one due.1) channel
    refine ⟨valve, pump, .inr ⟨?_, ?_⟩⟩
    · rw [ports, blocked, if_neg nofun, blocked]
    · rw [(expireStales_only _).fields.1]
      exact (blockExpired_raises p s .portBlocked).mpr (.inr rfl)

theorem Expired.raises (h : Expired s t)
    (apart : s.channels[(23 : Fin 30)].timer.due = false ∨ ∀ p, ¬ blockDue s p) :
    NoticesRaised (fun n => n = .portBlocked ∧ ∃ p, blockDue s p) s t := by
  have quiet (u : State) : NoticesRaised (fun _ => False) u (expireStales u) :=
    noticesRaised_none (expireStales_only u).fields.1
  obtain h | h := h
  · rw [h]
    have same (p : Fin 6) : blockDue (expireStales s) p ↔ blockDue s p := by
      obtain fresh | none := apart
      · exact blockDue_congr (expireStales_grout_kept fresh) p
      · exact iff_of_false (fun due => none p (expireStales_blockDue due)) (none p)
    refine ((quiet s).trans (expireBlocks_raises _)).congr fun n => ?_
    simp only [same, false_or]
  · rw [h]
    exact ((expireBlocks_raises s).trans (quiet _)).congr (by simp)

end expired

end Sys2Proof.Machine

/-! ## An idle millisecond against the state before it (O3) -/

namespace Sys2Proof.Machine

theorem aged_fields (s : State) : (aged s).angle = s.angle ∧ (aged s).mass = s.mass ∧ (aged s).pulse = s.pulse ∧
    (aged s).screw = s.screw ∧ (aged s).params = s.params ∧ (aged s).pointer = s.pointer ∧
    (aged s).rotation = s.rotation ∧ (aged s).rings = s.rings ∧ (aged s).cycle = s.cycle ∧
    (aged s).outputs = (beginMessage s).outputs := by
  rw [aged_leaves s]
  simp

section idle

variable {s t : State}

/-- The expiries after the ageing, field by field. -/
theorem ExpiriesOnly.after_ageing {a : State} {clock : Nat} {place : Placement} {sending : Option Message}
    {outputs : Vector Output 25} (h : ExpiriesOnly a t) (aged : a = { s with
      clock := clock, channels := a.channels, cylinders := a.cylinders, ports := a.ports, place := place
      latched := a.latched, sending := sending, outputs := outputs }) :
    t.clock = clock ∧ t.cylinders = a.cylinders ∧ t.place = place ∧ t.sending = sending ∧ t = { s with
      clock := t.clock, channels := t.channels, cylinders := t.cylinders, place := t.place, ports := t.ports
      outputs := t.outputs, sending := t.sending, latched := t.latched, pointer := t.pointer, angle := t.angle
      mass := t.mass, pulse := t.pulse, screw := t.screw } := by
  unfold ExpiriesOnly at h
  rw [aged] at h
  have kept : t.clock = clock ∧ t.cylinders = a.cylinders ∧ t.place = place ∧ t.sending = sending := by
    rw [h]
    exact ⟨rfl, rfl, rfl, rfl⟩
  obtain ⟨rfl, cylinders, rfl, rfl⟩ := kept
  rw [← cylinders] at h
  exact ⟨rfl, cylinders, rfl, rfl, h⟩

theorem expired_leaves (h : Expired (aged s) t) : t.clock = s.clock + 1 ∧ t.cylinders = (aged s).cylinders ∧
    t.place = { s.place with timer := s.place.timer.pass } ∧ t.sending = (beginMessage s).sending ∧ t = { s with
      clock := t.clock, channels := t.channels, cylinders := t.cylinders, place := t.place, ports := t.ports
      outputs := t.outputs, sending := t.sending, latched := t.latched, pointer := t.pointer, angle := t.angle
      mass := t.mass, pulse := t.pulse, screw := t.screw } :=
  h.only.after_ageing (aged_leaves s)

theorem expired_channel (h : Expired (aged s) t) (c : Fin 30) : t.channels[c] = { s.channels[c] with
    timer := s.channels[c].timer.pass
    fresh := s.channels[c].fresh && !(s.channels[c].timer.running && s.channels[c].timer.value == 1) } := by
  rw [h.channel c, (aged_records s).1 c, Timer.pass_due]

/-! ### The transmitter and the outputs no timer writes -/

theorem expired_outputs (h : Expired (aged s) t) : OutputsKeptBut [23, 24] (beginMessage s) t := by
  intro o ho
  obtain ⟨-, -, -, -, -, -, -, -, -, outputs⟩ := aged_fields s
  rw [h.outputs o ho, outputs]

theorem expired_message (h : Expired (aged s) t) {o : Fin 25} (free : s.sending = none)
    (marked : s.outputs[o].mark = true) (lower : ∀ o' : Fin 25, o'.val < o.val → s.outputs[o'].mark = false) :
    t.sending = some ⟨o, s.outputs[o].value⟩ ∧ OutputsKeptBut [o.val, 23, 24] s t ∧
      (o.val < 23 → t.outputs[o] = ⟨s.outputs[o].value, false⟩) := by
  obtain ⟨-, -, -, sending, -⟩ := expired_leaves h
  have kept := expired_outputs h
  have begun := beginMessage_free free marked lower
  rw [begun] at sending
  refine ⟨sending, fun o' ho' => ?_, fun low => ?_⟩
  · have apart : o.val ≠ o'.val := fun e => ho' (by simp [e])
    rw [kept o' fun grout => ho' (List.mem_cons_of_mem _ grout), begun]
    simp [Vector.getElem_set_ne _ _ apart]
  · rw [kept o (by simp only [List.mem_cons, List.not_mem_nil, or_false]; omega), begun]
    simp

theorem expired_quiet (h : Expired (aged s) t) (quiet : s.sending ≠ none ∨ ∀ o : Fin 25, s.outputs[o].mark = false) :
    t.sending = s.sending ∧ OutputsKeptBut [23, 24] s t := by
  obtain ⟨-, -, -, sending, -⟩ := expired_leaves h
  have kept := expired_outputs h
  rw [beginMessage_none quiet] at sending kept
  exact ⟨sending, kept⟩

/-! ### What the owners of the channels keep -/

theorem expired_anew (h : Expired (aged s) t) :
    (t.angle.prev = s.angle.prev ∧
      (t.angle.rebase = true ↔ s.angle.rebase = true ∨ s.channels[(20 : Fin 30)].timer.reachesZero)) ∧
    (t.mass.prev = s.mass.prev ∧
      (t.mass.rebase = true ↔ s.mass.rebase = true ∨ s.channels[(22 : Fin 30)].timer.reachesZero)) ∧
    (t.pulse.prev = s.pulse.prev ∧
      (t.pulse.rebase = true ↔ s.pulse.rebase = true ∨ s.channels[(23 : Fin 30)].timer.reachesZero)) ∧
    t.screw = { s.screw with chamberHeld := t.screw.chamberHeld } ∧
    (t.screw.chamberHeld = true ↔
      s.screw.chamberHeld = true ∨ s.channels[(21 : Fin 30)].timer.reachesZero) := by
  obtain ⟨angle, mass, pulse, screw⟩ := h.anew
  obtain ⟨angle', mass', pulse', screw', -⟩ := aged_fields s
  rw [angle, mass, pulse, screw, angle', mass', pulse', screw']
  simp only [Bool.or_eq_true, aged_due, and_self]

theorem expired_raises (h : Expired (aged s) t) (apart : ¬ s.channels[(23 : Fin 30)].timer.reachesZero ∨
      ∀ p : Fin 6, ¬ (s.ports[p].state = .serving ∧ s.ports[p].timer.reachesZero)) :
    NoticesRaised (fun n =>
      (n = .retractLate ∧ ∃ i : Fin 16, s.cylinders[i].timer.reachesZero ∧ command s i = .retract ∧
        s.params.retractedAt < extension s i) ∨
      (n = .erectorStepLate ∧ s.place.timer.reachesZero) ∨
      (n = .portBlocked ∧ ∃ p : Fin 6, s.ports[p].state = .serving ∧ s.ports[p].timer.reachesZero)) s t := by
  simp only [← aged_due, ← aged_blockDue, Bool.not_eq_true] at apart
  refine ((aged_raises s).trans (h.raises apart)).congr fun n => ?_
  simp only [aged_blockDue, or_assoc]

/-! ### The grout -/

theorem aged_grout_values (o : Fin 25) : (aged s).outputs[o].value = s.outputs[o].value := by
  obtain ⟨-, -, -, -, -, -, -, -, -, outputs⟩ := aged_fields s
  rw [outputs, beginMessage_value]

theorem expired_still (h : Expired (aged s) t) (fresh : ¬ s.channels[(23 : Fin 30)].timer.reachesZero)
    (none : ∀ p : Fin 6, ¬ (s.ports[p].state = .serving ∧ s.ports[p].timer.reachesZero)) : t.pointer = s.pointer ∧
      t.outputs[(23 : Fin 25)].value = s.outputs[(23 : Fin 25)].value ∧
      t.outputs[(24 : Fin 25)].value = s.outputs[(24 : Fin 25)].value ∧
      ∀ p : Fin 6, t.ports[p] = { s.ports[p] with timer := s.ports[p].timer.pass } := by
  simp only [← aged_due, ← aged_blockDue, Bool.not_eq_true] at fresh none
  obtain ⟨ports, outputs, pointer⟩ := grout_iff.mp ((h.stales none).trans (expireStales_grout_kept fresh))
  obtain ⟨-, -, -, -, -, pointer', -⟩ := aged_fields s
  rw [ports, outputs, pointer, pointer', aged_grout_values, aged_grout_values]
  exact ⟨rfl, rfl, rfl, (aged_records s).2.2⟩

theorem expired_blocks (h : Expired (aged s) t) {p : Fin 6} (fresh : ¬ s.channels[(23 : Fin 30)].timer.reachesZero)
    (due : s.ports[p].state = .serving ∧ s.ports[p].timer.reachesZero) (one : OneServing s)
    (loads : 0 < s.params.blockTime) : ∃ u w : State, w = groutSettle u ∧ u = { s with ports := u.ports } ∧
      (∀ q : Fin 6, u.ports[q] = if q = p then { s.ports[p] with state := .blocked, timer := ⟨0, true⟩ }
        else { s.ports[q] with timer := s.ports[q].timer.pass }) ∧
      t.ports = w.ports ∧ t.pointer = w.pointer ∧
      t.outputs[(23 : Fin 25)].value = w.outputs[(23 : Fin 25)].value ∧
      t.outputs[(24 : Fin 25)].value = w.outputs[(24 : Fin 25)].value := by
  simp only [← aged_due, Bool.not_eq_true] at fresh
  rw [← aged_blockDue] at due
  obtain ⟨-, -, -, -, params, pointer, rotation, rings, cycle, -⟩ := aged_fields s
  obtain ⟨e, same, ⟨-, pointer', rotation', rings', params', cycle', fresh'⟩, settled⟩ :=
    h.blocks fresh due (aged_one one) (by rwa [params])
  obtain ⟨ports, -⟩ := grout_iff.mp same
  obtain ⟨ports', outputs', searched⟩ := grout_iff.mp settled
  have channel : (aged s).channels[(23 : Fin 30)].fresh = s.channels[(23 : Fin 30)].fresh := by
    rw [(aged_records s).1]
  have alike : GroutAlike { s with ports := (wentBlocked p e).ports } (wentBlocked p e) :=
    ⟨rfl, pointer'.trans pointer, rotation'.trans rotation, rings'.trans rings, params'.trans params,
      cycle'.trans cycle, fresh'.trans channel⟩
  obtain ⟨servings, pointers, ⟨v, valve, valve'⟩, w, pump, pump'⟩ := groutSettle_alike alike
  refine ⟨{ s with ports := (wentBlocked p e).ports }, _, rfl, rfl, fun q => ?_, ?_, ?_, ?_, ?_⟩
  · show (wentBlocked p e).ports[q] = _
    rw [wentBlocked_get, ports, Timer.atZero_due due.2, Timer.eq_of_due due.2, (aged_records s).2.2,
      (aged_records s).2.2]
  · rw [ports', blockExpired_settles, servings]
  · rw [searched, blockExpired_settles, pointers]
  · rw [outputs', blockExpired_settles, valve, valve', Output.write_value, Output.write_value]
  · rw [outputs', blockExpired_settles, pump, pump', Output.write_value, Output.write_value]

theorem expired_stale (h : Expired (aged s) t) (stale : s.channels[(23 : Fin 30)].timer.reachesZero)
    (none : ∀ p : Fin 6, ¬ (s.ports[p].state = .serving ∧ s.ports[p].timer.reachesZero)) (one : OneServing s) :
    t.pointer = s.pointer ∧ t.outputs[(23 : Fin 25)].value = 255 ∧ t.outputs[(24 : Fin 25)].value = 0 ∧
      ∀ p : Fin 6, t.ports[p] = if s.ports[p].state = .serving then
        { s.ports[p] with state := .idle, timer := { s.ports[p].timer.pass with running := false } }
      else { s.ports[p] with timer := s.ports[p].timer.pass } := by
  simp only [← aged_blockDue] at none
  rw [← aged_due] at stale
  obtain ⟨ports, outputs, pointer⟩ := grout_iff.mp (h.stales none)
  obtain ⟨kept, valve, pump, shots⟩ := expireStales_grout_stale (aged_one one) stale
  obtain ⟨-, -, -, -, -, pointer', -⟩ := aged_fields s
  rw [ports, outputs, pointer]
  refine ⟨kept.trans pointer', valve, pump, fun p => ?_⟩
  rw [shots p, (aged_records s).2.2]
  rfl

theorem expired_together (h : Expired (aged s) t) {p : Fin 6} (stale : s.channels[(23 : Fin 30)].timer.reachesZero)
    (due : s.ports[p].state = .serving ∧ s.ports[p].timer.reachesZero) (one : OneServing s)
    (loads : 0 < s.params.blockTime) :
    t.outputs[(23 : Fin 25)].value = 255 ∧ t.outputs[(24 : Fin 25)].value = 0 ∧
      (t.ports[p].state = .idle ∨
        (t.ports[p].state = .blocked ∧ t.latched.getLsbD Notice.portBlocked.number = true)) := by
  rw [← aged_due] at stale
  rw [← aged_blockDue] at due
  obtain ⟨-, -, -, -, params, -⟩ := aged_fields s
  exact h.together stale due (aged_one one) (by rwa [params])

end idle

/-- Settles O3, in both orders in which timers that reach zero together may expire. -/
theorem idleMillisecondAgesTimers : Obligations.IdleMillisecondAgesTimers := by
  intro s empty
  have h := idle_expired s
  obtain ⟨clock, cylinders, place, -, leaves⟩ := expired_leaves h
  obtain ⟨⟨angle, angle'⟩, ⟨mass, mass'⟩, ⟨pulse, pulse'⟩, screw, screw'⟩ := expired_anew h
  exact ⟨idle s, step_of_empty empty, clock, expired_channel h, fun i => by rw [cylinders, (aged_records s).2.1], place,
    leaves, fun _ => expired_message h, expired_quiet h, angle, angle', mass, mass', pulse, pulse', screw, screw',
    expired_raises h, expired_still h, fun _ => expired_blocks h, expired_stale h, fun _ => expired_together h⟩

end Sys2Proof.Machine

/-! ## The ledger: what the summary, the permit and the register rest on

The laws on the Tool Table's summary and the permit (R37, R38, R58, R59) and on the ring register (R106, R107) speak of
a few fields alone. Most of what the part does leaves them as they are. -/

namespace Sys2Proof.Machine

/-- The value of the permit's word (R35). -/
def permitWord (outputs : Vector Output 25) : Nat := outputs[(0 : Fin 25)].value

/-- The number of each record, and whether it is BUILDING. -/
def ringRoll (rings : List Ring) : List (Nat × Bool) := rings.map fun r => (r.number, r.state == .building)

/-- The fields the laws of the table, the permit and the register speak of. -/
def ledger (s : State) : (Vector Tool 64 × Nat × Nat × Bool × Bool) × (Bool × Bool × Bool × Bool) ×
    (Cycle × Vector Input 12 × Nat) × AccountState × List (Nat × Bool) :=
  ((s.tools, s.blocking, s.positions, s.gaugeWorn, s.configured),
    (s.params.faceArea.isSome, s.params.voidArea.isSome, s.params.ringWidth.isSome, s.params.tailLength.isSome),
    (s.cycle, s.inputs, permitWord s.outputs), s.stroke.state, ringRoll s.rings)

section words

variable {s : State}

/-! ### The permit's word -/

@[simp] theorem permitWord_writeOutput {i : Fin 25} (h : i ≠ 0) (v : Nat) (s : State) :
    permitWord (writeOutput i v s).outputs = permitWord s.outputs :=
  congrArg Output.value (writeOutput_other h.symm v s)

@[simp] theorem permitWord_writeErector (c : ErectorCommand) (s : State) :
    permitWord (writeErector c s).outputs = permitWord s.outputs := permitWord_writeOutput (by decide) _ s

@[simp] theorem permitWord_writeScrew (v : Nat) (s : State) :
    permitWord (writeScrew v s).outputs = permitWord s.outputs := permitWord_writeOutput (by decide) _ s

@[simp] theorem permitWord_deriveSetpoints (s : State) :
    permitWord (deriveSetpoints s).outputs = permitWord s.outputs :=
  congrArg Output.value (deriveSetpoints_other (by decide) s)

@[simp] theorem permitWord_commandWhere (chosen : Fin 16 → Bool) (c : Command) (owner : Option Owner) (s : State) :
    permitWord (commandWhere chosen c owner s).outputs = permitWord s.outputs :=
  congrArg Output.value (commandWhere_other chosen c owner (by decide) s)

@[simp] theorem permitWord_lockAll (s : State) : permitWord (lockAll s).outputs = permitWord s.outputs :=
  permitWord_commandWhere _ _ _ s

@[simp] theorem permitWord_extendAll (s : State) : permitWord (extendAll s).outputs = permitWord s.outputs :=
  permitWord_commandWhere _ _ _ s

@[simp] theorem permitWord_extendSpan (r : Ring) (slot : Slot) (s : State) :
    permitWord (extendSpan r slot s).outputs = permitWord s.outputs := permitWord_commandWhere _ _ _ s

@[simp] theorem permitWord_retractSpan (r : Ring) (slot : Slot) (s : State) :
    permitWord (retractSpan r slot s).outputs = permitWord s.outputs := permitWord_commandWhere _ _ _ s

@[simp] theorem permitWord_groutSettle (s : State) : permitWord (groutSettle s).outputs = permitWord s.outputs :=
  congrArg Output.value (groutSettle_other (by decide) (by decide) s)

@[simp] theorem permitWord_screwFollow (was : Bool) (s : State) :
    permitWord (screwFollow was s).outputs = permitWord s.outputs := by
  unfold screwFollow startScrew
  repeat' split
  all_goals simp

@[simp] theorem permitWord_screwRange (s : State) : permitWord (screwRange s).outputs = permitWord s.outputs := by
  unfold screwRange
  split <;> simp

@[simp] theorem permitWord_balanceTaken (before : Bool) (s : State) :
    permitWord (balanceTaken before s).outputs = permitWord s.outputs := by
  unfold balanceTaken
  split <;> simp

@[simp] theorem permitWord_haltPlacement (st : Step) (s : State) :
    permitWord (haltPlacement st s).outputs = permitWord s.outputs := by
  unfold haltPlacement
  split <;> simp

@[simp] theorem permitWord_placementOnTrip (s : State) :
    permitWord (placementOnTrip s).outputs = permitWord s.outputs := by
  unfold placementOnTrip
  split <;> simp

@[simp] theorem permitWord_evalGaugeWorn (s : State) :
    permitWord (evalGaugeWorn s).outputs = permitWord s.outputs := by
  unfold evalGaugeWorn
  dsimp only
  split <;> simp

@[simp] theorem permitWord_advanceRings (delta : Nat) (s : State) :
    permitWord (advanceRings delta s).outputs = permitWord s.outputs := by
  simp [advanceRings]

@[simp] theorem permitWord_matchSegment (kind : SegmentKind) (type : RingType) (s : State) :
    permitWord (matchSegment kind type s).outputs = permitWord s.outputs := by
  unfold matchSegment
  split <;> simp

@[simp] theorem permitWord_retryMatch (s : State) : permitWord (retryMatch s).outputs = permitWord s.outputs := by
  unfold retryMatch
  repeat' split
  all_goals simp

@[simp] theorem permitWord_pickStep (r : Ring) (slot : Slot) (s : State) :
    permitWord (pickStep r slot s).outputs = permitWord s.outputs := by
  simp [pickStep]

@[simp] theorem permitWord_enterPositioning (r : Ring) (slot : Slot) (s : State) :
    permitWord (enterPositioning r slot s).outputs = permitWord s.outputs := by
  simp [enterPositioning]

@[simp] theorem permitWord_clearingLook (s : State) :
    permitWord (clearingLook s).outputs = permitWord s.outputs := by
  unfold clearingLook
  repeat' split
  all_goals simp

@[simp] theorem permitWord_enterClearing (r : Ring) (slot : Slot) (s : State) :
    permitWord (enterClearing r slot s).outputs = permitWord s.outputs := by
  simp [enterClearing]

@[simp] theorem permitWord_enterSeating (r : Ring) (slot : Slot) (s : State) :
    permitWord (enterSeating r slot s).outputs = permitWord s.outputs := by
  simp [enterSeating]

@[simp] theorem permitWord_placeIdle (s : State) : permitWord (placeIdle s).outputs = permitWord s.outputs := by
  simp [placeIdle]

@[simp] theorem permitWord_cylindersRetaken (before s : State) :
    permitWord (cylindersRetaken before s).outputs = permitWord s.outputs := by
  unfold cylindersRetaken
  dsimp only
  split <;> simp

/-! ### The roll of the register -/

/-- A change of one record that keeps what `g` says of it keeps it of the whole list. -/
theorem map_modifyFirst {α β : Type} {g : α → β} {f : α → α} (keeps : ∀ a, g (f a) = g a) (p : α → Bool)
    (l : List α) : (modifyFirst p f l).map g = l.map g := by
  induction l with
  | nil => rfl
  | cons a l ih =>
    unfold modifyFirst
    split
    · rw [List.map_cons, List.map_cons, keeps]
    · rw [List.map_cons, List.map_cons, ih]

/-- A judgment makes no record BUILDING and takes none from it. -/
theorem roll_judged (width : Nat) (r : Ring) :
    ((r.judged width).number, (r.judged width).state == .building) = (r.number, r.state == .building) := by
  unfold Ring.judged
  split
  · next met => simp [met.1]
  · rfl

theorem roll_advanced (tail width delta : Nat) (r : Ring) :
    ((r.advanced tail width delta).number, (r.advanced tail width delta).state == .building) =
      (r.number, r.state == .building) := by
  unfold Ring.advanced
  split
  · next taking =>
    dsimp only
    rw [roll_judged]
    split
    · next grouts => simp [grouts.1]
    · rfl
  · rfl

@[simp] theorem ringRoll_advanceRings (delta : Nat) (s : State) :
    ringRoll (advanceRings delta s).rings = ringRoll s.rings := by
  simp [advanceRings, ringRoll, roll_advanced]

@[simp] theorem ringRoll_accountIncrement (delta mean : Nat) (s : State) :
    ringRoll (accountIncrement delta mean s).rings = ringRoll s.rings := by
  simp [accountIncrement]

@[simp] theorem ringRoll_creditVolume (volume : Nat) (s : State) :
    ringRoll (creditVolume volume s).rings = ringRoll s.rings := by
  unfold creditVolume
  split
  · simp only [raiseGrouted_frame]
    exact map_modifyFirst (fun r => roll_judged _ _) _ _
  · rfl

/-- A change of slots alone keeps the roll. -/
theorem ringRoll_updateBuilding {f : Ring → Ring} (keeps : ∀ r, ((f r).number, (f r).state) = (r.number, r.state))
    (s : State) : ringRoll (updateBuilding f s).rings = ringRoll s.rings := by
  refine map_modifyFirst (fun r => ?_) _ _
  obtain ⟨number, state⟩ := Prod.mk.inj (keeps r)
  rw [number, state]

@[simp] theorem ringRoll_loadSlot (slot : Slot) (id : Nat) (s : State) :
    ringRoll (loadSlot slot id s).rings = ringRoll s.rings :=
  ringRoll_updateBuilding (fun r => by split <;> rfl) s

@[simp] theorem ringRoll_placeSlot (slot : Slot) (s : State) :
    ringRoll (placeSlot slot s).rings = ringRoll s.rings :=
  ringRoll_updateBuilding (fun r => by split <;> rfl) s

@[simp] theorem ringRoll_returnSlot (slot : Slot) (s : State) :
    ringRoll (returnSlot slot s).rings = ringRoll s.rings :=
  ringRoll_updateBuilding (fun r => by split <;> rfl) s

end words

/-! ### What keeps the ledger: the events -/

theorem ledger_segGripped (s : State) : ledger (segGripped s) = ledger s := by
  unfold segGripped
  dsimp only
  repeat' split
  all_goals simp [ledger]

theorem ledger_atSlot (s : State) : ledger (atSlot s) = ledger s := by
  unfold atSlot
  repeat' split
  all_goals simp [ledger]

theorem ledger_afterSlot (s : State) : ledger (afterSlot s) = ledger s := by
  unfold afterSlot
  repeat' split
  all_goals simp [ledger]

theorem ledger_cylindersRetaken (before s : State) : ledger (cylindersRetaken before s) = ledger s := by
  unfold cylindersRetaken
  dsimp only
  split <;> simp [ledger]

theorem ledger_measure (mean : Nat) (s : State) : ledger (measure mean s) = ledger s := by
  unfold measure
  repeat' split
  · rfl
  · simp [ledger, accountIncrement]
  · rfl

theorem ledger_massSample (c : Nat) (s : State) : ledger (massSample c s) = ledger s := by
  unfold massSample
  dsimp only
  repeat' split
  all_goals simp [ledger]

theorem ledger_chamberSample (pressure : Nat) (s : State) : ledger (chamberSample pressure s) = ledger s := by
  unfold chamberSample
  dsimp only
  split <;> simp [ledger]

theorem ledger_portPressureSample (p : Fin 6) (value : Nat) (s : State) :
    ledger (portPressureSample p value s) = ledger s := by
  unfold portPressureSample
  dsimp only
  repeat' split
  all_goals simp [ledger]

theorem ledger_pulseSample (c : Nat) (first : Bool) (s : State) : ledger (pulseSample c first s) = ledger s := by
  unfold pulseSample
  dsimp only
  repeat' split
  all_goals simp [ledger]

theorem ledger_staleExpired (c : Fin 30) (s : State) : ledger (staleExpired c s) = ledger s := by
  unfold staleExpired tellStale
  dsimp only
  repeat' split
  all_goals simp [ledger]

theorem ledger_blockExpired (p : Fin 6) (s : State) : ledger (blockExpired p s) = ledger s := by
  simp [blockExpired, ledger]

theorem ledger_retractExpired (i : Fin 16) (s : State) : ledger (retractExpired i s) = ledger s := by
  simp [ledger]

theorem ledger_stepExpired (s : State) : ledger (stepExpired s) = ledger s := by
  simp [ledger]

theorem ledger_beginMessage (s : State) : ledger (beginMessage s) = ledger s := by
  simp only [ledger, beginMessage_frame, permitWord, beginMessage_value]

theorem ledger_idle (s : State) : ledger (idle s) = ledger s := by
  obtain ⟨-, -, -, -, leaves⟩ := expired_leaves (idle_expired s)
  have permit : permitWord (idle s).outputs = permitWord (beginMessage s).outputs :=
    congrArg Output.value (expired_outputs (idle_expired s) 0 (by decide))
  have begun : permitWord (beginMessage s).outputs = permitWord s.outputs := beginMessage_value s 0
  rw [begun] at permit
  simp only [ledger, permit]
  rw [leaves]

theorem ledger_addHeadCounts (n : Nat) (s : State) : ledger (addHeadCounts n s) = ledger s := by
  unfold addHeadCounts
  split <;> simp [ledger]

/-- What of a sample's delivery can change the ledger keeps `P`. -/
structure SampleSteps (P : State → Prop) : Prop where
  congr : ∀ {s t : State}, ledger t = ledger s → P s → P t
  ended : ∀ {s : State} (cause : EndCause), P s → P (endStrokeWith cause s)
  tripped : ∀ {s : State} (cause : TripCause), P s → P (trip cause s)
  accrued : ∀ {s : State} (n : Nat) (i : Fin 64), P s → P (accrueRecord n s i)

section samples

variable {P : State → Prop} {s : State}

theorem SampleSteps.extensionSample (h : SampleSteps P) (i : Fin 16) (value : Nat) (before : State) (hs : P s) :
    P (extensionSample i value before s) := by
  have retaken : P (cylindersRetaken before s) := h.congr (ledger_cylindersRetaken before s) hs
  have measured (t : State) (ht : P t) : P (if referencesFresh t then measure (referenceMean t) t else t) := by
    split
    · exact h.congr (ledger_measure _ t) ht
    · exact ht
  unfold Machine.extensionSample
  dsimp only
  split
  · generalize cylindersRetaken before s = t at retaken ⊢
    have done := measured t retaken
    generalize (if referencesFresh t then measure (referenceMean t) t else t) = u at done ⊢
    split
    · exact h.ended _ done
    · exact done
  · exact retaken

theorem SampleSteps.judgeBreach (h : SampleSteps P) (n : Nat) (hs : P s) : P (judgeBreach n s) := by
  unfold Machine.judgeBreach
  split
  · exact h.tripped _ (h.congr (by simp [ledger]) hs)
  · exact hs

theorem SampleSteps.angleSample (h : SampleSteps P) (c : Nat) (hs : P s) : P (angleSample c s) := by
  have turned : P { s with angle := ⟨c, false⟩ } := h.congr (by simp only [ledger]) hs
  unfold Machine.angleSample
  dsimp only
  generalize { s with angle := ⟨c, false⟩ } = t at turned ⊢
  repeat' split
  · exact h.congr (by simp [ledger]) turned
  · exact turned
  · exact h.congr (ledger_addHeadCounts _ _)
      (accrueAll_induct _ (fun _ i hu => h.accrued _ i hu) _ (h.judgeBreach _ turned))

theorem SampleSteps.arrive (h : SampleSteps P) (c : Fin 30) (v : Nat) (hs : P s) : P (arrive c v s) := by
  have taken : P (takeSample c v s) := h.congr (by simp [ledger]) hs
  unfold Machine.arrive deliver
  repeat' split
  · exact h.extensionSample _ _ _ taken
  · unfold groupPressureSample
    split
    · exact h.tripped _ taken
    · exact taken
  · exact h.angleSample _ taken
  · exact h.congr (ledger_chamberSample _ _) taken
  · exact h.congr (ledger_massSample _ _) taken
  · exact h.congr (ledger_pulseSample _ _ _) taken
  · exact h.congr (ledger_portPressureSample _ _ _) taken

end samples

/-! ### What keeps the ledger: the owners -/

/-- However its request turns out, the owner keeps the ledger. -/
def Handler.KeepsLedger (f : Handler) : Prop := ∀ (args : List Byte) (s : State), ledger (f args s).state = ledger s

@[simp] theorem keepsLedger_refuse (st : Status) : Handler.KeepsLedger fun _ s => refuse st s := fun _ _ => rfl

theorem keepsLedger_inStates {ok : Cycle → Bool} {f : Handler} (h : f.KeepsLedger) : (inStates ok f).KeepsLedger := by
  intro args s
  unfold inStates
  split
  · exact h args s
  · rfl

theorem keepsLedger_ifConfigured {f : Handler} (h : f.KeepsLedger) : (ifConfigured f).KeepsLedger := by
  intro args s
  unfold ifConfigured
  split
  · rfl
  · exact h args s

@[simp] theorem keepsLedger_noRequest : noRequest.KeepsLedger := fun _ _ => rfl

@[simp] theorem keepsLedger_readStatus : readStatus.KeepsLedger := fun _ _ => rfl

@[simp] theorem keepsLedger_readNotices : readNotices.KeepsLedger := fun _ _ => rfl

@[simp] theorem keepsLedger_clearNotices : clearNotices.KeepsLedger := fun _ _ => rfl

@[simp] theorem keepsLedger_setNoticeEnable : setNoticeEnable.KeepsLedger := fun _ _ => rfl

@[simp] theorem keepsLedger_readErrorCapture : readErrorCapture.KeepsLedger := fun _ _ => rfl

@[simp] theorem keepsLedger_readInputs : readInputs.KeepsLedger := fun _ _ => rfl

@[simp] theorem keepsLedger_readStroke : readStroke.KeepsLedger := fun _ _ => rfl

@[simp] theorem keepsLedger_readBalance : readBalance.KeepsLedger := fun _ _ => rfl

@[simp] theorem keepsLedger_getParam : getParam.KeepsLedger := by
  intro args s
  unfold getParam
  dsimp only
  split <;> rfl

@[simp] theorem keepsLedger_readChannel : readChannel.KeepsLedger := by
  intro args s
  unfold readChannel
  split <;> rfl

@[simp] theorem keepsLedger_readCylinder : readCylinder.KeepsLedger := by
  intro args s
  unfold readCylinder
  split <;> rfl

@[simp] theorem keepsLedger_setLoadPointer : setLoadPointer.KeepsLedger := by
  refine keepsLedger_inStates fun args s => ?_
  split <;> rfl

@[simp] theorem keepsLedger_setThrust : setThrust.KeepsLedger := by
  refine keepsLedger_ifConfigured fun args s => ?_
  simp [doneOrClamped, ledger]

@[simp] theorem keepsLedger_readRing : readRing.KeepsLedger := by
  intro args s
  unfold readRing
  dsimp only
  repeat' split
  all_goals rfl

@[simp] theorem keepsLedger_segmentEnqueue : segmentEnqueue.KeepsLedger := by
  refine keepsLedger_ifConfigured fun args s => ?_
  dsimp only
  repeat' split
  all_goals simp [doneWith, refuse, ledger]

@[simp] theorem keepsLedger_segmentWithdraw : segmentWithdraw.KeepsLedger := by
  refine keepsLedger_ifConfigured fun args s => ?_
  dsimp only
  repeat' split
  all_goals rfl

@[simp] theorem keepsLedger_readFeed : readFeed.KeepsLedger := keepsLedger_ifConfigured fun _ _ => rfl

@[simp] theorem keepsLedger_placeStart (start : Placement → Placement) : (placeStart start).KeepsLedger := by
  refine keepsLedger_inStates fun args s => ?_
  repeat' split
  all_goals simp [refuse, ledger]

@[simp] theorem keepsLedger_erectorHold : erectorHold.KeepsLedger := keepsLedger_inStates fun _ _ => rfl

@[simp] theorem keepsLedger_erectorAbort : erectorAbort.KeepsLedger := by
  refine keepsLedger_inStates fun args s => ?_
  split <;> simp [refuse, ledger]

theorem ledger_resumeClearing (r : Ring) (slot : Slot) (s : State) :
    ledger (resumeClearing r slot s).state = ledger s := by
  unfold resumeClearing
  split <;> simp [refuse, clearInterrupted, ledger]

theorem ledger_resumeHeld (st : Step) (r : Ring) (slot : Slot) (s : State) :
    ledger (resumeHeld st r slot s).state = ledger s := by
  cases st with
  | awaitSegment => rfl
  | picking => rfl
  | clearing => exact ledger_resumeClearing r slot s
  | positioning =>
    simp only [resumeHeld]
    split
    · simp [clearInterrupted, ledger]
    · exact ledger_resumeClearing r slot s
  | seating => simp [resumeHeld, clearInterrupted, ledger]

@[simp] theorem keepsLedger_erectorResume : erectorResume.KeepsLedger := by
  refine keepsLedger_inStates fun args s => ?_
  repeat' split
  · rfl
  · simp [clearInterrupted, ledger]
  · rfl
  · exact ledger_resumeHeld _ _ _ s
  · rfl
  · rfl

@[simp] theorem keepsLedger_erectorReturn : erectorReturn.KeepsLedger := by
  refine keepsLedger_inStates fun args s => ?_
  repeat' split
  all_goals simp [refuse, doneWith, placeReturned, returnSegment, ledger]

@[simp] theorem keepsLedger_setRotation : setRotation.KeepsLedger := by
  refine keepsLedger_ifConfigured fun args s => ?_
  dsimp only
  repeat' split
  all_goals simp [refuse, doneWith, ledger]

@[simp] theorem keepsLedger_setPortRequest : setPortRequest.KeepsLedger := by
  refine keepsLedger_ifConfigured fun args s => ?_
  dsimp only
  split <;> rfl

@[simp] theorem keepsLedger_movePort (acts : PortState → Bool) (st : PortState) : (movePort acts st).KeepsLedger := by
  refine keepsLedger_ifConfigured fun args s => ?_
  repeat' split
  all_goals simp [refuse, doneWith, ledger]

@[simp] theorem keepsLedger_groutRate : groutRate.KeepsLedger := by
  refine keepsLedger_ifConfigured fun args s => ?_
  simp [doneOrClamped, storeGroutRate, ledger]

@[simp] theorem keepsLedger_readPort : readPort.KeepsLedger := by
  refine keepsLedger_ifConfigured fun args s => ?_
  split <;> rfl

@[simp] theorem keepsLedger_readGrout : readGrout.KeepsLedger := keepsLedger_ifConfigured fun _ _ => rfl

@[simp] theorem keepsLedger_setScrewMode : setScrewMode.KeepsLedger := by
  intro args s
  unfold setScrewMode setManual
  dsimp only
  repeat' split
  all_goals simp [refuse, doneWith, doneOrClamped, setAuto, ledger]

/-- The kinds whose requests can change the ledger. -/
def ledgerKinds : List Nat :=
  [0x06, 0x10, 0x18, 0x20, 0x21, 0x22, 0x23, 0x24, 0x25, 0x31, 0x32, 0x33, 0x34, 0x35, 0x36, 0x37, 0x50, 0x51, 0x52]

theorem keepsLedger_ownerOf {kind : Nat} (quiet : kind ∉ ledgerKinds) : (ownerOf kind).KeepsLedger := by
  unfold ownerOf
  split <;> simp [ledgerKinds, placeNext, placeRun, portOutOfService, portRestore, portClear] at quiet ⊢

theorem ledger_actOnTuning (k : Tuning) (before s : State) : ledger (actOnTuning k before s) = ledger s := by
  cases k <;> simp [actOnTuning, ledger]

/-- A tuning parameter is stored and acted on within the ledger. -/
theorem ledger_setTuning (id : Nat) (k : Tuning) (v : Nat) (s : State) :
    ledger (setTuning id k v s).state = ledger s := by
  have stored (x : Nat) : ledger { s with params := storeTuning s.params k x } = ledger s := by cases k <;> rfl
  simp only [setTuning, doneOrClamped, ledger_actOnTuning, stored]

end Sys2Proof.Machine

/-! ## BEGIN_BUILD up to the change of the cycle (R44) -/

namespace Sys2Proof.Machine

/-- The account as BEGIN_BUILD leaves it (R44). -/
def accountSpent (s : State) : Stroke :=
  if s.stroke.state = .closed then { s.stroke with state := .spent } else s.stroke

/-- What BEGIN_BUILD has done before the cycle becomes BUILDING. -/
def buildReady (s : State) : State :=
  let t := commandWhere (fun i => command s i == .lock) .extend (some .advance)
    (balanceTaken (overExcavation s) { s with stroke := accountSpent s, rings := buildFirstPlanned s.rings })
  { t with place := { t.place with erector := .idle, current := none, interrupted := none } }

theorem buildBegun_eq (s : State) :
    buildBegun s = writeOutput 21 ErectorCommand.idle.code (changeCycle .building (buildReady s)) := rfl

@[simp] theorem buildReady_frame (s : State) :
    (buildReady s).latched = s.latched ∧ (buildReady s).channels = s.channels ∧ (buildReady s).inputs = s.inputs ∧
    (buildReady s).cycle = s.cycle ∧ (buildReady s).configured = s.configured ∧ (buildReady s).params = s.params ∧
    (buildReady s).tools = s.tools ∧ (buildReady s).blocking = s.blocking ∧ (buildReady s).positions = s.positions ∧
    (buildReady s).gaugeWorn = s.gaugeWorn ∧ (buildReady s).quadrants = s.quadrants ∧
    (buildReady s).ports = s.ports ∧ (buildReady s).pointer = s.pointer ∧ (buildReady s).rotation = s.rotation ∧
    (buildReady s).screw = s.screw ∧ (buildReady s).stroke = accountSpent s ∧
    (buildReady s).rings = buildFirstPlanned s.rings := by
  simp [buildReady]

end Sys2Proof.Machine

/-! ## A law of the ledger over a whole step -/

namespace Sys2Proof.Machine

/-- What takes a state with `P` to one with `Q`, where `Q` reads the ledger alone: all that can change the ledger. -/
structure LedgerSteps (P Q : State → Prop) : Prop where
  congr : ∀ {s t : State}, ledger t = ledger s → Q s → Q t
  enter : ∀ {s : State}, P s → Q s
  front : ∀ {s : State} (rest : List Instr), P s → P { s with pending := rest }
  owner : ∀ {s : State} {kind : Nat} (args : List Byte), kind ∈ ledgerKinds → P s → Q (ownerOf kind args s).state
  reset : ∀ (lines : BitVec 12) (s : State), Q (powerOnReset lines s)
  fault : ∀ {s : State} (i : Fin 64), P s → Q { s with tools := s.tools.set i { s.tools[i] with damaged := true } }
  sample : ∀ {s : State} (c : Fin 30) (v : Nat), P s → Q (arrive c v s)
  input : ∀ {s : State} (i : Fin 12) (level : Level), P s → Q (lineChange i level s)

section run

variable {P Q : State → Prop}

theorem LedgerSteps.takeByKind (h : LedgerSteps P Q) (kind : Byte) (r : Request) {s : State} (hs : P s) :
    Q (takeByKind kind r s) := by
  obtain ⟨t, ht, rfl | ⟨st, rfl⟩⟩ := takeByKind_cases kind r s <;> rw [ht]
  · refine h.congr (s := (ownerOf kind.toNat r.args s).state) rfl ?_
    by_cases noisy : kind.toNat ∈ ledgerKinds
    · exact h.owner r.args noisy hs
    · exact h.congr (keepsLedger_ownerOf noisy r.args s) (h.enter hs)
  · exact h.congr (s := s) rfl (h.enter hs)

theorem LedgerSteps.transact (h : LedgerSteps P Q) (bytes : List Byte) {s : State} (hs : P s) :
    Q (transact bytes s) := by
  unfold Machine.transact
  dsimp only
  repeat' split
  · exact h.congr (s := s) rfl (h.enter hs)
  · exact h.takeByKind _ _ hs
  · exact h.congr (s := s) rfl (h.enter hs)

theorem LedgerSteps.receiveMessage (h : LedgerSteps P Q) (channel : Byte) (v : Word16) (check : Byte) {s : State}
    (hs : P s) : Q (receiveMessage channel v check s) := by
  unfold Machine.receiveMessage
  repeat' split
  · exact h.sample _ _ hs
  · exact h.enter hs
  · exact h.enter hs

/-- An event that keeps the ledger, where it happens at all. -/
theorem LedgerSteps.quiet (h : LedgerSteps P Q) {s t : State} {c : Prop} [Decidable c] (hs : P s)
    (same : ledger t = ledger s) : Q (if c then t else s) := by
  split
  · exact h.congr same (h.enter hs)
  · exact h.enter hs

theorem LedgerSteps.exec (h : LedgerSteps P Q) (c : Instr) {s : State} (hs : P s) :
    ∃ t, exec c s = .next t ∧ Q t := by
  cases hr : requestOf c with
  | some kr => exact ⟨_, exec_request hr s, h.takeByKind _ _ hs⟩
  | none =>
    cases c
    case powerOnReset lines received => exact ⟨_, rfl, h.reset lines s⟩
    case transactionCutShort bytes => exact ⟨_, rfl, h.transact bytes hs⟩
    case linkCheck bytes => exact ⟨_, rfl, h.transact bytes hs⟩
    case storageFault i => exact ⟨_, rfl, h.fault i hs⟩
    case sampleArrival c v => exact ⟨_, rfl, h.sample c _ hs⟩
    case sampleMessageDiscarded channel v check => exact ⟨_, rfl, h.receiveMessage channel v check hs⟩
    case staleTimerExpiry c => exact ⟨_, rfl, h.quiet hs (ledger_staleExpired c s)⟩
    case setpointMessage => exact ⟨_, rfl, h.congr (ledger_beginMessage s) (h.enter hs)⟩
    case lineChange i level =>
      refine ⟨_, rfl, ?_⟩
      split
      · exact h.enter hs
      · exact h.input i level hs
    case retractTimerExpiry i => exact ⟨_, rfl, h.quiet hs (ledger_retractExpired i s)⟩
    case stepTimerExpiry => exact ⟨_, rfl, h.quiet hs (ledger_stepExpired s)⟩
    case blockTimerExpiry p => exact ⟨_, rfl, h.quiet hs (ledger_blockExpired p s)⟩
    case setpointMessageEnd => exact ⟨_, rfl, h.congr (s := s) rfl (h.enter hs)⟩
    all_goals cases hr

theorem LedgerSteps.step (h : LedgerSteps P Q) {s t : State} (hs : P s) (run : step s = .next t) : Q t := by
  obtain ⟨-, rfl⟩ | ⟨c, rest, -, taken⟩ := step_next run
  · exact h.congr (ledger_idle s) (h.enter hs)
  · obtain ⟨u, hu, done⟩ := h.exec c (h.front rest hs)
    obtain rfl : u = t := by
      rw [taken] at hu
      cases hu
      rfl
    exact done

end run

end Sys2Proof.Machine

/-! ## The Tool Table's summary and the rotation permit (R37, R38, R58, R59) -/

namespace Sys2Proof.Machine

/-- The permit's word is what R38 calls for, with the blocking count as the table keeps it. -/
def PermitHeld (s : State) : Prop := permitWord s.outputs = if permitDue s then 1 else 0

/-- The summary, the flags and the permit are what the records and the parameters give. -/
def Tallied (s : State) : Prop := TableLaw s ∧ PermitHeld s

/-- No record blocks exactly while the count of those that do is 0. -/
theorem countBlocking_eq_zero (tools : Vector Tool 64) :
    countBlocking tools = 0 ↔ ∀ i : Fin 64, tools[i].state.blocks = false := by
  simp only [countBlocking, List.countP_eq_zero, Vector.mem_toList_iff, Vector.mem_iff_getElem, Bool.not_eq_true]
  exact ⟨fun h i => h _ ⟨i, i.isLt, rfl⟩, fun h _ ⟨i, hi, e⟩ => e ▸ h ⟨i, hi⟩⟩

/-- With the summary right the permit is held to its word exactly under R38's three conditions. -/
theorem permitLaw_iff {s : State} (table : TableLaw s) : PermitLaw s ↔ PermitHeld s := by
  obtain ⟨blocking, -⟩ := table
  have due : permitDue s = true ↔
      s.cycle = .boring ∧ doorOpen s = false ∧ ∀ i : Fin 64, s.tools[i].state.blocks = false := by
    rw [← countBlocking_eq_zero, ← blocking]
    simp [permitDue, and_assoc]
  simp only [PermitLaw, PermitHeld, permitWord, due]

theorem tallied_iff {s : State} : TableLaw s ∧ PermitLaw s ↔ Tallied s :=
  and_congr_right permitLaw_iff

theorem permitDue_congr {s t : State} (cycle : t.cycle = s.cycle) (inputs : t.inputs = s.inputs)
    (blocking : t.blocking = s.blocking) : permitDue t = permitDue s := by
  simp only [permitDue, doorOpen, asserted, cycle, inputs, blocking]

theorem TableLaw.congr {s t : State} (same : ledger t = ledger s) (h : TableLaw s) : TableLaw t := by
  simp only [ledger, Prod.mk.injEq] at same
  obtain ⟨⟨tools, blocking, positions, gauge, configured⟩, ⟨face, void, width, tail⟩, -⟩ := same
  have mandatory : configuredDue t = configuredDue s := by simp only [configuredDue, face, void, width, tail, positions]
  rwa [TableLaw, tools, blocking, positions, gauge, configured, mandatory]

/-- The ledger decides. -/
theorem Tallied.congr {s t : State} (same : ledger t = ledger s) (h : Tallied s) : Tallied t := by
  refine ⟨h.1.congr same, ?_⟩
  simp only [ledger, Prod.mk.injEq] at same
  obtain ⟨⟨-, blocking, -⟩, -, ⟨cycle, inputs, word⟩, -⟩ := same
  rw [PermitHeld, word, permitDue_congr cycle inputs blocking]
  exact h.2

section

variable {s : State}

/-! ### The cycle -/

theorem permitHeld_evalPermit (s : State) : PermitHeld (evalPermit s) := by
  rw [PermitHeld, permitDue_congr (s := s) (by simp) (by simp) (by simp)]
  exact evalPermit_value s

/-- Whatever the cycle becomes, the permit is re-evaluated. -/
theorem permitHeld_changeCycle (c : Cycle) (s : State) : PermitHeld (changeCycle c s) := by
  have word : permitWord (changeCycle c s).outputs = permitWord (evalPermit { s with cycle := c }).outputs := by
    simp [changeCycle]
  have due : permitDue (changeCycle c s) = permitDue { s with cycle := c } :=
    permitDue_congr (by simp) (by simp) (by simp)
  rw [PermitHeld, word, due]
  exact evalPermit_value { s with cycle := c }

theorem tallied_changeCycle (c : Cycle) (table : TableLaw s) : Tallied (changeCycle c s) :=
  ⟨by simpa [TableLaw, configuredDue] using table, permitHeld_changeCycle c s⟩

theorem permitHeld_trip (cause : TripCause) (h : PermitHeld s) : PermitHeld (trip cause s) := by
  unfold trip
  split
  · exact h
  · have changed := permitHeld_changeCycle .tripped { s with tripCause := some cause }
    rw [PermitHeld] at changed ⊢
    rw [permitDue_congr (s := changeCycle .tripped { s with tripCause := some cause }) (by simp) (by simp) (by simp)]
    simpa using changed

theorem tallied_trip (cause : TripCause) (h : Tallied s) : Tallied (trip cause s) :=
  ⟨by simpa [TableLaw, configuredDue] using h.1, permitHeld_trip cause h.2⟩

theorem tableLaw_endStrokeWith (cause : EndCause) (table : TableLaw s) : TableLaw (endStrokeWith cause s) := by
  simpa [TableLaw, configuredDue] using table

/-- A stroke ends in BORING with a change of the cycle, and elsewhere without touching permit or cycle. -/
theorem tallied_endStrokeWith (cause : EndCause) (h : Tallied s) : Tallied (endStrokeWith cause s) := by
  refine ⟨tableLaw_endStrokeWith cause h.1, ?_⟩
  unfold endStrokeWith
  dsimp only
  split
  · exact permitHeld_changeCycle _ _
  · have held := h.2
    rw [PermitHeld] at held ⊢
    rw [permitDue_congr (s := s) (by simp) (by simp) (by simp)]
    simpa using held

/-! ### The records -/

/-- A property that reads a record's zone and state alone counts the same where neither changes. -/
theorem map_set_same {α β : Type} {n : Nat} (v : Vector α n) (i : Fin n) {x : α} {f : α → β} (same : f x = f v[i]) :
    (v.set i x).toList.map f = v.toList.map f := by
  have back : (v.toList.map f).set i (f v[i]) = v.toList.map f := by
    refine List.ext_getElem (by simp) fun j _ _ => ?_
    by_cases e : i.val = j
    · subst e; simp
    · simp [e]
  rw [Vector.toList_set, List.map_set, same, back]

/-- Where record i goes on blocking or not as before, the blocking count stands. -/
theorem countBlocking_set {tools : Vector Tool 64} {i : Fin 64} {x : Tool}
    (same : x.state.blocks = tools[i].state.blocks) : countBlocking (tools.set i x) = countBlocking tools := by
  have mapped := map_set_same tools i (f := fun t : Tool => t.state.blocks) same
  have count (v : Vector Tool 64) : countBlocking v = (v.toList.map fun t => t.state.blocks).countP id := by
    rw [List.countP_map]; rfl
  rw [count, count, mapped]

/-- Where record i is ABSENT or not as before, the count of positions stands. -/
theorem countPositions_set {tools : Vector Tool 64} {i : Fin 64} {x : Tool}
    (same : x.state = .absent ↔ tools[i].state = .absent) :
    countPositions (tools.set i x) = countPositions tools := by
  have mapped := map_set_same tools i (x := x) (f := fun t : Tool => t.state != .absent)
    (by rw [Bool.eq_iff_iff, bne_iff_ne, bne_iff_ne]; exact not_congr same)
  have count (v : Vector Tool 64) : countPositions v = (v.toList.map fun t => t.state != .absent).countP id := by
    rw [List.countP_map]; rfl
  rw [count, count, mapped]

/-- Where record i keeps zone and state, a worn gauge tool is found as before. -/
theorem anyGaugeWorn_set {tools : Vector Tool 64} {i : Fin 64} {x : Tool}
    (same : (x.zone, x.state) = (tools[i].zone, tools[i].state)) :
    anyGaugeWorn (tools.set i x) = anyGaugeWorn tools := by
  have mapped := map_set_same tools i (f := fun t : Tool => (t.zone, t.state)) same
  have found (v : Vector Tool 64) : anyGaugeWorn v =
      (v.toList.map fun t => (t.zone, t.state)).any fun y => y.1 == .gauge && y.2 == .worn := by
    rw [List.any_map]; rfl
  rw [found, found, mapped]

theorem evalConfigured_configured (s : State) : (evalConfigured s).configured = configuredDue s := by
  unfold evalConfigured
  dsimp only
  repeat' split
  · next same => exact same.symm
  all_goals simp

/-- Between UNCONFIGURED and STANDSTILL the cycle follows a change of the configured flag (R37). -/
theorem evalConfigured_cycle (s : State) : (evalConfigured s).cycle =
    if configuredDue s = s.configured then s.cycle
    else if configuredDue s = true ∧ s.cycle = .unconfigured then .standstill
    else if configuredDue s = false ∧ s.cycle = .standstill then .unconfigured
    else s.cycle := by
  unfold evalConfigured
  dsimp only
  repeat' split
  all_goals simp_all

/-- The configured flag judged again, the rest of the summary being right (R37). -/
theorem tableLaw_evalConfigured (blocking : s.blocking = countBlocking s.tools)
    (positions : s.positions = countPositions s.tools) (gauge : s.gaugeWorn = anyGaugeWorn s.tools) :
    TableLaw (evalConfigured s) := by
  have judged : TableLaw { s with configured := configuredDue s } := ⟨blocking, positions, gauge, rfl⟩
  unfold evalConfigured
  dsimp only
  split
  · next same => exact ⟨blocking, positions, gauge, same.symm⟩
  · split
    · exact (tallied_changeCycle _ judged).1
    · split
      · simpa [TableLaw, configuredDue] using judged
      · exact judged

theorem permitHeld_evalConfigured (permit : PermitHeld s) : PermitHeld (evalConfigured s) := by
  unfold evalConfigured
  dsimp only
  repeat' split
  · exact permit
  · exact permitHeld_changeCycle _ _
  · have changed := permitHeld_changeCycle .unconfigured { s with configured := configuredDue s }
    rw [PermitHeld] at changed ⊢
    rw [permitDue_congr (s := changeCycle .unconfigured { s with configured := configuredDue s })
      (by simp) (by simp) (by simp)]
    simpa using changed
  · exact permit

/-- What follows a changed record before the configured flag is judged: notices, summary, gauge-worn flag, permit. -/
def recordCounted (i : Fin 64) (old : ToolFields) (s : State) : State :=
  let t := evalGaugeWorn (summarise (wearNotices old.state s.tools[i].state s))
  if old.state.blocks = s.tools[i].state.blocks then t else evalPermit t

theorem toolChanged_eq (i : Fin 64) (old : ToolFields) (s : State) : toolChanged i old s =
    if (old.state = .absent) = (s.tools[i].state = .absent) then recordCounted i old s
    else evalConfigured (recordCounted i old s) := rfl

theorem evalGaugeWorn_gaugeWorn (s : State) : (evalGaugeWorn s).gaugeWorn = anyGaugeWorn s.tools := by
  unfold evalGaugeWorn
  dsimp only
  split
  · next same => exact same.symm
  · simp

@[simp] theorem recordCounted_frame (i : Fin 64) (old : ToolFields) (s : State) :
    (recordCounted i old s).link = s.link ∧ (recordCounted i old s).enabled = s.enabled ∧
    (recordCounted i old s).capture = s.capture ∧ (recordCounted i old s).clock = s.clock ∧
    (recordCounted i old s).channels = s.channels ∧ (recordCounted i old s).sending = s.sending ∧
    (recordCounted i old s).inputs = s.inputs ∧ (recordCounted i old s).groupFlags = s.groupFlags ∧
    (recordCounted i old s).cycle = s.cycle ∧ (recordCounted i old s).tripCause = s.tripCause ∧
    (recordCounted i old s).furtherCauses = s.furtherCauses ∧ (recordCounted i old s).configured = s.configured ∧
    (recordCounted i old s).params = s.params ∧ (recordCounted i old s).tools = s.tools ∧
    (recordCounted i old s).loadPointer = s.loadPointer ∧ (recordCounted i old s).checkCaptured = s.checkCaptured ∧
    (recordCounted i old s).checkFailures = s.checkFailures ∧
    (recordCounted i old s).blocking = countBlocking s.tools ∧
    (recordCounted i old s).positions = countPositions s.tools ∧
    (recordCounted i old s).gaugeWorn = anyGaugeWorn s.tools ∧ (recordCounted i old s).angle = s.angle ∧
    (recordCounted i old s).cylinders = s.cylinders ∧ (recordCounted i old s).quadrants = s.quadrants ∧
    (recordCounted i old s).mass = s.mass ∧ (recordCounted i old s).stroke = s.stroke ∧
    (recordCounted i old s).rings = s.rings ∧ (recordCounted i old s).feed = s.feed ∧
    (recordCounted i old s).starvation = s.starvation ∧ (recordCounted i old s).place = s.place ∧
    (recordCounted i old s).ports = s.ports ∧ (recordCounted i old s).rotation = s.rotation ∧
    (recordCounted i old s).pointer = s.pointer ∧ (recordCounted i old s).pulse = s.pulse ∧
    (recordCounted i old s).totalPulses = s.totalPulses ∧ (recordCounted i old s).unattributed = s.unattributed ∧
    (recordCounted i old s).surplus = s.surplus ∧ (recordCounted i old s).rebases = s.rebases ∧
    (recordCounted i old s).screw = s.screw ∧ (recordCounted i old s).pending = s.pending := by
  unfold recordCounted
  dsimp only
  split <;> simp [evalGaugeWorn_gaugeWorn]

/-- The permit is taken again where the record has come to withhold it or has ceased to (R38). -/
theorem permitHeld_recordCounted (i : Fin 64) (old : ToolFields) (permit : PermitHeld s)
    (blocking : old.state.blocks = s.tools[i].state.blocks → s.blocking = countBlocking s.tools) :
    PermitHeld (recordCounted i old s) := by
  unfold recordCounted
  dsimp only
  split
  · next same =>
    rw [PermitHeld, permitDue_congr (s := s) (by simp) (by simp) (by simpa using (blocking same).symm)]
    rw [PermitHeld] at permit
    simpa using permit
  · exact permitHeld_evalPermit _

theorem permitHeld_toolChanged (i : Fin 64) (old : ToolFields) (permit : PermitHeld s)
    (blocking : old.state.blocks = s.tools[i].state.blocks → s.blocking = countBlocking s.tools) :
    PermitHeld (toolChanged i old s) := by
  have counted := permitHeld_recordCounted i old permit blocking
  rw [toolChanged_eq]
  split
  · exact counted
  · exact permitHeld_evalConfigured counted

/-- What follows a changed record brings the summary up to date (R58, R59, R37). -/
theorem tableLaw_toolChanged (i : Fin 64) (old : ToolFields) (configured : s.configured = configuredDue s)
    (positions : (old.state = .absent ↔ s.tools[i].state = .absent) → s.positions = countPositions s.tools) :
    TableLaw (toolChanged i old s) := by
  rw [toolChanged_eq]
  split
  · next same =>
    refine ⟨by simp, by simp, by simp, ?_⟩
    simp [configured, configuredDue, positions (iff_of_eq same)]
  · exact tableLaw_evalConfigured (by simp) (by simp) (by simp)

/-- A record written over another, whatever both are (R58). -/
theorem tableLaw_putTool (table : TableLaw s) (i : Fin 64) (x : ToolFields) : TableLaw (putTool i x s) := by
  obtain ⟨-, positions, -, configured⟩ := table
  refine tableLaw_toolChanged i _ configured fun same => ?_
  rw [storeTool_positions, positions, storeTool_tools]
  exact (countPositions_set (by simpa using same.symm)).symm

theorem tallied_putTool (h : Tallied s) (i : Fin 64) (x : ToolFields) : Tallied (putTool i x s) := by
  obtain ⟨table, permit⟩ := h
  refine ⟨tableLaw_putTool table i x, permitHeld_toolChanged i _ permit fun same => ?_⟩
  rw [storeTool_blocking, table.1, storeTool_tools]
  exact (countBlocking_set (by simpa using same.symm)).symm

/-- A record found damaged has been written SUSPECT, captured and told, and BORING has tripped (R73). -/
def recordFailed (i : Fin 64) (s : State) : State :=
  let t := raise .recordCheckFailed { storeTool i { state := .suspect } s with
    checkCaptured := some (s.checkCaptured.getD i), checkFailures := min (s.checkFailures + 1) 255 }
  if s.cycle = .boring then trip .recordCheck t else t

theorem failRecord_eq (i : Fin 64) (s : State) :
    failRecord i s = toolChanged i s.tools[i].toToolFields (recordFailed i s) := rfl

@[simp] theorem recordFailed_frame (i : Fin 64) (s : State) :
    (recordFailed i s).tools = s.tools.set i (Tool.fresh { state := .suspect }) ∧
    (recordFailed i s).blocking = s.blocking ∧ (recordFailed i s).positions = s.positions ∧
    (recordFailed i s).gaugeWorn = s.gaugeWorn ∧ (recordFailed i s).configured = s.configured ∧
    (recordFailed i s).params = s.params ∧ (recordFailed i s).stroke = s.stroke ∧
    (recordFailed i s).rings = s.rings ∧ (recordFailed i s).inputs = s.inputs := by
  unfold recordFailed
  dsimp only
  split <;> simp

theorem permitHeld_recordFailed (i : Fin 64) (permit : PermitHeld s) : PermitHeld (recordFailed i s) := by
  unfold recordFailed
  dsimp only
  split
  · exact permitHeld_trip _ permit
  · exact permit

theorem tableLaw_failRecord (table : TableLaw s) (i : Fin 64) : TableLaw (failRecord i s) := by
  obtain ⟨-, positions, -, configured⟩ := table
  rw [failRecord_eq]
  refine tableLaw_toolChanged i _ (by simpa [configuredDue] using configured) fun same => ?_
  simp only [recordFailed_frame] at same ⊢
  exact positions.trans (countPositions_set (by simpa using same.symm)).symm

theorem tallied_failRecord (h : Tallied s) (i : Fin 64) : Tallied (failRecord i s) := by
  obtain ⟨table, permit⟩ := h
  refine ⟨tableLaw_failRecord table i, ?_⟩
  rw [failRecord_eq]
  refine permitHeld_toolChanged i _ (permitHeld_recordFailed i permit) fun same => ?_
  simp only [recordFailed_frame] at same ⊢
  exact table.1.trans (countBlocking_set (by simpa using same.symm)).symm

theorem tableLaw_readTool (table : TableLaw s) (i : Fin 64) : TableLaw (readTool i s) := by
  unfold readTool
  split
  · exact tableLaw_failRecord table i
  · exact table

theorem tallied_readTool (h : Tallied s) (i : Fin 64) : Tallied (readTool i s) := by
  unfold readTool
  split
  · exact tallied_failRecord h i
  · exact h

theorem tallied_readOthers (h : Tallied s) (i : Fin 64) : Tallied (readOthers i s) :=
  readOthers_induct (P := Tallied) i (fun _ j ht => tallied_readTool ht j) s h

theorem tallied_loadAtPointer (h : Tallied s) (x : ToolFields) : Tallied (loadAtPointer x s) :=
  (tallied_putTool h s.loadPointer x).congr rfl

/-- A record whose stored contents go bad keeps state and fields (R72). -/
theorem tallied_storageFault (h : Tallied s) (i : Fin 64) :
    Tallied { s with tools := s.tools.set i { s.tools[i] with damaged := true } } := by
  obtain ⟨⟨blocking, positions, gauge, configured⟩, permit⟩ := h
  let x : Tool := { s.tools[i] with damaged := true }
  exact ⟨⟨blocking.trans (countBlocking_set (x := x) rfl).symm, positions.trans (countPositions_set (x := x) .rfl).symm,
    gauge.trans (anyGaugeWorn_set (x := x) rfl).symm, configured⟩, permit⟩

/-! ### Samples -/

theorem tallied_accrueRecord (h : Tallied s) (n : Nat) (i : Fin 64) : Tallied (accrueRecord n s i) := by
  unfold accrueRecord
  repeat' split
  · exact h
  · exact tallied_failRecord h i
  · exact tallied_putTool h i _
  · exact h

/-- What of a sample's delivery can change the ledger leaves summary and permit right. -/
theorem talliedSamples : SampleSteps Tallied where
  congr := Tallied.congr
  ended := fun cause h => tallied_endStrokeWith cause h
  tripped := fun cause h => tallied_trip cause h
  accrued := fun n i h => tallied_accrueRecord h n i

/-! ### Inputs -/

theorem tallied_closure (h : Tallied s) : Tallied (closure s) := by
  have table : TableLaw (closeRing (placeIdle s)) := by simpa [TableLaw, configuredDue] using h.1
  exact (tallied_changeCycle .standstill table).congr (by simp [ledger, closure])

theorem tallied_segBolted (h : Tallied s) : Tallied (segBolted s) := by
  have placed (slot : Slot) : Tallied { raise .slotPlaced (placeSlot slot s) with
      place := { (raise .slotPlaced (placeSlot slot s)).place with
        timer := (raise .slotPlaced (placeSlot slot s)).place.timer.freeze, current := none } } :=
    h.congr (by simp [ledger])
  unfold segBolted
  dsimp only
  repeat' split
  · exact tallied_closure (placed _)
  · exact (placed _).congr (ledger_afterSlot _)
  · exact h
  · exact h

/-- An input is taken: the permit follows the door, and the cycle STOP and the key's bolting (R30, R38). -/
theorem tallied_takeInput (h : Tallied s) (i : Fin 12) (input : Input) (event : Bool) :
    Tallied (takeInput i input event s) := by
  rw [takeInput_eq]
  have table : TableLaw (sensed i input event s) := by rw [sensed_eq]; exact h.1
  have shut (door : doorOpen (sensed i input event s) = doorOpen s) : Tallied (sensed i input event s) := by
    refine ⟨table, ?_⟩
    have due : permitDue (sensed i input event s) = permitDue s := by
      rw [permitDue, door, sensed_eq]
      rfl
    rw [PermitHeld, due, sensed_eq]
    exact h.2
  have other (away : i ≠ 2) : Tallied (sensed i input event s) := by
    refine shut ?_
    have apart : i.val ≠ 2 := fun e => away (Fin.ext e)
    rw [sensed_eq]
    simp [doorOpen, asserted, Vector.getElem_set_ne _ _ apart]
  generalize sensed i input event s = t at table shut other
  unfold useInput
  repeat' split
  · exact tallied_trip _ (other (by rintro rfl; contradiction))
  · exact other (by rintro rfl; contradiction)
  · next same => exact shut same
  · exact ⟨by simpa [TableLaw, configuredDue] using table, permitHeld_evalPermit t⟩
  · exact (other (by rintro rfl; contradiction)).congr (ledger_segGripped t)
  · exact other (by rintro rfl; contradiction)
  · exact (other (by rintro rfl; contradiction)).congr (ledger_atSlot t)
  · exact other (by rintro rfl; contradiction)
  · exact tallied_segBolted (other (by rintro rfl; contradiction))
  · exact other (by rintro rfl; contradiction)
  · exact other (by rintro rfl; contradiction)
  · exact (other (by rintro rfl; contradiction)).congr (by simp [ledger])
  · exact other (by rintro rfl; contradiction)

/-! ### The resets -/

theorem tallied_tripIfStop (h : Tallied s) : Tallied (tripIfStop s) := by
  unfold tripIfStop
  split
  · exact tallied_trip _ h
  · exact h

theorem tallied_resetWork (h : Tallied s) : Tallied (resetWork s) := by
  have rests : TableLaw (atRest s) := by
    simpa [TableLaw, configuredDue, atRest, forgetTrip, clearGroupFlags, cylindersReset, portsReset, channelsReset,
      placementReset, clearReports] using h.1
  rw [resetWork_atRest]
  refine (tallied_changeCycle (resetState (atRest s)) rests).congr ?_
  simp [ledger, markAll, permitWord]

theorem tallied_powerOnReset (lines : BitVec 12) (s : State) : Tallied (powerOnReset lines s) := by
  have table : TableLaw (poweredOn lines s) := reset_tableLaw
  have permit : PermitHeld (poweredOn lines s) := congrArg Output.value (reset_outputs 0)
  exact tallied_tripIfStop ⟨table, permit⟩

/-! ### The owners -/

theorem tallied_setGeometry (h : Tallied s) (id : Nat) (g : Geometry) (bytes : List Byte) :
    Tallied (setGeometry id g bytes s).state := by
  unfold setGeometry
  split
  · exact h
  · split
    · exact h
    · next p stored =>
      obtain ⟨⟨blocking, positions, gauge, configured⟩, permit⟩ := h
      dsimp only [doneWith]
      split
      · exact ⟨tableLaw_evalConfigured blocking positions gauge, permitHeld_evalConfigured permit⟩
      · next kept =>
        have same : configuredDue { s with params := p } = configuredDue s := by
          cases g <;> simp only [Geometry.mandatory, not_true_eq_false] at kept <;>
            simp [storeGeometry] at stored
          · obtain ⟨refs, -, rfl⟩ := stored
            rfl
          · obtain ⟨-, rfl⟩ := stored
            rfl
          · obtain ⟨-, rfl⟩ := stored
            rfl
        exact ⟨⟨blocking, positions, gauge, configured.trans same.symm⟩, permit⟩

end

/-- However its request turns out, the owner leaves summary and permit right. -/
def Handler.KeepsTally (f : Handler) : Prop := ∀ (args : List Byte) (s : State), Tallied s → Tallied (f args s).state

theorem keepsTally_inStates {ok : Cycle → Bool} {f : Handler} (h : f.KeepsTally) : (inStates ok f).KeepsTally := by
  intro args s hs
  unfold inStates
  split
  · exact h args s hs
  · exact hs

theorem keepsTally_controllerReset : controllerReset.KeepsTally := by
  intro args s h
  simp only [controllerReset, doneWith]
  exact tallied_tripIfStop (tallied_resetWork h)

theorem keepsTally_setParam : setParam.KeepsTally := by
  intro args s h
  unfold setParam
  dsimp only
  split
  · exact h
  · exact tallied_setGeometry h _ _ _
  · exact h.congr (ledger_setTuning _ _ _ s)
  · unfold emptyCheckCapture
    split <;> exact h.congr (s := s) rfl

theorem keepsTally_setSense : setSense.KeepsTally := by
  refine keepsTally_inStates fun args s h => ?_
  split
  · exact tallied_takeInput h _ _ _
  · exact h

theorem keepsTally_beginStroke : beginStroke.KeepsTally := by
  refine keepsTally_inStates fun args s h => ?_
  have begun : Tallied (strokeBegun s) := by
    unfold strokeBegun
    exact tallied_changeCycle _ (by simpa [TableLaw, configuredDue] using h.1)
  repeat' split
  · exact h
  · exact h
  · exact h
  · simpa only [doneWith] using begun

theorem keepsTally_endStroke : endStroke.KeepsTally := by
  intro args s h
  unfold endStroke
  split
  · exact tallied_endStrokeWith _ h
  · exact h

theorem tallied_buildBegun {s : State} (h : Tallied s) : Tallied (buildBegun s) := by
  have table : TableLaw (buildReady s) := by simpa [TableLaw, configuredDue] using h.1
  rw [buildBegun_eq]
  exact (tallied_changeCycle .building table).congr (by simp [ledger])

theorem keepsTally_beginBuild : beginBuild.KeepsTally := by
  refine keepsTally_inStates fun args s h => ?_
  repeat' split
  · exact h
  · exact h
  · exact h
  · exact tallied_buildBegun h

theorem keepsTally_enterIntervention : enterIntervention.KeepsTally := by
  refine keepsTally_inStates fun args s h => ?_
  split
  · exact h
  · exact (tallied_changeCycle .intervention h.1).congr (by simp [ledger, doneWith])

theorem keepsTally_leaveIntervention : leaveIntervention.KeepsTally := by
  refine keepsTally_inStates fun args s h => ?_
  split
  · exact h
  · simpa only [doneWith] using tallied_changeCycle _ h.1

theorem tallied_tripCleared {s : State} (h : Tallied s) : Tallied (tripCleared s) := by
  have ended : TableLaw (if s.stroke.state = .opened then endStrokeWith .trip s else s) := by
    split
    · exact tableLaw_endStrokeWith _ h.1
    · exact h.1
  unfold tripCleared
  dsimp only
  generalize (if s.stroke.state = .opened then endStrokeWith .trip s else s) = t at ended ⊢
  exact tallied_changeCycle (s := { t with tripCause := none, furtherCauses := false }) _ ended

theorem keepsTally_clearTrip : clearTrip.KeepsTally := by
  refine keepsTally_inStates fun args s h => ?_
  split
  · exact h
  · simpa only [doneWith] using tallied_tripCleared h

theorem keepsTally_ringPlan : ringPlan.KeepsTally := by
  refine keepsTally_inStates fun args s h => ?_
  dsimp only
  repeat' split
  all_goals exact h

theorem keepsTally_ringCancel : ringCancel.KeepsTally := by
  refine keepsTally_inStates fun args s h => ?_
  split <;> exact h

theorem keepsTally_ringRetire : ringRetire.KeepsTally := by
  refine keepsTally_inStates fun args s h => ?_
  dsimp only
  repeat' split
  all_goals exact h

theorem keepsTally_toolLoad : toolLoad.KeepsTally := by
  refine keepsTally_inStates fun args s h => ?_
  split
  · exact h
  · split
    · exact tallied_loadAtPointer h _
    · dsimp only
      split
      · exact tallied_readOthers h _
      · exact tallied_loadAtPointer (tallied_readOthers h _) _

/-- A request on one record reads it, and is judged on what the read leaves. -/
theorem tallied_onRecord {s : State} (h : Tallied s) (i : Fin 64) {judge : ToolFields → State → Taken}
    (judged : ∀ x t, Tallied t → Tallied (judge x t).state) : Tallied (onRecord i judge s).state :=
  judged _ _ (tallied_readTool h i)

theorem keepsTally_toolRead : toolRead.KeepsTally := by
  intro args s h
  unfold toolRead
  split
  · exact h
  · exact tallied_onRecord h _ fun _ _ ht => ht

theorem keepsTally_toolAmend : toolAmend.KeepsTally := by
  refine fun args s h => keepsTally_inStates (fun _ s h => ?_) args s h
  split
  · exact h
  · split
    · exact h
    · refine tallied_onRecord h _ fun x t ht => ?_
      split
      · exact tallied_putTool ht _ _
      · exact ht

theorem keepsTally_changeTool (acts : ToolFields → Bool) (change : ToolFields → ToolFields) :
    (changeTool acts change).KeepsTally := by
  refine keepsTally_inStates fun args s h => ?_
  split
  · exact h
  · refine tallied_onRecord h _ fun x t ht => ?_
    split
    · exact tallied_putTool ht _ _
    · exact ht

theorem keepsTally_toolFit : toolFit.KeepsTally := by
  refine keepsTally_inStates fun args s h => ?_
  dsimp only
  split
  · exact h
  · split
    · exact h
    · refine tallied_onRecord h _ fun x t ht => ?_
      repeat' split
      · exact tallied_readOthers ht _
      · exact tallied_putTool (tallied_readOthers ht _) _ _
      · exact ht

theorem keepsTally_ownerOf {kind : Nat} (noisy : kind ∈ ledgerKinds) : (ownerOf kind).KeepsTally := by
  simp only [ledgerKinds, List.mem_cons, List.not_mem_nil, or_false] at noisy
  rcases noisy with rfl | rfl | rfl | rfl | rfl | rfl | rfl | rfl | rfl | rfl | rfl | rfl | rfl | rfl | rfl | rfl |
    rfl | rfl | rfl
  · exact keepsTally_controllerReset
  · exact keepsTally_setParam
  · exact keepsTally_setSense
  · exact keepsTally_beginStroke
  · exact keepsTally_endStroke
  · exact keepsTally_beginBuild
  · exact keepsTally_enterIntervention
  · exact keepsTally_leaveIntervention
  · exact keepsTally_clearTrip
  · exact keepsTally_toolLoad
  · exact keepsTally_toolRead
  · exact keepsTally_toolAmend
  · exact keepsTally_changeTool _ _
  · exact keepsTally_changeTool _ _
  · exact keepsTally_toolFit
  · exact keepsTally_changeTool _ _
  · exact keepsTally_ringPlan
  · exact keepsTally_ringCancel
  · exact keepsTally_ringRetire

/-- All that can change the ledger leaves summary and permit right. -/
theorem talliedSteps : LedgerSteps Tallied Tallied where
  congr := Tallied.congr
  enter := id
  front := fun _ h => h.congr (by simp only [ledger])
  owner := fun args noisy h => keepsTally_ownerOf noisy args _ h
  reset := tallied_powerOnReset
  fault := fun i h => tallied_storageFault h i
  sample := fun c v h => talliedSamples.arrive c v h
  input := fun i level h => tallied_takeInput h i _ _

/-- Settles O53: summary, flags and permit are kept together, as each rests on the other. -/
theorem summaryAndPermitKept : Obligations.SummaryAndPermitKept := fun _ _ table permit run =>
  tallied_iff.mpr (talliedSteps.step (tallied_iff.mp ⟨table, permit⟩) run)

end Sys2Proof.Machine

/-! ## One ring under construction (R107, R44, R37) -/

namespace Sys2Proof.Machine

/-- The records under construction. -/
def underConstruction (rings : List Ring) : Nat := rings.countP fun r => r.state == .building

/-- R107, R44 and R37 for `n` records under construction, by the cycle, the account and the configured flag. -/
def Construction (n : Nat) (cycle : Cycle) (account : AccountState) (configured : Bool) : Prop :=
  n ≤ 1 ∧ (cycle = .building → 0 < n) ∧
    (0 < n → (cycle = .building ∨ cycle = .tripped) ∧ account ≠ .opened ∧ configured = true) ∧
    (cycle = .standstill ∨ cycle = .boring ∨ cycle = .building → configured = true)

theorem buildLaw_iff (s : State) :
    BuildLaw s ↔ Construction (underConstruction s.rings) s.cycle s.stroke.state s.configured := .rfl

theorem underConstruction_congr {l m : List Ring} (h : ringRoll m = ringRoll l) :
    underConstruction m = underConstruction l := by
  have count (k : List Ring) : underConstruction k = (ringRoll k).countP Prod.snd := by
    rw [ringRoll, List.countP_map]; rfl
  rw [count, count, h]

/-- The four fields decide. -/
theorem BuildLaw.of_fields {s t : State} (h : BuildLaw s) (rings : ringRoll t.rings = ringRoll s.rings)
    (cycle : t.cycle = s.cycle) (account : t.stroke.state = s.stroke.state)
    (configured : t.configured = s.configured) : BuildLaw t := by
  rwa [buildLaw_iff, underConstruction_congr rings, cycle, account, configured]

theorem BuildLaw.congr {s t : State} (same : ledger t = ledger s) (h : BuildLaw s) : BuildLaw t := by
  simp only [ledger, Prod.mk.injEq] at same
  obtain ⟨⟨-, -, -, -, configured⟩, -, ⟨cycle, -⟩, account, rings⟩ := same
  exact h.of_fields rings cycle account configured

section transitions

variable {n : Nat} {cycle : Cycle} {account : AccountState} {configured : Bool}

/-- A trip may come at any time. -/
theorem Construction.tripped (h : Construction n cycle account configured) :
    Construction n .tripped account configured := by
  obtain ⟨one, -, ring, -⟩ := h
  exact ⟨one, nofun, fun some => ⟨.inr rfl, (ring some).2⟩, by simp⟩

/-- An account may close, in BORING with the cycle. -/
theorem Construction.closed (h : Construction n cycle account configured) :
    Construction n (if cycle = .boring then .standstill else cycle) .closed configured := by
  obtain ⟨one, builds, ring, flag⟩ := h
  refine ⟨one, fun e => builds ?_, fun some => ⟨?_, nofun, (ring some).2.2⟩, fun e => flag ?_⟩
  · split at e
    · cases e
    · exact e
  · rw [if_neg]
    · exact (ring some).1
    · rintro rfl
      simpa using (ring some).1
  · split at e
    · next boring => exact .inr (.inl boring)
    · exact e

/-- With no ring under construction the cycle may become any the flag allows, BUILDING apart. -/
theorem Construction.without_ring (none : n = 0) {c : Cycle} (away : c ≠ .building)
    (flag : c = .standstill ∨ c = .boring → configured = true) : Construction n c account configured := by
  subst none
  exact ⟨by omega, fun e => absurd e away, fun some => absurd some (by omega), fun e => flag (by tauto)⟩

/-- Outside BUILDING and TRIPPED no ring is under construction. -/
theorem Construction.none (h : Construction n cycle account configured) (building : cycle ≠ .building)
    (tripped : cycle ≠ .tripped) : n = 0 := by
  obtain ⟨-, -, ring, -⟩ := h
  by_contra some
  exact (ring (by omega)).1.elim building tripped

end transitions

section

variable {s : State}

/-! ### The cycle -/

theorem buildLaw_trip (cause : TripCause) (h : BuildLaw s) : BuildLaw (trip cause s) := by
  unfold trip
  split
  · exact h
  · rw [buildLaw_iff] at h ⊢
    simpa using h.tripped

theorem endStrokeWith_cycle (cause : EndCause) (s : State) :
    (endStrokeWith cause s).cycle = if s.cycle = .boring then .standstill else s.cycle := by
  unfold endStrokeWith
  dsimp only
  split <;> simp

theorem endStrokeWith_stroke (cause : EndCause) (s : State) :
    (endStrokeWith cause s).stroke = { s.stroke with state := .closed, endCause := some cause } := by
  unfold endStrokeWith
  dsimp only
  split <;> simp

theorem buildLaw_endStrokeWith (cause : EndCause) (h : BuildLaw s) : BuildLaw (endStrokeWith cause s) := by
  rw [buildLaw_iff] at h ⊢
  rw [endStrokeWith_cycle, endStrokeWith_stroke]
  simpa using h.closed

/-- The configured flag may be judged again where it cannot be lost by a part that needs it. -/
theorem buildLaw_evalConfigured (h : BuildLaw s)
    (needed : 0 < underConstruction s.rings ∨ s.cycle = .boring → configuredDue s = true) :
    BuildLaw (evalConfigured s) := by
  unfold evalConfigured
  dsimp only
  rw [buildLaw_iff] at h
  split
  · exact h
  · next changed =>
    have started := h.2.2.2
    split
    · next due =>
      have none := h.none (by simp [due.2]) (by simp [due.2])
      rw [buildLaw_iff]
      simpa using Construction.without_ring none (c := .standstill) nofun fun _ => due.1
    · split
      · next lost =>
        have none := h.none (by simp [lost.2]) (by simp [lost.2])
        rw [buildLaw_iff]
        simpa using Construction.without_ring none (c := .unconfigured) nofun (by simp)
      · next stays =>
        obtain ⟨one, builds, ring, -⟩ := h
        refine ⟨one, builds, fun some => ⟨(ring some).1, (ring some).2.1, needed (.inl some)⟩, fun e => ?_⟩
        rcases e with standstill | boring | building
        · by_contra lost
          exact stays ⟨lost, standstill⟩
        · exact needed (.inr boring)
        · exact needed (.inl (builds building))

/-! ### Records -/

theorem buildLaw_toolChanged (i : Fin 64) (old : ToolFields) (h : BuildLaw s)
    (needed : ¬ (old.state = .absent ↔ s.tools[i].state = .absent) → 0 < underConstruction s.rings ∨ s.cycle = .boring →
      configuredDue (recordCounted i old s) = true) :
    BuildLaw (toolChanged i old s) := by
  have counted : BuildLaw (recordCounted i old s) := h.of_fields (by simp) (by simp) (by simp) (by simp)
  rw [toolChanged_eq]
  split
  · exact counted
  · next changed =>
    refine buildLaw_evalConfigured counted fun e => needed (fun same => changed (propext same)) ?_
    simpa using e

theorem buildLaw_putTool_same (h : BuildLaw s) {i : Fin 64} {x : ToolFields}
    (same : s.tools[i].state = .absent ↔ x.state = .absent) : BuildLaw (putTool i x s) := by
  refine buildLaw_toolChanged i _ (h.of_fields rfl rfl rfl rfl : BuildLaw (storeTool i x s)) fun changed => ?_
  exact absurd (by simpa [Tool.fresh] using same) changed

/-- A SUSPECT record is a position. -/
theorem countPositions_suspect (tools : Vector Tool 64) (i : Fin 64) :
    0 < countPositions (tools.set i (Tool.fresh { state := .suspect })) := by
  refine List.countP_pos_iff.mpr ⟨Tool.fresh { state := .suspect }, ?_, rfl⟩
  rw [Vector.mem_toList_iff]
  exact Vector.mem_set i.isLt

/-- A record found damaged does not unconfigure the part. -/
theorem buildLaw_failRecord (table : TableLaw s) (h : BuildLaw s) (i : Fin 64) : BuildLaw (failRecord i s) := by
  have failed : BuildLaw (recordFailed i s) := by
    unfold recordFailed
    dsimp only
    split
    · exact buildLaw_trip _ (h.of_fields (by simp) (by simp) (by simp) (by simp))
    · exact h.of_fields (by simp) (by simp) (by simp) (by simp)
  rw [failRecord_eq]
  refine buildLaw_toolChanged i _ failed fun _ needs => ?_
  have flag : (recordFailed i s).configured = true :=
    needs.elim (fun some => (failed.2.2.1 some).2.2) fun boring => failed.2.2.2 (.inr (.inl boring))
  have due : configuredDue s = true := by simpa [table.2.2.2] using flag
  simp only [configuredDue, Bool.and_eq_true, decide_eq_true_eq] at due ⊢
  simpa [countPositions_suspect] using due.1

theorem evalConfigured_ne_boring (away : s.cycle ≠ .boring) : (evalConfigured s).cycle ≠ .boring := by
  rw [evalConfigured_cycle]
  repeat' split
  all_goals simp [away]

theorem toolChanged_ne_boring (away : s.cycle ≠ .boring) (i : Fin 64) (old : ToolFields) :
    (toolChanged i old s).cycle ≠ .boring := by
  rw [toolChanged_eq]
  split
  · simpa using away
  · exact evalConfigured_ne_boring (by simpa using away)

/-- A read takes no part into BORING. -/
theorem readTool_ne_boring (away : s.cycle ≠ .boring) (i : Fin 64) : (readTool i s).cycle ≠ .boring := by
  unfold readTool
  split
  · rw [failRecord_eq]
    exact toolChanged_ne_boring (by simp [recordFailed, away]) i _
  · exact away

theorem buildLaw_readTool (table : TableLaw s) (h : BuildLaw s) (i : Fin 64) : BuildLaw (readTool i s) := by
  unfold readTool
  split
  · exact buildLaw_failRecord table h i
  · exact h

/-- The duplicate search keeps the laws, and does not begin BORING. -/
theorem buildLaw_readOthers (table : TableLaw s) (h : BuildLaw s) (away : s.cycle ≠ .boring) (i : Fin 64) :
    TableLaw (readOthers i s) ∧ BuildLaw (readOthers i s) ∧ (readOthers i s).cycle ≠ .boring := by
  refine readOthers_induct (P := fun t => TableLaw t ∧ BuildLaw t ∧ t.cycle ≠ .boring) i (fun t j ht => ?_) s
    ⟨table, h, away⟩
  obtain ⟨table, build, away⟩ := ht
  exact ⟨tableLaw_readTool table j, buildLaw_readTool table build j, readTool_ne_boring away j⟩

theorem wearState_ne_absent (duty watch wear : Nat) : wearState duty watch wear ≠ .absent := by
  unfold wearState
  repeat' split
  all_goals nofun

/-- A state derived again is ABSENT exactly where it was. -/
theorem rederived_absent (x : ToolFields) : x.rederived.state = .absent ↔ x.state = .absent := by
  unfold ToolFields.rederived
  split <;> simp_all [wearState_ne_absent]

theorem accrued_absent (x : ToolFields) (n groundFactor : Nat) :
    (accrued x n groundFactor).state = .absent ↔ x.state = .absent := rederived_absent _

theorem accrueRecord_laws (table : TableLaw s) (h : BuildLaw s) (n : Nat) (i : Fin 64) :
    TableLaw (accrueRecord n s i) ∧ BuildLaw (accrueRecord n s i) := by
  unfold accrueRecord
  repeat' split
  · exact ⟨table, h⟩
  · exact ⟨tableLaw_failRecord table i, buildLaw_failRecord table h i⟩
  · exact ⟨tableLaw_putTool table i _, buildLaw_putTool_same h (accrued_absent _ _ _).symm⟩
  · exact ⟨table, h⟩

/-! ### Samples and inputs -/

/-- What of a sample's delivery can change the ledger keeps summary and construction. -/
theorem constructionSamples : SampleSteps fun s => TableLaw s ∧ BuildLaw s where
  congr := fun same h => ⟨h.1.congr same, h.2.congr same⟩
  ended := fun cause h => ⟨tableLaw_endStrokeWith cause h.1, buildLaw_endStrokeWith cause h.2⟩
  tripped := fun cause h => ⟨by simpa [TableLaw, configuredDue] using h.1, buildLaw_trip cause h.2⟩
  accrued := fun n i h => accrueRecord_laws h.1 h.2 n i

/-- The ring under construction closes. -/
theorem underConstruction_closed {f : Ring → Ring} (closes : ∀ r, (f r).state ≠ .building) (rings : List Ring) :
    underConstruction (modifyFirst (fun r => r.state == .building) f rings) = underConstruction rings - 1 := by
  induction rings with
  | nil => rfl
  | cons r rings ih =>
    unfold modifyFirst
    by_cases building : r.state = .building
    · simp [underConstruction, building, closes]
    · simpa [underConstruction, building] using ih

theorem buildLaw_closure (h : BuildLaw s) (building : s.cycle = .building) : BuildLaw (closure s) := by
  have count : underConstruction (closure s).rings = underConstruction s.rings - 1 := by
    simpa [closure, closeRing] using underConstruction_closed (by simp) s.rings
  have one : underConstruction s.rings ≤ 1 := h.1
  have flag := h.2.2.2 (.inr (.inr building))
  rw [buildLaw_iff, count]
  simpa [closure] using Construction.without_ring (c := .standstill) (account := s.stroke.state)
    (Nat.sub_eq_zero_of_le one) nofun fun _ => flag

theorem buildLaw_segBolted (h : BuildLaw s) (hold : s.cycle ≠ .building → s.place.erector.underWay = false) :
    BuildLaw (segBolted s) := by
  have placed (slot : Slot) : BuildLaw { raise .slotPlaced (placeSlot slot s) with
      place := { (raise .slotPlaced (placeSlot slot s)).place with
        timer := (raise .slotPlaced (placeSlot slot s)).place.timer.freeze, current := none } } :=
    h.congr (by simp [ledger])
  unfold segBolted
  dsimp only
  split
  · next seating =>
    have building : s.cycle = .building := by
      by_contra away
      have idle := hold away
      rw [seating] at idle
      cases idle
    repeat' split
    · exact buildLaw_closure (placed _) (by simpa using building)
    · exact (placed _).congr (ledger_afterSlot _)
    · exact h
  · exact h

theorem buildLaw_takeInput (h : BuildLaw s) (hold : s.cycle ≠ .building → s.place.erector.underWay = false)
    (i : Fin 12) (input : Input) (event : Bool) : BuildLaw (takeInput i input event s) := by
  rw [takeInput_eq]
  have told : BuildLaw (sensed i input event s) := by
    rw [sensed_eq]
    exact h
  have holds : (sensed i input event s).cycle ≠ .building →
      (sensed i input event s).place.erector.underWay = false := by
    rw [sensed_eq]
    exact hold
  generalize sensed i input event s = t at told holds
  unfold useInput
  repeat' split
  · exact buildLaw_trip _ told
  · exact told
  · exact told
  · exact told.of_fields (by simp) (by simp) (by simp) (by simp)
  · exact told.congr (ledger_segGripped t)
  · exact told
  · exact told.congr (ledger_atSlot t)
  · exact told
  · exact buildLaw_segBolted told holds
  · exact told
  · exact told
  · exact told.congr (by simp [ledger])
  · exact told

/-! ### The resets -/

theorem buildLaw_tripIfStop (h : BuildLaw s) : BuildLaw (tripIfStop s) := by
  unfold tripIfStop
  split
  · exact buildLaw_trip _ h
  · exact h

/-- A ring under construction is found. -/
theorem buildingRing_isSome (s : State) : (buildingRing s).isSome = true ↔ 0 < underConstruction s.rings := by
  simp [buildingRing, underConstruction, List.countP_pos_iff, List.find?_isSome]

/-- The cycle a reset takes is the one the register and the flag call for. -/
theorem construction_resetState (h : BuildLaw s) :
    Construction (underConstruction s.rings) (resetState s) s.stroke.state s.configured := by
  obtain ⟨one, -, ring, -⟩ := h
  have found := buildingRing_isSome s
  unfold resetState
  refine ⟨one, fun e => ?_, fun some => ?_, fun e => ?_⟩
  · repeat' split at e
    · next building => exact found.mp building
    · cases e
    · cases e
  · obtain ⟨-, account, flag⟩ := ring some
    rw [if_pos flag, if_pos (found.mpr some)]
    exact ⟨.inl rfl, account, flag⟩
  · by_contra unset
    rw [if_neg unset] at e
    simp at e

theorem buildLaw_resetWork (h : BuildLaw s) : BuildLaw (resetWork s) := by
  have account : (atRest s).stroke = s.stroke := by
    simp [atRest, forgetTrip, clearGroupFlags, cylindersReset, portsReset, channelsReset, placementReset, clearReports]
  have state : resetState (atRest s) = resetState s := by simp [resetState, buildingRing, atRest_frame]
  rw [buildLaw_iff, resetWork_atRest]
  simpa [atRest_frame, account, state] using construction_resetState h

theorem buildLaw_powerOnReset (lines : BitVec 12) (s : State) : BuildLaw (powerOnReset lines s) := by
  have powered : BuildLaw (poweredOn lines s) := reset_buildLaw
  exact buildLaw_tripIfStop powered

/-! ### The owners -/

theorem buildLaw_setGeometry (h : BuildLaw s) (id : Nat) (g : Geometry) (bytes : List Byte) :
    BuildLaw (setGeometry id g bytes s).state := by
  unfold setGeometry
  split
  · exact h
  · next opened =>
    have state : s.cycle = .unconfigured ∨ s.cycle = .standstill := by
      simp only [geometryOpen, Bool.not_eq_true', Bool.not_eq_false, Bool.and_eq_true, Bool.or_eq_true,
        beq_iff_eq] at opened
      exact opened.1.1
    have none : underConstruction s.rings = 0 := by
      refine Construction.none h ?_ ?_ <;> obtain e | e := state <;> simp [e]
    split
    · exact h
    · dsimp only [doneWith]
      split
      · refine buildLaw_evalConfigured h fun needs => ?_
        obtain some | boring := needs
        · rw [none] at some
          exact absurd some (by omega)
        · obtain e | e := state <;> simp [e] at boring
      · exact h

end

/-- However its request turns out, the owner keeps the construction law. -/
def Handler.KeepsBuild (f : Handler) : Prop :=
  ∀ (args : List Byte) (s : State), TableLaw s → HoldLaw s → BuildLaw s → BuildLaw (f args s).state

theorem keepsBuild_inStates {ok : Cycle → Bool} {f : Handler} (h : ∀ (args : List Byte) (s : State), ok s.cycle = true →
    TableLaw s → HoldLaw s → BuildLaw s → BuildLaw (f args s).state) : (inStates ok f).KeepsBuild := by
  intro args s table hold build
  unfold inStates
  split
  · next taken => exact h args s taken table hold build
  · exact build

theorem keepsBuild_controllerReset : controllerReset.KeepsBuild := by
  intro args s _ _ h
  simp only [controllerReset, doneWith]
  exact buildLaw_tripIfStop (buildLaw_resetWork h)

theorem keepsBuild_setParam : setParam.KeepsBuild := by
  intro args s _ _ h
  unfold setParam
  dsimp only
  split
  · exact h
  · exact buildLaw_setGeometry h _ _ _
  · exact h.congr (ledger_setTuning _ _ _ s)
  · unfold emptyCheckCapture
    split <;> exact h

theorem keepsBuild_setSense : setSense.KeepsBuild := by
  refine keepsBuild_inStates fun args s _ _ hold h => ?_
  split
  · exact buildLaw_takeInput h (fun away => (hold.2 away).2) _ _ _
  · exact h

theorem keepsBuild_beginStroke : beginStroke.KeepsBuild := by
  refine keepsBuild_inStates fun args s taken _ _ h => ?_
  have standstill : s.cycle = .standstill := by simpa using taken
  have none : underConstruction s.rings = 0 := Construction.none h (by simp [standstill]) (by simp [standstill])
  have begun : BuildLaw (strokeBegun s) := by
    rw [buildLaw_iff]
    simpa [strokeBegun, none] using
      Construction.without_ring (c := .boring) rfl nofun fun _ => h.2.2.2 (.inl standstill)
  repeat' split
  · exact h
  · exact h
  · exact h
  · simpa only [doneWith] using begun

theorem keepsBuild_endStroke : endStroke.KeepsBuild := by
  intro args s _ _ h
  unfold endStroke
  split
  · exact buildLaw_endStrokeWith _ h
  · exact h

/-- The oldest PLANNED record joins those under construction (R44). -/
theorem underConstruction_buildFirstPlanned {rings : List Ring} {r : Ring}
    (planned : rings.find? (fun r => r.state == .planned) = some r) :
    underConstruction (buildFirstPlanned rings) = underConstruction rings + 1 := by
  induction rings with
  | nil => cases planned
  | cons x rest ih =>
    unfold buildFirstPlanned
    by_cases first : x.state = .planned
    · simp [underConstruction, first]
    · have later : rest.find? (fun r => r.state == .planned) = some r := by simpa [first] using planned
      rw [if_neg first]
      simp only [underConstruction, List.countP_cons] at ih ⊢
      rw [ih later]
      omega

theorem keepsBuild_beginBuild : beginBuild.KeepsBuild := by
  refine keepsBuild_inStates fun args s taken _ _ h => ?_
  have standstill : s.cycle = .standstill := by simpa using taken
  have none : underConstruction s.rings = 0 := Construction.none h (by simp [standstill]) (by simp [standstill])
  split
  · exact h
  · next room =>
    have shut : (accountSpent s).state ≠ .opened := by
      unfold accountSpent
      split
      · nofun
      · intro opened
        simp [roomForRing, opened] at room
    split
    · exact h
    · next r planned =>
      split
      · exact h
      · have begun : Construction 1 .building (accountSpent s).state s.configured :=
          ⟨le_rfl, fun _ => Nat.one_pos, fun _ => ⟨.inl rfl, shut, h.2.2.2 (.inl standstill)⟩,
            fun _ => h.2.2.2 (.inl standstill)⟩
        rw [buildLaw_iff, doneWith, buildBegun_eq]
        simpa [underConstruction_buildFirstPlanned planned, none] using begun

theorem keepsBuild_enterIntervention : enterIntervention.KeepsBuild := by
  refine keepsBuild_inStates fun args s taken _ _ h => ?_
  have standstill : s.cycle = .standstill := by simpa using taken
  have none : underConstruction s.rings = 0 := Construction.none h (by simp [standstill]) (by simp [standstill])
  split
  · exact h
  · rw [buildLaw_iff]
    simpa [doneWith, none] using Construction.without_ring (c := .intervention) rfl nofun (by simp)

/-- With no ring under construction the cycle may rest (R47, R51). -/
theorem construction_restState (account : AccountState) (s : State) :
    Construction 0 (restState s) account s.configured := by
  unfold restState
  refine Construction.without_ring rfl ?_ fun e => ?_
  · split <;> nofun
  · by_contra unset
    rw [if_neg unset] at e
    simp at e

theorem keepsBuild_leaveIntervention : leaveIntervention.KeepsBuild := by
  refine keepsBuild_inStates fun args s taken _ _ h => ?_
  have intervention : s.cycle = .intervention := by simpa using taken
  have none : underConstruction s.rings = 0 := Construction.none h (by simp [intervention]) (by simp [intervention])
  split
  · exact h
  · rw [buildLaw_iff]
    simpa [doneWith, none] using construction_restState s.stroke.state s

/-- The cycle a cleared trip takes is the one the register and the flag call for (R51). -/
theorem construction_workState {s : State} (h : BuildLaw s) {account : AccountState} (shut : account ≠ .opened) :
    Construction (underConstruction s.rings) (workState s) account s.configured := by
  obtain ⟨one, -, ring, -⟩ := h
  have found := buildingRing_isSome s
  by_cases some : 0 < underConstruction s.rings
  · have flag := (ring some).2.2
    rw [workState, if_pos (found.mpr some)]
    exact ⟨one, fun _ => some, fun _ => ⟨.inl rfl, shut, flag⟩, fun _ => flag⟩
  · have none : underConstruction s.rings = 0 := by omega
    rw [workState, if_neg (mt found.mp some), none]
    exact construction_restState account s

theorem keepsBuild_clearTrip : clearTrip.KeepsBuild := by
  refine keepsBuild_inStates fun args s _ _ _ h => ?_
  split
  · exact h
  · rw [buildLaw_iff, doneWith, tripCleared]
    by_cases opened : s.stroke.state = .opened
    · simpa [opened, endStrokeWith_stroke] using construction_workState h (account := .closed) nofun
    · simpa [opened] using construction_workState h opened

theorem keepsBuild_ringPlan : ringPlan.KeepsBuild := by
  refine keepsBuild_inStates fun args s _ _ _ h => ?_
  have planned (r : Ring) (waiting : r.state = .planned) : BuildLaw { s with rings := s.rings ++ [r] } := by
    have count : underConstruction (s.rings ++ [r]) = underConstruction s.rings := by
      simp [underConstruction, waiting]
    rw [buildLaw_iff] at h ⊢
    rwa [count]
  dsimp only
  repeat' split
  · exact h
  · exact h
  · exact h
  · exact planned _ rfl
  · exact h

/-- The record RING_CANCEL forgets is the newest (R109). -/
theorem rings_of_last_planned {rings : List Ring} (last : rings.getLast?.any (fun r => r.state == .planned) = true) :
    ∃ r, rings = rings.dropLast ++ [r] ∧ r.state = .planned := by
  cases found : rings.getLast? with
  | none => rw [found] at last; cases last
  | some r =>
    obtain ⟨older, rfl⟩ := List.getLast?_eq_some_iff.mp found
    exact ⟨r, by rw [List.dropLast_concat], by simpa using last⟩

theorem keepsBuild_ringCancel : ringCancel.KeepsBuild := by
  refine keepsBuild_inStates fun args s _ _ _ h => ?_
  split
  · next last =>
    obtain ⟨r, rings, planned⟩ := rings_of_last_planned last
    have count : underConstruction s.rings.dropLast = underConstruction s.rings := by
      conv_rhs => rw [rings]
      simp [underConstruction, planned]
    rw [buildLaw_iff] at h ⊢
    rwa [doneWith, count]
  · exact h

/-- The record RING_RETIRE forgets is the oldest (R110). -/
theorem rings_of_found_first {s : State} {number : Nat} {r : Ring} (found : findRing s number = some r)
    (first : ¬ (s.rings.head?.any fun o => o.number != number) = true) : s.rings = r :: s.rings.tail := by
  cases rings : s.rings with
  | nil => simp [findRing, rings] at found
  | cons o rest =>
    have named : o.number = number := by simpa [rings] using first
    have same : o = r := by simpa [findRing, rings, named] using found
    rw [same, List.tail_cons]

theorem keepsBuild_ringRetire : ringRetire.KeepsBuild := by
  refine keepsBuild_inStates fun args s _ _ _ h => ?_
  dsimp only
  repeat' split
  · exact h
  · exact h
  · exact h
  · exact h
  · next r found state first =>
    have grouted : r.state = .grouted := by simpa using state
    have count : underConstruction s.rings.tail = underConstruction s.rings := by
      conv_rhs => rw [rings_of_found_first found first]
      simp [underConstruction, grouted]
    rw [buildLaw_iff] at h ⊢
    rwa [doneWith, count]

/-- With no ring under construction and outside BORING any record may be written. -/
theorem buildLaw_putTool_without_ring {s : State} (h : BuildLaw s) (none : underConstruction s.rings = 0)
    (away : s.cycle ≠ .boring) (i : Fin 64) (x : ToolFields) : BuildLaw (putTool i x s) := by
  refine buildLaw_toolChanged _ _ (h : BuildLaw (storeTool i x s)) fun _ needs => ?_
  obtain some | boring := needs
  · rw [storeTool_rings, none] at some
    exact absurd some (by omega)
  · exact absurd boring away

theorem buildLaw_loadAtPointer {s : State} (h : BuildLaw s) (none : underConstruction s.rings = 0)
    (away : s.cycle ≠ .boring) (x : ToolFields) : BuildLaw (loadAtPointer x s) :=
  buildLaw_putTool_without_ring h none away s.loadPointer x

theorem keepsBuild_toolLoad : toolLoad.KeepsBuild := by
  refine keepsBuild_inStates fun args s taken table _ h => ?_
  have state : s.cycle = .unconfigured ∨ s.cycle = .standstill ∨ s.cycle = .intervention := by
    simpa [loadStates, or_assoc] using taken
  have none : underConstruction s.rings = 0 := by
    refine Construction.none h ?_ ?_ <;> obtain e | e | e := state <;> simp [e]
  have away : s.cycle ≠ .boring := by obtain e | e | e := state <;> simp [e]
  obtain ⟨-, searched, still⟩ := buildLaw_readOthers table h away s.loadPointer
  split
  · exact h
  · split
    · exact buildLaw_loadAtPointer h none away _
    · dsimp only
      split
      · exact searched
      · exact buildLaw_loadAtPointer searched (by simpa using none) still _

/-- A request on one record reads it, and is judged on what the read leaves. -/
theorem buildLaw_onRecord {s : State} (table : TableLaw s) (h : BuildLaw s) (i : Fin 64)
    {judge : ToolFields → State → Taken}
    (judged : ∀ t, TableLaw t → BuildLaw t → BuildLaw (judge t.tools[i].toToolFields t).state) :
    BuildLaw (onRecord i judge s).state :=
  judged _ (tableLaw_readTool table i) (buildLaw_readTool table h i)

theorem keepsBuild_toolRead : toolRead.KeepsBuild := by
  intro args s table _ h
  unfold toolRead
  split
  · exact h
  · exact buildLaw_onRecord table h _ fun _ _ ht => ht

/-- An amendment makes no record ABSENT, and takes none from it. -/
theorem amended_absent (x : ToolFields) (limits : Option (Nat × Nat)) (duty : Option Nat) :
    (amended x limits duty).state = .absent ↔ x.state = .absent := by
  unfold amended
  rw [rederived_absent]
  cases limits <;> cases duty <;> rfl

theorem keepsBuild_toolAmend : toolAmend.KeepsBuild := by
  refine fun args s table hold h => keepsBuild_inStates (fun _ s _ table _ h => ?_) args s table hold h
  split
  · exact h
  · split
    · exact h
    · refine buildLaw_onRecord table h _ fun t _ ht => ?_
      split
      · exact buildLaw_putTool_same ht (amended_absent _ _ _).symm
      · exact ht

theorem keepsBuild_changeTool {acts : ToolFields → Bool} {change : ToolFields → ToolFields}
    (stays : ∀ x, acts x = true → (x.state = .absent ↔ (change x).state = .absent)) :
    (changeTool acts change).KeepsBuild := by
  refine keepsBuild_inStates fun args s _ table _ h => ?_
  split
  · exact h
  · refine buildLaw_onRecord table h _ fun t _ ht => ?_
    split
    · next acted => exact buildLaw_putTool_same ht (stays _ acted)
    · exact ht

theorem keepsBuild_toolLockOut : toolLockOut.KeepsBuild := by
  refine keepsBuild_changeTool fun x acted => ?_
  have present : x.state ≠ .absent := by
    intro absent
    simp [absent] at acted
  simp [present]

theorem keepsBuild_toolRetire : toolRetire.KeepsBuild := keepsBuild_changeTool fun _ _ => .rfl

theorem keepsBuild_toolRelease : toolRelease.KeepsBuild := by
  refine keepsBuild_changeTool fun x acted => ?_
  have locked : x.state = .lockedOut := by simpa using acted
  dsimp only
  split <;> simp [locked, wearState_ne_absent]

theorem keepsBuild_toolFit : toolFit.KeepsBuild := by
  refine keepsBuild_inStates fun args s taken table _ h => ?_
  have intervention : s.cycle = .intervention := by simpa [atIntervention] using taken
  have none : underConstruction s.rings = 0 := Construction.none h (by simp [intervention]) (by simp [intervention])
  dsimp only
  split
  · exact h
  · next i _ =>
    have read := buildLaw_readTool table h i
    have away : (readTool i s).cycle ≠ .boring := readTool_ne_boring (by simp [intervention]) i
    obtain ⟨-, searched, still⟩ := buildLaw_readOthers (tableLaw_readTool table i) read away i
    split
    · exact h
    · unfold onRecord
      dsimp only
      repeat' split
      · exact searched
      · exact buildLaw_putTool_without_ring searched (by simpa using none) still _ _
      · exact read

theorem keepsBuild_ownerOf {kind : Nat} (noisy : kind ∈ ledgerKinds) : (ownerOf kind).KeepsBuild := by
  simp only [ledgerKinds, List.mem_cons, List.not_mem_nil, or_false] at noisy
  rcases noisy with rfl | rfl | rfl | rfl | rfl | rfl | rfl | rfl | rfl | rfl | rfl | rfl | rfl | rfl | rfl | rfl |
    rfl | rfl | rfl
  · exact keepsBuild_controllerReset
  · exact keepsBuild_setParam
  · exact keepsBuild_setSense
  · exact keepsBuild_beginStroke
  · exact keepsBuild_endStroke
  · exact keepsBuild_beginBuild
  · exact keepsBuild_enterIntervention
  · exact keepsBuild_leaveIntervention
  · exact keepsBuild_clearTrip
  · exact keepsBuild_toolLoad
  · exact keepsBuild_toolRead
  · exact keepsBuild_toolAmend
  · exact keepsBuild_toolLockOut
  · exact keepsBuild_toolRetire
  · exact keepsBuild_toolFit
  · exact keepsBuild_toolRelease
  · exact keepsBuild_ringPlan
  · exact keepsBuild_ringCancel
  · exact keepsBuild_ringRetire

/-- All that can change the ledger keeps the construction law, the table and the hold law being given. -/
theorem buildSteps : LedgerSteps (fun s => TableLaw s ∧ HoldLaw s ∧ BuildLaw s) BuildLaw where
  congr := BuildLaw.congr
  enter := fun h => h.2.2
  front := fun _ h => h
  owner := fun args noisy ⟨table, hold, build⟩ => keepsBuild_ownerOf noisy args _ table hold build
  reset := buildLaw_powerOnReset
  fault := fun _ h => h.2.2
  sample := fun c v h => (constructionSamples.arrive c v ⟨h.1, h.2.2⟩).2
  input := fun i _ ⟨_, hold, build⟩ => buildLaw_takeInput build (fun away => (hold.2 away).2) i _ _

end Sys2Proof.Machine

/-! ## The register in sequence (R106, R108 to R110) -/

namespace Sys2Proof.Machine

/-- The numbers of the register, oldest first. -/
def ringNumbers (s : State) : List Nat := s.rings.map Ring.number

/-- R106 for a list of ring numbers: eight at most, each within 1 to 65 535, each the next after the one before it. -/
def InSequence (l : List Nat) : Prop :=
  l.length ≤ 8 ∧ (∀ n ∈ l, 1 ≤ n ∧ n ≤ 65535) ∧ l.IsChain fun x y => y = nextNumber x

theorem registerLaw_iff (s : State) : RegisterLaw s ↔ InSequence (ringNumbers s) := by
  have chain : (∀ older x y newer, s.rings = older ++ x :: y :: newer →
      y.number = if x.number = 65535 then 1 else x.number + 1) ↔
      s.rings.IsChain fun x y => y.number = nextNumber x.number := by
    rw [List.isChain_iff_forall_rel_of_append_cons_cons]
    exact ⟨fun h x y older newer e => h older x y newer e, fun h older x y newer e => h e⟩
  rw [RegisterLaw, chain, InSequence, ringNumbers, List.isChain_map]
  simp

theorem RegisterLaw.of_numbers {s t : State} (h : RegisterLaw s) (same : ringNumbers t = ringNumbers s) :
    RegisterLaw t := by
  rw [registerLaw_iff] at h ⊢
  rwa [same]

/-! ### What keeps the numbers -/

section

variable {s : State}

theorem ringNumbers_of_rings {t : State} (same : t.rings = s.rings) : ringNumbers t = ringNumbers s :=
  congrArg (List.map Ring.number) same

theorem ringNumbers_congr {t : State} (same : ledger t = ledger s) : ringNumbers t = ringNumbers s := by
  have numbers (u : State) : ringNumbers u = (ringRoll u.rings).map Prod.fst := by
    rw [ringNumbers, ringRoll, List.map_map]; rfl
  simp only [ledger, Prod.mk.injEq] at same
  obtain ⟨-, -, -, -, rings⟩ := same
  rw [numbers, numbers, rings]

theorem ringNumbers_segBolted (s : State) : ringNumbers (segBolted s) = ringNumbers s := by
  have placed (slot : Slot) : ringNumbers { raise .slotPlaced (placeSlot slot s) with
      place := { (raise .slotPlaced (placeSlot slot s)).place with
        timer := (raise .slotPlaced (placeSlot slot s)).place.timer.freeze, current := none } } = ringNumbers s :=
    ringNumbers_congr (by simp [ledger])
  have closed (t : State) : ringNumbers (closure t) = ringNumbers t := by
    simp only [ringNumbers, closure, extendAll_frame, changeCycle_frame, closeRing, raise_rings, updateBuilding_rings,
      placeIdle_frame]
    exact map_modifyFirst (f := fun r : Ring => { r with
      state := .closed, advance := 0, exposure := 0, target := 0, delivered := 0
      voidArea := some (t.params.voidArea.getD 0), groutFactor := some t.params.groutFactor }) (fun _ => rfl) _ _
  unfold segBolted
  dsimp only
  repeat' split
  · exact (closed _).trans (placed _)
  · exact (ringNumbers_congr (ledger_afterSlot _)).trans (placed _)
  · rfl
  · rfl

theorem ringNumbers_takeInput (i : Fin 12) (input : Input) (event : Bool) (s : State) :
    ringNumbers (takeInput i input event s) = ringNumbers s := by
  have told : ringNumbers (sensed i input event s) = ringNumbers s := by
    rw [sensed_eq]
    rfl
  rw [takeInput_eq, ← told]
  unfold useInput
  repeat' split
  · exact ringNumbers_of_rings (by simp)
  · rfl
  · rfl
  · exact ringNumbers_of_rings (by simp)
  · exact ringNumbers_congr (ledger_segGripped _)
  · rfl
  · exact ringNumbers_congr (ledger_atSlot _)
  · rfl
  · exact ringNumbers_segBolted _
  · rfl
  · rfl
  · exact ringNumbers_of_rings (by simp)
  · rfl

theorem ringNumbers_buildBegun (s : State) : ringNumbers (buildBegun s) = ringNumbers s := by
  have same (rings : List Ring) : (buildFirstPlanned rings).map Ring.number = rings.map Ring.number := by
    induction rings with
    | nil => rfl
    | cons r rest ih =>
      unfold buildFirstPlanned
      split
      · rfl
      · rw [List.map_cons, List.map_cons, ih]
  rw [buildBegun_eq]
  simpa [ringNumbers] using same s.rings

/-- What of a sample's delivery can change the ledger keeps the register in sequence. -/
theorem registerSamples : SampleSteps RegisterLaw where
  congr := fun same h => h.of_numbers (ringNumbers_congr same)
  ended := fun _ h => h.of_numbers (ringNumbers_of_rings (by simp))
  tripped := fun _ h => h.of_numbers (ringNumbers_of_rings (by simp))
  accrued := fun _ _ h => h.of_numbers (ringNumbers_of_rings (by simp))

end

/-! ### The numbers a request can carry -/

theorem foldl_bytes_lt (l : List Byte) (acc : Nat) :
    l.foldl (fun acc b => acc * 256 + b.toNat) acc < (acc + 1) * 256 ^ l.length := by
  induction l generalizing acc with
  | nil => simp
  | cons b l ih =>
    have byte : b.toNat < 256 := b.isLt
    calc
      (b :: l).foldl (fun acc b => acc * 256 + b.toNat) acc < (acc * 256 + b.toNat + 1) * 256 ^ l.length := ih _
      _ ≤ ((acc + 1) * 256) * 256 ^ l.length := Nat.mul_le_mul_right _ (by omega)
      _ = (acc + 1) * 256 ^ (b :: l).length := by rw [List.length_cons, pow_succ]; ring

/-- A field of `len` bytes is below 256 to the `len`. -/
theorem field_lt (args : List Byte) (off len : Nat) : field args off len < 256 ^ len := by
  have read := foldl_bytes_lt ((args.drop off).take len) 0
  have short : ((args.drop off).take len).length ≤ len := List.length_take_le _ _
  calc
    field args off len < 256 ^ ((args.drop off).take len).length := by simpa [field, beNat] using read
    _ ≤ 256 ^ len := Nat.pow_le_pow_right (by omega) short

/-! ### The owners -/

/-- However its request turns out, the owner keeps the register in sequence. -/
def Handler.KeepsRegister (f : Handler) : Prop :=
  ∀ (args : List Byte) (s : State), RegisterLaw s → RegisterLaw (f args s).state

theorem keepsRegister_inStates {ok : Cycle → Bool} {f : Handler} (h : f.KeepsRegister) :
    (inStates ok f).KeepsRegister := by
  intro args s hs
  unfold inStates
  split
  · exact h args s hs
  · exact hs

theorem keepsRegister_ringPlan : ringPlan.KeepsRegister := by
  refine keepsRegister_inStates fun args s h => ?_
  dsimp only
  repeat' split
  · exact h
  · exact h
  · exact h
  · next zero room next =>
    have fresh := field_lt args 0 2
    rw [registerLaw_iff] at h ⊢
    obtain ⟨length, bounds, chain⟩ := h
    have numbers (r : Ring) : ringNumbers { s with rings := s.rings ++ [r] } = ringNumbers s ++ [r.number] :=
      List.map_append
    rw [doneWith, numbers]
    refine ⟨?_, fun n hn => ?_, chain.append (.singleton _) fun x hx y hy => ?_⟩
    · simpa [ringNumbers] using room
    · obtain old | rfl := by simpa using hn
      · exact bounds n old
      · omega
    · rw [ringNumbers, List.getLast?_map] at hx
      obtain ⟨last, found, rfl⟩ := Option.mem_map.mp hx
      rw [Option.mem_def.mp found] at next
      obtain rfl : _ = y := by simpa using hy
      simpa using Eq.symm (by simpa using next)
  · exact h

theorem keepsRegister_ringCancel : ringCancel.KeepsRegister := by
  refine keepsRegister_inStates fun args s h => ?_
  split
  · rw [registerLaw_iff] at h ⊢
    obtain ⟨length, bounds, chain⟩ := h
    have numbers : ringNumbers { s with rings := s.rings.dropLast } = (ringNumbers s).dropLast := List.map_dropLast
    rw [doneWith, numbers]
    exact ⟨by simp; omega, fun n hn => bounds n (List.dropLast_subset _ hn), chain.dropLast⟩
  · exact h

theorem keepsRegister_ringRetire : ringRetire.KeepsRegister := by
  refine keepsRegister_inStates fun args s h => ?_
  dsimp only
  repeat' split
  · exact h
  · exact h
  · exact h
  · exact h
  · rw [registerLaw_iff] at h ⊢
    obtain ⟨length, bounds, chain⟩ := h
    have numbers : ringNumbers { s with rings := s.rings.tail } = (ringNumbers s).tail := List.map_tail
    rw [doneWith, numbers]
    exact ⟨by simp; omega, fun n hn => bounds n (List.mem_of_mem_tail hn), chain.tail⟩

/-! ### The owners of everything else keep every number -/

/-- However its request turns out, the owner keeps the numbers of the register. -/
def Handler.KeepsNumbers (f : Handler) : Prop :=
  ∀ (args : List Byte) (s : State), ringNumbers (f args s).state = ringNumbers s

theorem Handler.KeepsNumbers.register {f : Handler} (h : f.KeepsNumbers) : f.KeepsRegister :=
  fun args s hs => hs.of_numbers (h args s)

theorem keepsNumbers_inStates {ok : Cycle → Bool} {f : Handler} (h : f.KeepsNumbers) :
    (inStates ok f).KeepsNumbers := by
  intro args s
  unfold inStates
  split
  · exact h args s
  · rfl

theorem keepsNumbers_controllerReset : controllerReset.KeepsNumbers := by
  intro args s
  simp only [controllerReset, doneWith]
  exact ringNumbers_of_rings (by rw [controllerReset_kept])

theorem keepsNumbers_setParam : setParam.KeepsNumbers := by
  intro args s
  unfold setParam setGeometry emptyCheckCapture
  dsimp only
  repeat' split
  case h_3 => exact ringNumbers_congr (ledger_setTuning _ _ _ s)
  all_goals exact ringNumbers_of_rings (by simp [refuse, doneWith])

theorem keepsNumbers_setSense : setSense.KeepsNumbers := by
  refine keepsNumbers_inStates fun args s => ?_
  split
  · exact ringNumbers_takeInput _ _ _ s
  · rfl

theorem keepsNumbers_beginStroke : beginStroke.KeepsNumbers := by
  refine keepsNumbers_inStates fun args s => ?_
  repeat' split
  all_goals exact ringNumbers_of_rings (by simp [refuse, doneWith, strokeBegun])

theorem keepsNumbers_endStroke : endStroke.KeepsNumbers := by
  intro args s
  unfold endStroke
  split <;> exact ringNumbers_of_rings (by simp [refuse, doneWith])

theorem keepsNumbers_beginBuild : beginBuild.KeepsNumbers := by
  refine keepsNumbers_inStates fun args s => ?_
  repeat' split
  · rfl
  · rfl
  · rfl
  · exact ringNumbers_buildBegun s

theorem keepsNumbers_enterIntervention : enterIntervention.KeepsNumbers := by
  refine keepsNumbers_inStates fun args s => ?_
  split <;> exact ringNumbers_of_rings (by simp [refuse, doneWith])

theorem keepsNumbers_leaveIntervention : leaveIntervention.KeepsNumbers := by
  refine keepsNumbers_inStates fun args s => ?_
  split <;> exact ringNumbers_of_rings (by simp [refuse, doneWith])

theorem keepsNumbers_clearTrip : clearTrip.KeepsNumbers := by
  refine keepsNumbers_inStates fun args s => ?_
  have ended : (if s.stroke.state = .opened then endStrokeWith .trip s else s).rings = s.rings := by
    split <;> simp
  split
  · rfl
  · exact ringNumbers_of_rings (by simp [doneWith, tripCleared, ended])

theorem keepsNumbers_toolLoad : toolLoad.KeepsNumbers := by
  refine keepsNumbers_inStates fun args s => ?_
  dsimp only
  repeat' split
  all_goals exact ringNumbers_of_rings (by simp [refuse, doneWith, loadAtPointer])

theorem keepsNumbers_toolRead : toolRead.KeepsNumbers := by
  intro args s
  unfold toolRead
  split <;> exact ringNumbers_of_rings (by simp [refuse, doneWith, onRecord])

theorem keepsNumbers_toolAmend : toolAmend.KeepsNumbers := by
  refine fun args s => keepsNumbers_inStates (fun _ s => ?_) args s
  unfold onRecord
  dsimp only
  repeat' split
  all_goals exact ringNumbers_of_rings (by simp [refuse, doneWith])

theorem keepsNumbers_changeTool (acts : ToolFields → Bool) (change : ToolFields → ToolFields) :
    (changeTool acts change).KeepsNumbers := by
  refine keepsNumbers_inStates fun args s => ?_
  unfold onRecord
  dsimp only
  repeat' split
  all_goals exact ringNumbers_of_rings (by simp [refuse, doneWith])

theorem keepsNumbers_toolFit : toolFit.KeepsNumbers := by
  refine keepsNumbers_inStates fun args s => ?_
  unfold onRecord
  dsimp only
  repeat' split
  all_goals exact ringNumbers_of_rings (by simp [refuse, doneWith])

theorem keepsRegister_ownerOf {kind : Nat} (noisy : kind ∈ ledgerKinds) : (ownerOf kind).KeepsRegister := by
  simp only [ledgerKinds, List.mem_cons, List.not_mem_nil, or_false] at noisy
  rcases noisy with rfl | rfl | rfl | rfl | rfl | rfl | rfl | rfl | rfl | rfl | rfl | rfl | rfl | rfl | rfl | rfl |
    rfl | rfl | rfl
  · exact keepsNumbers_controllerReset.register
  · exact keepsNumbers_setParam.register
  · exact keepsNumbers_setSense.register
  · exact keepsNumbers_beginStroke.register
  · exact keepsNumbers_endStroke.register
  · exact keepsNumbers_beginBuild.register
  · exact keepsNumbers_enterIntervention.register
  · exact keepsNumbers_leaveIntervention.register
  · exact keepsNumbers_clearTrip.register
  · exact keepsNumbers_toolLoad.register
  · exact keepsNumbers_toolRead.register
  · exact keepsNumbers_toolAmend.register
  · exact (keepsNumbers_changeTool _ _).register
  · exact (keepsNumbers_changeTool _ _).register
  · exact keepsNumbers_toolFit.register
  · exact (keepsNumbers_changeTool _ _).register
  · exact keepsRegister_ringPlan
  · exact keepsRegister_ringCancel
  · exact keepsRegister_ringRetire

/-- All that can change the ledger keeps the register in sequence. -/
theorem registerSteps : LedgerSteps RegisterLaw RegisterLaw where
  congr := fun same h => h.of_numbers (ringNumbers_congr same)
  enter := id
  front := fun _ h => h
  owner := fun args noisy h => keepsRegister_ownerOf noisy args _ h
  reset := fun lines s =>
    reset_registerLaw.of_numbers (ringNumbers_of_rings (by simp [powerOnReset, State.reset, State.powerOn]))
  fault := fun _ h => h
  sample := fun c v h => registerSamples.arrive c v h
  input := fun i level h => h.of_numbers (ringNumbers_takeInput i _ _ _)

/-- Settles O58: the two laws over all that can change the ledger. -/
theorem buildKept : Obligations.BuildKept :=
  ⟨fun _ _ table hold build run => buildSteps.step ⟨table, hold, build⟩ run,
    fun _ _ register run => registerSteps.step register run⟩

end Sys2Proof.Machine

/-! ## Requests of one cycle state (R6) -/

namespace Sys2Proof.Machine

/-- In the one state its owner takes it, a request is carried out. -/
theorem inStates_at {state : Cycle} {f : Handler} {args : List Byte} {s : State} (h : s.cycle = state) :
    inStates (· == state) f args s = f args s := inStates_true (ok := (· == state)) (by simp [h])

/-- In any other it is refused WRONG_STATE. -/
theorem inStates_away {state : Cycle} {f : Handler} {args : List Byte} {s : State} (h : s.cycle ≠ state) :
    inStates (· == state) f args s = ⟨s, .wrongState, []⟩ := inStates_false (ok := (· == state)) (by simp [h])

end Sys2Proof.Machine

/-! ## What a change of the cycle leaves (R35, R38, R93, R162) -/

namespace Sys2Proof.Machine

/-! ### The balance taken again -/

/-- A stopped screw is not moved when the balance is taken again. -/
theorem balanceTaken_stopped {s : State} (h : screwRunning s = false) (before : Bool) : balanceTaken before s = s := by
  unfold balanceTaken screwRange
  split
  · rfl
  · rw [h]
    rfl

theorem screwRange_other {o : Fin 25} (h : o ≠ 22) (s : State) : (screwRange s).outputs[o] = s.outputs[o] := by
  unfold screwRange
  split
  · exact writeOutput_other h _ _
  · rfl

theorem balanceTaken_other {o : Fin 25} (h : o ≠ 22) (before : Bool) (s : State) :
    (balanceTaken before s).outputs[o] = s.outputs[o] := by
  unfold balanceTaken
  split
  · rfl
  · exact screwRange_other h s

/-! ### The screw's range -/

theorem overExcavation_congr {s t : State} (stroke : t.stroke = s.stroke) (params : t.params = s.params) :
    overExcavation t = overExcavation s := by
  have mass : expectedMass t = expectedMass s := by rw [expectedMass, stroke, params, expectedMass]
  have ratio : balanceRatio t = balanceRatio s := by rw [balanceRatio, mass, stroke, params, balanceRatio]
  rw [overExcavation, ratio, params, overExcavation]

theorem screwClamp_congr {s t : State} (stroke : t.stroke = s.stroke) (params : t.params = s.params) (v : Int) :
    screwClamp t v = screwClamp s v := by
  have ceiling : screwCeiling t = screwCeiling s := by
    rw [screwCeiling, overExcavation_congr stroke params, params, screwCeiling]
  rw [screwClamp, ceiling, params, screwClamp]

/-! ### The grout outputs -/

/-- The Grout Controller's part of a state that keeps it. -/
theorem GroutFollows.of_same {s t u : State} (h : GroutFollows s t) (ports : u.ports = t.ports)
    (pointer : u.pointer = t.pointer) (valve : u.outputs[(23 : Fin 25)] = t.outputs[(23 : Fin 25)])
    (pump : u.outputs[(24 : Fin 25)] = t.outputs[(24 : Fin 25)]) : GroutFollows s u := by
  rwa [GroutFollows, ports, pointer, valve, pump]

/-! ### The change -/

section changeCycle

variable (c : Cycle) (s : State)

theorem changeCycle_leaves : changeCycle c s = { s with
    cycle := c, outputs := (changeCycle c s).outputs, ports := (changeCycle c s).ports
    pointer := (changeCycle c s).pointer } := by
  rw [State.eq_iff]
  simp

/-- The words the screw and the Grout Controller do not write. -/
theorem changeCycle_word {o : Fin 25} (h : o.val < 22) :
    (changeCycle c s).outputs[o] = (deriveSetpoints (evalPermit { s with cycle := c })).outputs[o] := by
  have apart : o ≠ 22 ∧ o ≠ 23 ∧ o ≠ 24 := by
    refine ⟨?_, ?_, ?_⟩ <;> rintro rfl <;> simp at h
  obtain ⟨screw, valve, pump⟩ := apart
  rw [changeCycle, groutSettle_other valve pump, screwFollow_other screw]

theorem changeCycle_permit : (changeCycle c s).outputs[(0 : Fin 25)].value =
    if c = .boring ∧ doorOpen s = false ∧ s.blocking = 0 then 1 else 0 := by
  have due : permitDue { s with cycle := c } = true ↔ c = .boring ∧ doorOpen s = false ∧ s.blocking = 0 := by
    simp [permitDue, doorOpen, asserted, and_assoc]
  rw [changeCycle_word c s (by decide), deriveSetpoints_other (by decide), evalPermit_value]
  simp only [due]

/-- Outside BORING the permit is OFF (R38). -/
theorem changeCycle_permit_off {c : Cycle} (h : c ≠ .boring) : (changeCycle c s).outputs[(0 : Fin 25)].value = 0 := by
  rw [changeCycle_permit, if_neg fun due => h due.1]

theorem changeCycle_group (g : Fin 4) :
    (changeCycle c s).outputs[groupOutput g].value = groupSetpoint { s with cycle := c } g := by
  rw [changeCycle_word c s (by simp only [groupOutput]; omega), deriveSetpoints_group]
  simp [groupSetpoint, ceiling]

theorem changeCycle_kept {o : Fin 25} (low : 5 ≤ o.val) (high : o.val ≤ 21) :
    (changeCycle c s).outputs[o] = s.outputs[o] := by
  have permit : o ≠ 0 := by
    rintro rfl
    simp at low
  rw [changeCycle_word c s (by omega), deriveSetpoints_other (by omega), evalPermit_other permit]

theorem changeCycle_cylinder (i : Fin 16) :
    (changeCycle c s).outputs[cylinderOutput i] = s.outputs[cylinderOutput i] :=
  changeCycle_kept c s (by simp [cylinderOutput]) (by simp only [cylinderOutput]; omega)

/-- The screw stands at 0 where the cycle or the gate stops it (R162). -/
theorem changeCycle_screw_stopped (h : ¬ (c = .boring ∧ gateOpen s = true)) :
    (changeCycle c s).outputs[(22 : Fin 25)].value = 0 := by
  have stopped : screwRunning (deriveSetpoints (evalPermit { s with cycle := c })) = false := by
    simpa [screwRunning, gateOpen, asserted] using h
  rw [changeCycle, groutSettle_other (by decide) (by decide), screwFollow_stopped stopped]

/-- The speed the screw starts at where BORING begins with the gate open (R164). -/
theorem changeCycle_screw_started (rest : s.cycle ≠ .boring) (gate : gateOpen s = true) :
    (changeCycle .boring s).outputs[(22 : Fin 25)].value =
      screwClamp s (match s.screw.mode with | .auto => s.params.screwStart | .manual => s.screw.manual) := by
  have before : screwRunning s = false := by simp [screwRunning, rest]
  have running : screwRunning (deriveSetpoints (evalPermit { s with cycle := .boring })) = true := by
    simpa [screwRunning, gateOpen, asserted] using gate
  rw [changeCycle, groutSettle_other (by decide) (by decide), before, screwFollow_started running,
    screwClamp_congr (s := s) (by simp) (by simp)]
  cases mode : s.screw.mode <;> simp [mode]

end changeCycle

/-- The group setpoints where the ring is held (R93). -/
theorem groupSetpoint_held {s : State} (h : s.cycle = .standstill ∨ s.cycle = .building) (g : Fin 4) :
    groupSetpoint s g = heldPressure s := by
  obtain e | e := h <;> rw [groupSetpoint, e] <;> rfl

end Sys2Proof.Machine

/-! ## END_STROKE (R42) -/

namespace Sys2Proof.Machine

theorem endStrokeWith_leaves (cause : EndCause) (s : State) : endStrokeWith cause s = { s with
    cycle := if s.cycle = .boring then .standstill else s.cycle
    stroke := { s.stroke with state := .closed, endCause := some cause }
    latched := s.latched ||| Notice.strokeEnded.bit, outputs := (endStrokeWith cause s).outputs
    ports := (endStrokeWith cause s).ports, pointer := (endStrokeWith cause s).pointer } := by
  have latched : (endStrokeWith cause s).latched = s.latched ||| Notice.strokeEnded.bit := by
    unfold endStrokeWith
    dsimp only
    split <;> simp
  rw [State.eq_iff]
  simp [endStrokeWith_cycle, endStrokeWith_stroke, latched]

/-- The account closed and STROKE_ENDED raised, before the cycle is told. -/
def strokeClosed (cause : EndCause) (s : State) : State :=
  balanceTaken (overExcavation s) <| raise .strokeEnded
    { s with stroke := { s.stroke with state := .closed, endCause := some cause } }

theorem endStrokeWith_boring {s : State} (h : s.cycle = .boring) (cause : EndCause) :
    endStrokeWith cause s = changeCycle .standstill (strokeClosed cause s) := by
  unfold endStrokeWith
  rw [if_pos h]
  rfl

/-- Outside BORING no output, port or pointer moves with the end of an account. -/
theorem endStrokeWith_rest {s : State} (h : s.cycle ≠ .boring) (cause : EndCause) : endStrokeWith cause s = { s with
    stroke := { s.stroke with state := .closed, endCause := some cause }
    latched := s.latched ||| Notice.strokeEnded.bit } := by
  have stopped : screwRunning (raise .strokeEnded
      { s with stroke := { s.stroke with state := .closed, endCause := some cause } }) = false := by
    simp [screwRunning, h]
  unfold endStrokeWith
  dsimp only
  rw [if_neg h, balanceTaken_stopped stopped]
  rfl

/-- What the change of the cycle at the end of a stroke finds, but for the screw's word. -/
theorem strokeClosed_word {o : Fin 25} (h : o ≠ 22) (cause : EndCause) (s : State) :
    (strokeClosed cause s).outputs[o] = s.outputs[o] := balanceTaken_other h _ _

theorem endStrokeWith_boring_outputs {s : State} (h : s.cycle = .boring) (cause : EndCause) :
    (endStrokeWith cause s).outputs[(0 : Fin 25)].value = 0 ∧
    GroupsAt (endStrokeWith cause s) (fun _ => heldPressure s) ∧
    (endStrokeWith cause s).outputs[(22 : Fin 25)].value = 0 ∧
    CommandsKept s (endStrokeWith cause s) ∧
    (endStrokeWith cause s).outputs[(21 : Fin 25)] = s.outputs[(21 : Fin 25)] ∧
    GroutFollows { s with cycle := .standstill } (endStrokeWith cause s) := by
  rw [endStrokeWith_boring h]
  refine ⟨changeCycle_permit_off _ nofun, fun g => ?_, changeCycle_screw_stopped _ _ (by simp), fun i => ?_, ?_, ?_⟩
  · rw [changeCycle_group, groupSetpoint_held (.inl rfl)]
    simp [heldPressure, ceiling, strokeClosed]
  · rw [changeCycle_cylinder, strokeClosed_word (cylinderOutput_ne (by decide) i)]
  · rw [changeCycle_kept _ _ (by decide) (by decide), strokeClosed_word (by decide)]
  · exact (changeCycle_groutFollows .standstill (strokeClosed cause s)).of_alike
      (by simp [GroutAlike, strokeClosed]) (strokeClosed_word (by decide) cause s).symm
      (strokeClosed_word (by decide) cause s).symm

/-- Settles O16. -/
theorem strokeEnds : Obligations.StrokeEnds := by
  refine ⟨fun r s hargs taken => ⟨endStrokeWith .host s, ?_, ?_, ?_⟩, fun r s hargs other => ?_⟩
  · exact exec_owner rfl (by rw [hargs]; rfl) (if_pos taken)
  · conv_lhs => rw [endStrokeWith_leaves]
    obtain boring | ⟨standstill, -⟩ := taken
    · rw [if_pos boring]
    · rw [standstill]
      rfl
  · by_cases boring : s.cycle = .boring
    · obtain ⟨permit, groups, screw, commands, erector, grout⟩ := endStrokeWith_boring_outputs boring .host
      exact ⟨commands, erector, fun _ => ⟨permit, groups, screw, grout⟩,
        fun standstill => by simp [boring] at standstill⟩
    · rw [endStrokeWith_rest boring]
      exact ⟨fun _ => rfl, rfl, fun h => absurd h boring, fun _ => ⟨rfl, rfl, rfl⟩⟩
  · exact exec_owner rfl (by rw [hargs]; rfl) (if_neg other)

end Sys2Proof.Machine

/-! ## ENTER_INTERVENTION and LEAVE_INTERVENTION (R46, R47) -/

namespace Sys2Proof.Machine

theorem lockAll_allLocked (s : State) : AllLocked s (lockAll s) := fun i =>
  ⟨lockAll_command i s, lockAll_cylinder i s⟩

theorem groupOutput_low (g : Fin 4) : ¬ (5 ≤ (groupOutput g).val ∧ (groupOutput g).val ≤ 20) := by
  simp only [groupOutput]
  omega

/-- What ENTER_INTERVENTION leaves. -/
theorem interventionEntered (s : State) :
    lockAll (changeCycle .intervention s) = { s with
      cycle := .intervention, outputs := (lockAll (changeCycle .intervention s)).outputs
      cylinders := (lockAll (changeCycle .intervention s)).cylinders
      ports := (lockAll (changeCycle .intervention s)).ports
      pointer := (lockAll (changeCycle .intervention s)).pointer } ∧
    AllLocked s (lockAll (changeCycle .intervention s)) ∧
    GroupsAt (lockAll (changeCycle .intervention s)) (fun _ => 0) ∧
    (lockAll (changeCycle .intervention s)).outputs[(0 : Fin 25)].value = 0 ∧
    (lockAll (changeCycle .intervention s)).outputs[(22 : Fin 25)].value = 0 ∧
    GroutFollows { s with cycle := .intervention } (lockAll (changeCycle .intervention s)) := by
  refine ⟨?_, fun i => ?_, fun g => ?_, ?_, ?_, ?_⟩
  · rw [State.eq_iff]
    simp
  · have locked := lockAll_allLocked (changeCycle .intervention s) i
    simpa using locked
  · rw [lockAll_other (groupOutput_low g), changeCycle_group]
    rfl
  · rw [lockAll_other (by decide), changeCycle_permit_off s (c := .intervention) nofun]
  · rw [lockAll_other (by decide), changeCycle_screw_stopped _ s (by simp)]
  · exact (changeCycle_groutFollows .intervention s).of_same (by simp) (by simp) (lockAll_other (by decide) _)
      (lockAll_other (by decide) _)

theorem restState_group (s : State) (g : Fin 4) : groupSetpoint { s with cycle := restState s } g =
    if s.configured then heldPressure s else 0 := by
  unfold restState
  split
  · exact groupSetpoint_held (.inl rfl) g
  · rfl

/-! ### The requests -/

variable {s : State} {args : List Byte}

theorem enterIntervention_taken (standstill : s.cycle = .standstill) (still : headTurning s = false) :
    enterIntervention args s = ⟨lockAll (changeCycle .intervention s), .done, []⟩ := by
  rw [enterIntervention, inStates_at standstill, if_neg (by simp [still])]
  rfl

theorem enterIntervention_away (away : s.cycle ≠ .standstill) :
    enterIntervention args s = ⟨s, .wrongState, []⟩ := inStates_away away

theorem leaveIntervention_away (away : s.cycle ≠ .intervention) :
    leaveIntervention args s = ⟨s, .wrongState, []⟩ := inStates_away away

theorem enterIntervention_interlock (standstill : s.cycle = .standstill) (turning : headTurning s = true) :
    enterIntervention args s = ⟨s, .interlock, []⟩ := by
  rw [enterIntervention, inStates_at standstill, if_pos turning]
  rfl

/-- Some record is LOCKED_OUT. -/
theorem any_lockedOut (tools : Vector Tool 64) :
    (tools.toList.any fun t => t.state == .lockedOut) = true ↔ ∃ i : Fin 64, tools[i].state = .lockedOut := by
  simp only [List.any_eq_true, Vector.mem_toList_iff, Vector.mem_iff_getElem, beq_iff_eq]
  constructor
  · rintro ⟨-, ⟨i, hi, rfl⟩, locked⟩
    exact ⟨⟨i, hi⟩, locked⟩
  · rintro ⟨i, locked⟩
    exact ⟨_, ⟨i, i.isLt, rfl⟩, locked⟩

theorem leaveIntervention_taken (intervention : s.cycle = .intervention)
    (free : ∀ i : Fin 64, s.tools[i].state ≠ .lockedOut) :
    leaveIntervention args s = ⟨changeCycle (restState s) s, .done, []⟩ := by
  rw [leaveIntervention, inStates_at intervention, if_neg fun some => ?_]
  · rfl
  · obtain ⟨i, locked⟩ := (any_lockedOut _).mp some
    exact free i locked

theorem leaveIntervention_interlock (intervention : s.cycle = .intervention) {i : Fin 64}
    (locked : s.tools[i].state = .lockedOut) : leaveIntervention args s = ⟨s, .interlock, []⟩ := by
  rw [leaveIntervention, inStates_at intervention, if_pos ((any_lockedOut _).mpr ⟨i, locked⟩)]
  rfl

end Sys2Proof.Machine

namespace Sys2Proof.Machine

/-- Settles O18. -/
theorem interventions : Obligations.Interventions := by
  refine ⟨fun r s hargs standstill still => ⟨_, exec_owner rfl (by rw [hargs]; rfl)
      (enterIntervention_taken standstill still), interventionEntered s⟩,
    fun r s hargs standstill turning => exec_owner rfl (by rw [hargs]; rfl)
      (enterIntervention_interlock standstill turning),
    fun r s hargs intervention free => ⟨changeCycle (restState s) s, exec_owner rfl (by rw [hargs]; rfl)
      (leaveIntervention_taken intervention free), changeCycle_leaves _ s, fun i => changeCycle_cylinder _ s i,
      fun g => ?_, ?_⟩,
    fun r i s hargs intervention locked => exec_owner rfl (by rw [hargs]; rfl)
      (leaveIntervention_interlock intervention locked),
    fun r s hargs => ⟨fun away => exec_owner rfl (by rw [hargs]; rfl) (enterIntervention_away away),
      fun away => exec_owner rfl (by rw [hargs]; rfl) (leaveIntervention_away away)⟩⟩
  · rw [changeCycle_group, restState_group]
  · rw [changeCycle_cycle]
    exact changeCycle_groutFollows _ s

end Sys2Proof.Machine

/-! ## CLEAR_TRIP (R51) -/

namespace Sys2Proof.Machine

/-- What the change of the cycle on CLEAR_TRIP finds: the account closed, the causes forgotten. -/
def tripForgotten (s : State) : State := { s with
  tripCause := none, furtherCauses := false
  stroke := if s.stroke.state = .opened then { s.stroke with state := .closed, endCause := some .trip } else s.stroke
  latched := if s.stroke.state = .opened then s.latched ||| Notice.strokeEnded.bit else s.latched }

theorem tripCleared_eq {s : State} (h : s.cycle = .tripped) :
    tripCleared s = changeCycle (workState s) (tripForgotten s) := by
  unfold tripCleared tripForgotten
  dsimp only
  split
  · rw [endStrokeWith_rest (by simp [h])]
  · rfl

theorem workState_eq (s : State) : workState s =
    if s.rings.any (fun x => x.state == .building) then .building
    else if s.configured then .standstill else .unconfigured := by
  have found : (buildingRing s).isSome = s.rings.any fun x => x.state == .building := by
    rw [Bool.eq_iff_iff, buildingRing, List.find?_isSome, List.any_eq_true]
  rw [workState, found]
  rfl

theorem workState_group (s : State) (g : Fin 4) : groupSetpoint { s with cycle := workState s } g =
    if workState s = .unconfigured then 0 else heldPressure s := by
  rw [workState_eq]
  repeat' split
  all_goals simp_all [groupSetpoint, heldPressure, ceiling]

theorem workState_ne_boring (s : State) : workState s ≠ .boring := by
  rw [workState_eq]
  repeat' split
  all_goals nofun

/-! ### The request -/

variable {s : State} {args : List Byte}

theorem clearTrip_away (away : s.cycle ≠ .tripped) : clearTrip args s = ⟨s, .wrongState, []⟩ := inStates_away away

theorem clearTrip_interlock (tripped : s.cycle = .tripped) (stop : stopAsserted s = true) :
    clearTrip args s = ⟨s, .interlock, []⟩ := by
  rw [clearTrip, inStates_at tripped, if_pos stop]
  rfl

theorem clearTrip_taken (tripped : s.cycle = .tripped) (free : stopAsserted s = false) :
    clearTrip args s = ⟨changeCycle (workState s) (tripForgotten s), .done, []⟩ := by
  rw [clearTrip, inStates_at tripped, if_neg (by simp [free]), doneWith, tripCleared_eq tripped]

end Sys2Proof.Machine

namespace Sys2Proof.Certificates

open Machine

/-- Settles O20. -/
theorem tripCleared : Obligations.TripCleared := by
  refine ⟨fun r s hargs tripped stop => exec_owner rfl (by rw [hargs]; rfl) (clearTrip_interlock tripped stop),
    fun r s hargs away => exec_owner rfl (by rw [hargs]; rfl) (clearTrip_away away), fun r s hargs tripped free => ?_⟩
  refine ⟨changeCycle (workState s) (tripForgotten s), exec_owner rfl (by rw [hargs]; rfl)
    (clearTrip_taken tripped free), ?_, ?_, fun opened => ?_, fun shut => ?_, fun i => ?_, ?_, fun g => ?_, ?_, ?_, ?_⟩
  · rw [State.eq_iff]
    simp [tripForgotten]
  · rw [changeCycle_cycle, workState_eq]
  · simp [tripForgotten, opened]
  · simp [tripForgotten, shut]
  · exact changeCycle_cylinder _ (tripForgotten s) i
  · exact changeCycle_kept _ (tripForgotten s) (by decide) (by decide)
  · rw [changeCycle_group, changeCycle_cycle, ← workState_group s g]
    rfl
  · rw [changeCycle_cycle]
    exact (changeCycle_groutFollows _ (tripForgotten s)).of_alike (by simp [GroutAlike, tripForgotten]) rfl rfl
  · exact changeCycle_permit_off _ (workState_ne_boring s)
  · exact changeCycle_screw_stopped _ _ fun running => workState_ne_boring s running.1

end Sys2Proof.Certificates

/-! ## BEGIN_STROKE (R40, R41) -/

namespace Sys2Proof.Machine

/-- What the change of the cycle on BEGIN_STROKE finds: the account opened, every cylinder commanded EXTEND. -/
def strokeReady (s : State) : State := extendAll { s with stroke := openedAccount s }

theorem strokeBegun_eq {s : State} (h : s.cycle = .standstill) :
    strokeBegun s = changeCycle .boring (strokeReady s) := by
  have stopped : screwRunning { s with stroke := openedAccount s } = false := by simp [screwRunning, h]
  rw [strokeBegun, balanceTaken_stopped stopped, strokeReady]

/-- No key: the register holds records, and none is CLOSED, GROUTING or GROUTED (R40). -/
theorem onlyPlannedRings_iff (s : State) : onlyPlannedRings s = true ↔
    s.rings ≠ [] ∧ ∀ x ∈ s.rings, x.state = .planned ∨ x.state = .building := by
  have open_iff (st : RingState) : st.isClosed = false ↔ st = .planned ∨ st = .building := by
    cases st <;> simp [RingState.isClosed]
  simp [onlyPlannedRings, open_iff]

theorem onlyPlannedRings_not {s : State} (h : s.rings = [] ∨ ∃ x ∈ s.rings, x.state.isClosed = true) :
    onlyPlannedRings s = false := by
  obtain empty | ⟨x, member, closed⟩ := h
  · simp [onlyPlannedRings, empty]
  · rw [onlyPlannedRings, Bool.and_eq_false_iff, List.all_eq_false]
    exact .inr ⟨x, member, by simp [closed]⟩

section requests

variable {s : State} {args : List Byte}

theorem beginStroke_away (away : s.cycle ≠ .standstill) : beginStroke args s = ⟨s, .wrongState, []⟩ :=
  inStates_away away

theorem beginStroke_interlock (standstill : s.cycle = .standstill) (h : 0 < s.blocking ∨ doorOpen s = true) :
    beginStroke args s = ⟨s, .interlock, []⟩ := by
  rw [beginStroke, inStates_at standstill, if_pos h]
  rfl

theorem beginStroke_sequence (standstill : s.cycle = .standstill) (free : s.blocking = 0) (shut : doorOpen s = false)
    (unkeyed : onlyPlannedRings s = true) : beginStroke args s = ⟨s, .sequence, []⟩ := by
  rw [beginStroke, inStates_at standstill, if_neg (by simp [free, shut]), if_pos unkeyed]
  rfl

theorem beginStroke_noRoom (standstill : s.cycle = .standstill) (free : s.blocking = 0) (shut : doorOpen s = false)
    (keyed : onlyPlannedRings s = false) (limit : referenceAtLimit s = true) :
    beginStroke args s = ⟨s, .noRoom, []⟩ := by
  rw [beginStroke, inStates_at standstill, if_neg (by simp [free, shut]), if_neg (by simp [keyed]), if_pos limit]
  rfl

theorem beginStroke_taken (standstill : s.cycle = .standstill) (free : s.blocking = 0) (shut : doorOpen s = false)
    (keyed : onlyPlannedRings s = false) (room : referenceAtLimit s = false) :
    beginStroke args s = ⟨changeCycle .boring (strokeReady s), .done, []⟩ := by
  rw [beginStroke, inStates_at standstill, if_neg (by simp [free, shut]), if_neg (by simp [keyed]),
    if_neg (by simp [room]), doneWith, strokeBegun_eq standstill]

end requests

theorem openedAccount_anew {s : State} (h : s.stroke.state.opensAnew = true) : openedAccount s = newAccount s := by
  unfold openedAccount
  cases account : s.stroke.state with
  | none => rfl
  | spent => rfl
  | opened => rw [account] at h; cases h
  | closed => rw [account] at h; cases h

/-- Settles O15. -/
theorem strokeBegins : Obligations.StrokeBegins := by
  refine ⟨fun r s hargs away => exec_owner rfl (by rw [hargs]; rfl) (beginStroke_away away),
    fun r s hargs standstill h => exec_owner rfl (by rw [hargs]; rfl) (beginStroke_interlock standstill h),
    fun r s hargs standstill free shut some planned => exec_owner rfl (by rw [hargs]; rfl)
      (beginStroke_sequence standstill free shut ((onlyPlannedRings_iff s).mpr ⟨some, planned⟩)),
    fun r s hargs standstill free shut keyed limit => exec_owner rfl (by rw [hargs]; rfl)
      (beginStroke_noRoom standstill free shut (onlyPlannedRings_not keyed) limit),
    fun r s hargs standstill free shut keyed room => ⟨changeCycle .boring (strokeReady s),
      exec_owner rfl (by rw [hargs]; rfl) (beginStroke_taken standstill free shut (onlyPlannedRings_not keyed) room),
      ?_, fun anew => ?_, fun closed => ?_, fun opened => ?_, ?_, fun g => ?_, fun i => ?_, ?_, ?_, ?_⟩⟩
  · rw [State.eq_iff]
    simp [strokeReady]
  · simp only [strokeReady, changeCycle_frame, extendAll_frame]
    rw [openedAccount_anew anew]
    rfl
  · simp [strokeReady, openedAccount, closed]
  · simp [strokeReady, openedAccount, opened]
  · rw [changeCycle_permit, if_pos]
    simpa [strokeReady, doorOpen, asserted, free] using shut
  · rw [changeCycle_group]
    simp [strokeReady, groupSetpoint, ceiling]
  · have extended := extendAll_cylinder i { s with stroke := openedAccount s }
    refine ⟨?_, ?_⟩
    · rw [command, changeCycle_cylinder]
      exact extended.1
    · simp only [changeCycle_frame, strokeReady, extended.2]
  · exact (changeCycle_groutFollows .boring (strokeReady s)).of_alike (by simp [GroutAlike, strokeReady])
      (extendAll_other (by decide) _).symm (extendAll_other (by decide) _).symm
  · rw [changeCycle_kept _ _ (by decide) (by decide)]
    exact extendAll_other (by decide) _
  · have gate : gateOpen (strokeReady s) = gateOpen s := by simp [strokeReady, gateOpen, asserted]
    split
    · next opened =>
      rw [changeCycle_screw_started _ (by simp [strokeReady, standstill]) (gate.trans opened),
        screwClamp_congr (t := changeCycle .boring (strokeReady s)) (s := strokeReady s) (by simp) (by simp)]
      cases mode : s.screw.mode <;> simp [strokeReady, mode]
    · next closed => exact changeCycle_screw_stopped _ _ fun running => closed (gate ▸ running.2)

end Sys2Proof.Machine

/-! ## BEGIN_BUILD (R44, R125, R89) -/

namespace Sys2Proof.Machine

/-- Two states alike in all that settling reads, whatever allows or forbids grouting in each. -/
def SettlesLike (s t : State) : Prop :=
  t.ports = s.ports ∧ t.pointer = s.pointer ∧ t.rotation = s.rotation ∧ t.params = s.params ∧
    t.channels[(23 : Fin 30)].fresh = s.channels[(23 : Fin 30)].fresh ∧ groutAllowed t = groutAllowed s

theorem SettlesLike.search {s t : State} (h : SettlesLike s t) :
    (search t).ports = (search s).ports ∧ (search t).pointer = (search s).pointer := by
  obtain ⟨ports, pointer, rotation, params, fresh, -⟩ := h
  have entry : searchEntry t = searchEntry s := by simp only [searchEntry, ports, pointer, rotation]
  unfold Machine.search
  rw [fresh, entry]
  repeat' split
  · simp only [setPort, ports, params, and_self]
  all_goals exact ⟨ports, pointer⟩

theorem SettlesLike.portsSettled {s t : State} (h : SettlesLike s t) :
    (portsSettled t).ports = (portsSettled s).ports ∧ (portsSettled t).pointer = (portsSettled s).pointer := by
  have searched := h.search
  obtain ⟨ports, pointer, rotation, params, fresh, allowed⟩ := h
  have ended : (endServing t).ports = (endServing s).ports := by
    unfold endServing
    rw [servingPort_congr ports]
    split
    · simp only [endShot, setPort, ports]
    · exact ports
  unfold Machine.portsSettled
  rw [allowed, servingPort_congr ports]
  repeat' split
  · exact searched
  · exact ⟨ports, pointer⟩
  · exact ⟨ended, by simpa using pointer⟩

/-- What the Grout Controller does on one state it does on one that settles like it. -/
theorem GroutFollows.of_settlesLike {s u t : State} (h : GroutFollows s t) (like : SettlesLike s u)
    (valve : u.outputs[(23 : Fin 25)] = s.outputs[(23 : Fin 25)])
    (pump : u.outputs[(24 : Fin 25)] = s.outputs[(24 : Fin 25)]) : GroutFollows u t := by
  obtain ⟨settled, moved⟩ := like.portsSettled
  obtain ⟨-, -, -, params, -⟩ := like
  rw [GroutFollows] at h ⊢
  simp only [groutSettle_ports, groutSettle_pointer, groutSettle_valve, groutSettle_pump, servingPort_congr settled,
    settled, moved, valve, pump, pumpFor, pumpRate, params] at h ⊢
  exact h

/-! ### The register -/

theorem buildFirstPlanned_oldest {older newer : List Ring} {x : Ring} (first : ∀ y ∈ older, y.state ≠ .planned)
    (planned : x.state = .planned) :
    buildFirstPlanned (older ++ x :: newer) = older ++ { x with state := .building } :: newer := by
  induction older with
  | nil => rw [List.nil_append, buildFirstPlanned, if_pos planned, List.nil_append]
  | cons y rest ih =>
    rw [List.cons_append, buildFirstPlanned, if_neg (first y List.mem_cons_self),
      ih fun z hz => first z (List.mem_cons_of_mem _ hz), List.cons_append]

/-- A PLANNED and a BUILDING ring need no grout. -/
theorem deficit_buildFirstPlanned (s : State) : deficit { s with rings := buildFirstPlanned s.rings } = deficit s := by
  have needs (rings : List Ring) : (buildFirstPlanned rings).map Ring.need = rings.map Ring.need := by
    induction rings with
    | nil => rfl
    | cons y rest ih =>
      unfold buildFirstPlanned
      split
      · next planned => simp [Ring.need, planned]
      · rw [List.map_cons, ih, List.map_cons]
  rw [deficit, needs, deficit]

theorem oldestPlanned_some {s : State} {older newer : List Ring} {x : Ring} (rings : s.rings = older ++ x :: newer)
    (first : ∀ y ∈ older, y.state ≠ .planned) (planned : x.state = .planned) : oldestPlanned s = some x := by
  rw [oldestPlanned, rings, List.find?_eq_some_iff_append]
  exact ⟨by simp [planned], older, newer, rfl, fun y hy => by simpa using first y hy⟩

theorem oldestPlanned_none {s : State} (none : ∀ y ∈ s.rings, y.state ≠ .planned) : oldestPlanned s = .none := by
  rw [oldestPlanned, List.find?_eq_none]
  exact fun y hy => by simpa using none y hy

theorem roomForRing_iff (s : State) : roomForRing s = true ↔ RoomForRing s := by
  unfold roomForRing RoomForRing
  cases s.stroke.state <;> simp

theorem roomForRing_not {s : State} (h : s.stroke.state = .opened ∨ s.stroke.state = .spent ∨
    (s.stroke.state = .closed ∧ s.stroke.advance < s.params.ringWidth.getD 0 ∧ referenceAtLimit s = false)) :
    roomForRing s = false := by
  unfold roomForRing
  obtain account | account | ⟨account, short, room⟩ := h
  · rw [account]
  · rw [account]
  · rw [account]
    simpa [room] using short

/-! ### What the change of the cycle finds -/

/-- The account SPENT and the oldest PLANNED record BUILDING (R44). -/
def ringTaken (s : State) : State := { s with stroke := accountSpent s, rings := buildFirstPlanned s.rings }

theorem buildReady_eq {s : State} (h : s.cycle = .standstill) : buildReady s =
    { commandWhere (fun i => command s i == .lock) .extend (some .advance) (ringTaken s) with
      place := { s.place with erector := .idle, current := none, interrupted := none } } := by
  have stopped : screwRunning (ringTaken s) = false := by simp [screwRunning, ringTaken, h]
  rw [buildReady, ← ringTaken, balanceTaken_stopped stopped]
  simp [ringTaken]

theorem buildReady_outputs {s : State} (h : s.cycle = .standstill) : (buildReady s).outputs =
    (commandWhere (fun i => command s i == .lock) .extend (some .advance) (ringTaken s)).outputs := by
  rw [buildReady_eq h]

theorem buildReady_cylinders {s : State} (h : s.cycle = .standstill) : (buildReady s).cylinders =
    (commandWhere (fun i => command s i == .lock) .extend (some .advance) (ringTaken s)).cylinders := by
  rw [buildReady_eq h]

theorem buildReady_locked {s : State} (h : s.cycle = .standstill) {i : Fin 16} (locked : command s i = .lock) :
    command (buildReady s) i = .extend ∧ (buildReady s).cylinders[i].owner = .advance := by
  have chosen : (command s i == .lock) = true := by simp [locked]
  rw [command, buildReady_outputs h, ← command, commandWhere_command, buildReady_cylinders h, commandWhere_cylinder,
    if_pos chosen, if_pos chosen]
  exact ⟨rfl, rfl⟩

theorem buildReady_unlocked {s : State} (h : s.cycle = .standstill) {i : Fin 16} (unlocked : command s i ≠ .lock) :
    (buildReady s).outputs[cylinderOutput i] = s.outputs[cylinderOutput i] ∧
    (buildReady s).cylinders[i] = s.cylinders[i] := by
  have other : ¬ (command s i == .lock) = true := by simp [unlocked]
  rw [buildReady_outputs h, buildReady_cylinders h, commandWhere_output, commandWhere_cylinder, if_neg other,
    if_neg other]
  exact ⟨rfl, rfl⟩

theorem buildReady_other {s : State} (h : s.cycle = .standstill) {o : Fin 25} (out : ¬ (5 ≤ o.val ∧ o.val ≤ 20)) :
    (buildReady s).outputs[o] = s.outputs[o] := by
  rw [buildReady_outputs h, commandWhere_other _ _ _ out, ringTaken]

/-- A word but the erector's, when the build has begun. -/
theorem buildBegun_word {o : Fin 25} (h : o ≠ 21) (s : State) :
    (buildBegun s).outputs[o] = (changeCycle .building (buildReady s)).outputs[o] := by
  rw [buildBegun_eq, writeOutput_other h]

theorem buildBegun_leaves {s : State} (h : s.cycle = .standstill) : buildBegun s = { s with
    cycle := .building, stroke := accountSpent s, rings := buildFirstPlanned s.rings
    place := { s.place with erector := .idle, current := none, interrupted := none }
    outputs := (buildBegun s).outputs, cylinders := (buildBegun s).cylinders, ports := (buildBegun s).ports
    pointer := (buildBegun s).pointer } := by
  rw [State.eq_iff]
  simp [buildBegun_eq, buildReady_eq h, ringTaken]

theorem buildBegun_groutFollows {s : State} (h : s.cycle = .standstill) :
    GroutFollows { s with cycle := .building } (buildBegun s) := by
  have alike : GroutAlike { buildReady s with cycle := .building }
      { s with cycle := .building, rings := buildFirstPlanned s.rings } := by simp [GroutAlike]
  have changed := (changeCycle_groutFollows .building (buildReady s)).of_alike alike
    (buildReady_other h (by decide)).symm (buildReady_other h (by decide)).symm
  have begun := changed.of_same (u := buildBegun s) (by rw [buildBegun_eq, writeOutput_ports])
    (by rw [buildBegun_eq, writeOutput_pointer]) (buildBegun_word (by decide) s) (buildBegun_word (by decide) s)
  refine begun.of_settlesLike ⟨rfl, rfl, rfl, rfl, rfl, ?_⟩ rfl rfl
  rw [groutAllowed, groutAllowed, deficit_buildFirstPlanned { s with cycle := .building }]
  rfl

/-! ### The requests -/

section requests

variable {s : State} {args : List Byte}

theorem beginBuild_away (away : s.cycle ≠ .standstill) : beginBuild args s = ⟨s, .wrongState, []⟩ :=
  inStates_away away

theorem beginBuild_noRoom (standstill : s.cycle = .standstill) (full : roomForRing s = false) :
    beginBuild args s = ⟨s, .noRoom, []⟩ := by
  rw [beginBuild, inStates_at standstill, if_pos (by simp [full])]
  rfl

theorem beginBuild_notFound (standstill : s.cycle = .standstill) (room : roomForRing s = true)
    (none : oldestPlanned s = .none) : beginBuild args s = ⟨s, .notFound, []⟩ := by
  rw [beginBuild, inStates_at standstill, if_neg (by simp [room]), none]
  rfl

theorem beginBuild_sequence {x y : Ring} (standstill : s.cycle = .standstill) (room : roomForRing s = true)
    (oldest : oldestPlanned s = some x) (newest : newestClosed s = some y) (gap : nextNumber y.number ≠ x.number) :
    beginBuild args s = ⟨s, .sequence, []⟩ := by
  rw [beginBuild, inStates_at standstill, if_neg (by simp [room]), oldest]
  exact if_pos (by simp [newest, gap])

theorem beginBuild_taken {x : Ring} (standstill : s.cycle = .standstill) (room : roomForRing s = true)
    (oldest : oldestPlanned s = some x) (sequent : ∀ y, newestClosed s = some y → nextNumber y.number = x.number) :
    beginBuild args s = ⟨buildBegun s, .done, []⟩ := by
  rw [beginBuild, inStates_at standstill, if_neg (by simp [room]), oldest]
  refine if_neg ?_
  rw [Option.any_eq_true]
  rintro ⟨y, newest, gap⟩
  simp [sequent y newest] at gap

end requests

/-- Settles O17. -/
theorem buildBegins : Obligations.BuildBegins := by
  refine ⟨fun r s older newer x hargs standstill room rings first planned sequent => ⟨buildBegun s,
      exec_owner rfl (by rw [hargs]; rfl) (beginBuild_taken standstill ((roomForRing_iff s).mpr room)
        (oldestPlanned_some rings first planned) sequent),
      ?_, ?_, fun i locked => ?_, fun i unlocked => ?_, buildBegun_groutFollows standstill, fun g => ?_, ?_, ?_, ?_⟩,
    fun r s hargs standstill full => exec_owner rfl (by rw [hargs]; rfl)
      (beginBuild_noRoom standstill (roomForRing_not full)),
    fun r s hargs standstill room none => exec_owner rfl (by rw [hargs]; rfl)
      (beginBuild_notFound standstill ((roomForRing_iff s).mpr room) (oldestPlanned_none none)),
    fun r s older newer x y hargs standstill room rings first planned newest gap => exec_owner rfl (by rw [hargs]; rfl)
      (beginBuild_sequence standstill ((roomForRing_iff s).mpr room) (oldestPlanned_some rings first planned) newest
        gap),
    fun r s hargs away => exec_owner rfl (by rw [hargs]; rfl) (beginBuild_away away)⟩
  · conv_lhs => rw [buildBegun_leaves standstill, rings, buildFirstPlanned_oldest first planned]
    rw [buildBegun_leaves standstill]
  · rw [buildBegun_leaves standstill]
    rfl
  · obtain ⟨extended, owner⟩ := buildReady_locked standstill locked
    refine ⟨?_, by simpa [buildBegun_eq] using owner⟩
    rw [command, buildBegun_word (cylinderOutput_ne (by decide) i), changeCycle_cylinder]
    exact extended
  · obtain ⟨word, record⟩ := buildReady_unlocked standstill unlocked
    rw [buildBegun_word (cylinderOutput_ne (by decide) i), changeCycle_cylinder]
    exact ⟨word, by simpa [buildBegun_eq] using record⟩
  · rw [buildBegun_word (by simp [groupOutput, Fin.ext_iff]; omega), changeCycle_group, groupSetpoint_held (.inr rfl)]
    simp [heldPressure, ceiling]
  · rw [buildBegun_word (by decide), changeCycle_permit_off _ (c := .building) nofun]
  · exact (congrArg (·.outputs[(21 : Fin 25)].value) (buildBegun_eq s)).trans (writeOutput_value_self 21 _ _)
  · rw [buildBegun_word (by decide), changeCycle_screw_stopped _ _ (by simp)]

end Sys2Proof.Machine

/-! ## OVER_THRUST (R48 to R50) -/

namespace Sys2Proof.Machine

theorem takeSample_leaves (c : Fin 30) (v : Nat) (s : State) :
    takeSample c v s = { s with channels := (takeSample c v s).channels } := rfl

/-- A group pressure goes to the Thrust Controller (R22). -/
theorem exec_groupPressure {c : Fin 30} (low : 16 ≤ c.val) (high : c.val ≤ 19) (v : Word16) (s : State) :
    exec (.sampleArrival c v) s = .next (groupPressureSample (min v.toNat 45000) (takeSample c v.toNat s)) := by
  have top : upperEnd c = 45000 := by rw [upperEnd, if_neg (by omega), if_pos (by omega)]
  show Host.Outcome.next (arrive c v.toNat s) = _
  rw [arrive, top, deliver, dif_neg (by omega), if_pos (by omega)]

theorem groupPressureSample_over {v : Nat} {s : State} (h : s.params.pMax + s.params.pMax / 10 < v) :
    groupPressureSample v s = trip .overThrust s := if_pos h

theorem groupPressureSample_within {v : Nat} {s : State} (h : v ≤ s.params.pMax + s.params.pMax / 10) :
    groupPressureSample v s = s := if_neg (Nat.not_lt.mpr h)

/-- A trip raises BUILD_ABORTED for a placement under way, and nothing for another (R139). -/
theorem trip_latched {s : State} (h : s.cycle ≠ .tripped) (cause : TripCause) : (trip cause s).latched =
    if s.place.erector.underWay then s.latched ||| Notice.buildAborted.bit else s.latched := by
  rw [trip_eq h, placementOnTrip]
  simp only [trippedBlocks_frame]
  cases s.place.erector with
  | idle => simp [Erector.underWay]
  | working st => simpa [Erector.underWay] using haltPlacement_latched st (trippedBlocks cause s)
  | halted => simp [Erector.underWay]

/-- What is said of a cause taken is said of the state before a sample's record too. -/
theorem TripTaken.of_takeSample {cause : TripCause} {c : Fin 30} {v : Nat} {s t : State}
    (h : TripTaken cause (takeSample c v s) t) : TripTaken cause s t :=
  h.of_before rfl rfl rfl rfl rfl rfl rfl

/-- Settles O19. -/
theorem overThrustTrips : Obligations.OverThrustTrips := by
  refine ⟨fun c v s low high above working law => ?_, fun c v s low high above tripped => ?_,
    fun c v s low high within => ⟨takeSample c v.toNat s, ?_, takeSample_leaves c v.toNat s⟩⟩
  · obtain ⟨one, -, -⟩ := law
    have untripped : (takeSample c v.toNat s).cycle ≠ .tripped := working
    obtain ⟨cycle, tripCause, -, permit, groups, locked, screw, ⟨halted, idle, stopped⟩, grout⟩ :=
      (trip_taken untripped .overThrust).of_takeSample
    obtain ⟨-, valve, pump, ports⟩ := grout one
    have latched := trip_latched untripped .overThrust
    rw [show (takeSample c v.toNat s).place = s.place from rfl,
      show (takeSample c v.toNat s).latched = s.latched from rfl] at latched
    refine ⟨trip .overThrust (takeSample c v.toNat s), ?_, ?_, permit, groups, locked, screw, valve, pump, fun p => ?_,
      fun st under => ?_, fun rest => ?_, fun rest => ?_⟩
    · rw [exec_groupPressure low high, groupPressureSample_over (s := takeSample c v.toNat s) above]
    · conv_lhs => rw [trip_leaves untripped, cycle, tripCause]
      simp
    · rw [ports p]
      split <;> rfl
    · obtain ⟨place, -, erector⟩ := halted st under
      rw [latched, under, place]
      exact ⟨rfl, rfl, rfl, erector, rfl⟩
    · obtain ⟨place, feed, erector⟩ := idle rest
      rw [latched, rest]
      exact ⟨place, feed, rfl, erector⟩
    · obtain ⟨place, feed, erector⟩ := stopped rest
      rw [latched, rest]
      exact ⟨place, feed, rfl, erector⟩
  · refine ⟨{ takeSample c v.toNat s with furtherCauses := true }, ?_, rfl⟩
    rw [exec_groupPressure low high, groupPressureSample_over (s := takeSample c v.toNat s) above,
      trip_further (s := takeSample c v.toNat s) tripped]
  · rw [exec_groupPressure low high, groupPressureSample_within (s := takeSample c v.toNat s) within]

end Sys2Proof.Machine

/-! ## What a written record changes (R38, R56, R58, R59, R93) -/

namespace Sys2Proof.Machine

/-- A word that is neither the permit's nor a group's. -/
theorem word_apart {o : Fin 25} (h : o.val ∉ [0, 1, 2, 3, 4]) : o ≠ 0 ∧ ¬ (1 ≤ o.val ∧ o.val ≤ 4) := by
  simp only [List.mem_cons, List.not_mem_nil, or_false, not_or] at h
  exact ⟨fun e => h.1 (by simp [e]), by omega⟩

theorem groupOutput_ne_permit (g : Fin 4) : groupOutput g ≠ 0 := by
  intro same
  have value := congrArg Fin.val same
  simp only [groupOutput] at value
  omega

/-- What follows the gauge-worn flag is a matter of the flag, the group words and what they are derived from. -/
theorem GroupsFollow.congr {s s' t t' : State} (h : GroupsFollow s t) (flag : s'.gaugeWorn = s.gaugeWorn)
    (words : ∀ g, s'.outputs[groupOutput g] = s.outputs[groupOutput g]) (flag' : t'.gaugeWorn = t.gaugeWorn)
    (words' : ∀ g, t'.outputs[groupOutput g] = t.outputs[groupOutput g]) (cycle : t'.cycle = t.cycle)
    (quadrants : t'.quadrants = t.quadrants) (params : t'.params = t.params) : GroupsFollow s' t' := by
  have top : ceiling t' = ceiling t := by rw [ceiling, flag', params, ceiling]
  simpa only [GroupsFollow, GroupsAt, heldPressure, flag, words, flag', words', cycle, quadrants, params, top] using h

section evalGaugeWorn

variable (s : State)

theorem evalGaugeWorn_groupsFollow : GroupsFollow s (evalGaugeWorn s) := by
  unfold evalGaugeWorn
  dsimp only
  split
  · exact ⟨fun _ _ => rfl, fun changed => absurd rfl changed⟩
  · next changed =>
    refine ⟨fun same => absurd (by simpa using same) changed, fun _ g => ?_⟩
    rw [deriveSetpoints_group, groupSetpoint, deriveSetpoints_cycle]
    cases s.cycle <;> simp [ceiling, heldPressure]

theorem evalGaugeWorn_other {o : Fin 25} (h : ¬ (1 ≤ o.val ∧ o.val ≤ 4)) :
    (evalGaugeWorn s).outputs[o] = s.outputs[o] := by
  unfold evalGaugeWorn
  dsimp only
  split
  · rfl
  · exact deriveSetpoints_other h _

theorem wearNotices_latched (a b : ToolState) : (wearNotices a b s).latched =
    if b = .worn ∧ a ≠ .worn then s.latched ||| Notice.toolWorn.bit
    else if b = .watch ∧ a ≠ .watch ∧ a ≠ .worn then s.latched ||| Notice.toolWatch.bit else s.latched := by
  unfold wearNotices
  repeat' split
  all_goals simp

end evalGaugeWorn

section recordCounted

variable (i : Fin 64) (old : ToolFields) (s : State)

/-- The state the permit is judged in. -/
def recordTallied : State := evalGaugeWorn (summarise (wearNotices old.state s.tools[i].state s))

theorem recordTallied_word {o : Fin 25} (h : ¬ (1 ≤ o.val ∧ o.val ≤ 4)) :
    (recordTallied i old s).outputs[o] = s.outputs[o] := by
  rw [recordTallied, evalGaugeWorn_other _ h]
  simp [summarise]

theorem recordCounted_eq : recordCounted i old s =
    if old.state.blocks = s.tools[i].state.blocks then recordTallied i old s
    else evalPermit (recordTallied i old s) := rfl

theorem recordCounted_latched :
    (recordCounted i old s).latched = (wearNotices old.state s.tools[i].state s).latched := by
  rw [recordCounted_eq]
  split <;> simp [recordTallied, summarise]

theorem recordCounted_groupWord (g : Fin 4) :
    (recordCounted i old s).outputs[groupOutput g] = (recordTallied i old s).outputs[groupOutput g] := by
  rw [recordCounted_eq]
  split
  · rfl
  · exact evalPermit_other (groupOutput_ne_permit g) _

/-- The group setpoints follow the gauge-worn flag (R59, R93). -/
theorem recordCounted_groupsFollow : GroupsFollow s (recordCounted i old s) := by
  have followed := evalGaugeWorn_groupsFollow (summarise (wearNotices old.state s.tools[i].state s))
  exact followed.congr (by simp [summarise]) (fun g => by simp [summarise])
    (by rw [← recordTallied, recordCounted_eq]; split <;> simp) (recordCounted_groupWord i old s)
    (by simp [summarise]) (by simp [summarise]) (by simp [summarise])

theorem recordCounted_keeps : OutputsKeptBut [0, 1, 2, 3, 4] s (recordCounted i old s) := by
  intro o ho
  obtain ⟨permit, group⟩ := word_apart ho
  rw [recordCounted_eq]
  split
  · exact recordTallied_word i old s group
  · rw [evalPermit_other permit, recordTallied_word i old s group]

/-- Outside BORING the permit goes OFF where the record comes to withhold it or ceases to; elsewhere it stands (R38). -/
theorem recordCounted_permit (away : s.cycle ≠ .boring) : if old.state.blocks = s.tools[i].state.blocks
    then (recordCounted i old s).outputs[(0 : Fin 25)] = s.outputs[(0 : Fin 25)]
    else (recordCounted i old s).outputs[(0 : Fin 25)].value = 0 := by
  rw [recordCounted_eq]
  split
  · exact recordTallied_word i old s (by decide)
  · rw [evalPermit_value, if_neg]
    simp [permitDue, recordTallied, summarise, away]

end recordCounted

/-- What TOOL_LOAD and the tool changes write changes what the summary needs (R58, R59). -/
def recordWritten (i : Fin 64) (x : ToolFields) (s : State) : State :=
  recordCounted i s.tools[i].toToolFields (storeTool i x s)

theorem stored_record (i : Fin 64) (x : ToolFields) (s : State) : (storeTool i x s).tools[i].toToolFields = x := by
  simp [Tool.fresh]

theorem putTool_eq (i : Fin 64) (x : ToolFields) (s : State) : putTool i x s =
    if (s.tools[i].state = .absent) = (x.state = .absent) then recordWritten i x s
    else evalConfigured (recordWritten i x s) := by
  rw [putTool, toolChanged_eq, stored_record]
  rfl

section recordWritten

variable (i : Fin 64) (x : ToolFields) (s : State)

theorem recordWritten_leaves : recordWritten i x s = { s with
    tools := s.tools.set i (Tool.fresh x), latched := (recordWritten i x s).latched
    blocking := countBlocking (s.tools.set i (Tool.fresh x)), positions := countPositions (s.tools.set i (Tool.fresh x))
    gaugeWorn := anyGaugeWorn (s.tools.set i (Tool.fresh x)), outputs := (recordWritten i x s).outputs } := by
  rw [State.eq_iff]
  simp [recordWritten]

theorem recordWritten_latched : (recordWritten i x s).latched =
    if x.state = .worn ∧ s.tools[i].state ≠ .worn then s.latched ||| Notice.toolWorn.bit
    else if x.state = .watch ∧ s.tools[i].state ≠ .watch ∧ s.tools[i].state ≠ .worn then
      s.latched ||| Notice.toolWatch.bit
    else s.latched := by
  rw [recordWritten, recordCounted_latched, wearNotices_latched, stored_record]
  rfl

theorem recordWritten_groupsFollow : GroupsFollow s (recordWritten i x s) :=
  (recordCounted_groupsFollow i s.tools[i].toToolFields (storeTool i x s)).congr rfl (fun _ => rfl) rfl (fun _ => rfl)
    rfl rfl rfl

theorem recordWritten_keeps : OutputsKeptBut [0, 1, 2, 3, 4] s (recordWritten i x s) :=
  recordCounted_keeps i s.tools[i].toToolFields (storeTool i x s)

theorem recordWritten_permit (away : s.cycle ≠ .boring) : if s.tools[i].state.blocks = x.state.blocks
    then (recordWritten i x s).outputs[(0 : Fin 25)] = s.outputs[(0 : Fin 25)]
    else (recordWritten i x s).outputs[(0 : Fin 25)].value = 0 := by
  have permit := recordCounted_permit i s.tools[i].toToolFields (storeTool i x s) away
  rwa [stored_record] at permit

end recordWritten

end Sys2Proof.Machine

/-! ## The tool changes (R68 to R71) -/

namespace Sys2Proof.Machine

theorem indexArg_val {n : Nat} (i : Fin n) : indexArg n i.val = some i := dif_pos i.isLt

/-- A read of a sound record changes nothing (R72). -/
theorem readTool_sound {s : State} {i : Fin 64} (sound : s.tools[i].damaged = false) : readTool i s = s := by
  rw [readTool, if_neg (by rw [sound]; decide)]

theorem onRecord_sound {s : State} {i : Fin 64} (sound : s.tools[i].damaged = false)
    (judge : ToolFields → State → Taken) : onRecord i judge s = judge s.tools[i].toToolFields s := by
  rw [onRecord, readTool_sound sound]

theorem readOthers_sound {s : State} {i : Fin 64} (sound : OthersSound i s) : readOthers i s = s := by
  have kept (l : List (Fin 64)) : l.foldl (fun t j => if j = i then t else readTool j t) s = s := by
    induction l with
    | nil => rfl
    | cons j l ih =>
      rw [List.foldl_cons]
      split
      · exact ih
      · next other => rw [readTool_sound (sound j other), ih]
  exact kept _

theorem serialHeld_iff (i : Fin 64) (serial : Nat) (s : State) :
    serialHeld i serial s = true ↔ ∃ j : Fin 64, j ≠ i ∧ s.tools[j].serial = some serial := by
  simp [serialHeld]

theorem serialHeld_eq_false (i : Fin 64) (serial : Nat) (s : State) :
    serialHeld i serial s = false ↔ SerialFree i serial s := by
  rw [← Bool.not_eq_true, serialHeld_iff]
  simp [SerialFree]

theorem putTool_counted {i : Fin 64} {x : ToolFields} {s : State} (held : s.tools[i].state ≠ .absent)
    (stays : x.state ≠ .absent) : putTool i x s = recordWritten i x s := by
  rw [putTool_eq, if_pos (propext (iff_of_false held stays))]

/-- A record of INTERVENTION written; WATCH is come to from LOCKED_OUT alone. -/
theorem recordWritten_changed {i : Fin 64} {x : ToolFields} {s : State} (intervention : s.cycle = .intervention)
    (released : x.state = .watch → s.tools[i].state = .lockedOut) :
    (recordWritten i x s).tools = s.tools.set i (Tool.fresh x) ∧
    (recordWritten i x s).latched = (if x.state = .worn ∧ s.tools[i].state ≠ .worn then
        s.latched ||| Notice.toolWorn.bit
      else if x.state = .watch ∧ s.tools[i].state = .lockedOut then s.latched ||| Notice.toolWatch.bit
      else s.latched) ∧
    (recordWritten i x s).gaugeWorn = anyGaugeWorn (recordWritten i x s).tools ∧
    recordWritten i x s = { s with
      tools := (recordWritten i x s).tools, latched := (recordWritten i x s).latched
      blocking := countBlocking (recordWritten i x s).tools, positions := countPositions (recordWritten i x s).tools
      gaugeWorn := (recordWritten i x s).gaugeWorn, outputs := (recordWritten i x s).outputs } ∧
    OutputsKeptBut [0, 1, 2, 3, 4] s (recordWritten i x s) ∧ GroupsFollow s (recordWritten i x s) ∧
    (if s.tools[i].state.blocks = x.state.blocks
      then (recordWritten i x s).outputs[(0 : Fin 25)] = s.outputs[(0 : Fin 25)]
      else (recordWritten i x s).outputs[(0 : Fin 25)].value = 0) := by
  have tools : (recordWritten i x s).tools = s.tools.set i (Tool.fresh x) := by rw [recordWritten_leaves]
  have worn : (recordWritten i x s).gaugeWorn = anyGaugeWorn (s.tools.set i (Tool.fresh x)) := by
    rw [recordWritten_leaves]
  have watched : (x.state = .watch ∧ s.tools[i].state ≠ .watch ∧ s.tools[i].state ≠ .worn) ↔
      (x.state = .watch ∧ s.tools[i].state = .lockedOut) :=
    and_congr_right fun watch => by rw [released watch]; decide
  refine ⟨tools, ?_, by rw [tools, worn], ?_, recordWritten_keeps i x s, recordWritten_groupsFollow i x s,
    recordWritten_permit i x s (by simp [intervention])⟩
  · rw [recordWritten_latched]
    simp only [watched]
  · conv_lhs => rw [recordWritten_leaves]
    rw [tools, worn]

/-! ### The requests -/

section requests

variable {s : State} {args : List Byte} {acts : ToolFields → Bool} {change : ToolFields → ToolFields} {i : Fin 64}

theorem changeTool_away (away : s.cycle ≠ .intervention) : changeTool acts change args s = ⟨s, .wrongState, []⟩ :=
  inStates_away away

theorem changeTool_badArgument (intervention : s.cycle = .intervention) (above : 63 < field args 0 1) :
    changeTool acts change args s = ⟨s, .badArgument, []⟩ := by
  refine (inStates_at intervention).trans ?_
  rw [indexArg_above above]
  rfl

theorem changeTool_judged (intervention : s.cycle = .intervention) (index : field args 0 1 = i.val)
    (sound : s.tools[i].damaged = false) : changeTool acts change args s =
      if acts s.tools[i].toToolFields then ⟨putTool i (change s.tools[i].toToolFields) s, .done, []⟩
      else ⟨s, .wrongState, []⟩ := by
  refine (inStates_at intervention).trans ?_
  rw [index, indexArg_val]
  exact onRecord_sound sound _

theorem toolFit_away (away : s.cycle ≠ .intervention) : toolFit args s = ⟨s, .wrongState, []⟩ :=
  inStates_away away

theorem toolFit_badArgument (intervention : s.cycle = .intervention)
    (bad : 63 < field args 0 1 ∨ field args 1 3 = 0) : toolFit args s = ⟨s, .badArgument, []⟩ := by
  refine (inStates_at intervention).trans ?_
  obtain above | none := bad
  · rw [indexArg_above above]
    rfl
  · cases indexArg 64 (field args 0 1) with
    | none => rfl
    | some i => exact if_pos none

/-- The record with the new tool of TOOL_FIT (R70). -/
def toolFitted (args : List Byte) (x : ToolFields) : ToolFields :=
  { x with serial := some (field args 1 3), fittedAt := optionalArg (field args 4 2), duty := 0, remainder := 0 }

/-- The record judged, before the duplicate search (R70). -/
theorem toolFit_judged (intervention : s.cycle = .intervention) (index : field args 0 1 = i.val)
    (serial : field args 1 3 ≠ 0) (sound : s.tools[i].damaged = false) : toolFit args s =
      if s.tools[i].state = .lockedOut ∧ ¬ s.tools[i].present then
        if serialHeld i (field args 1 3) (readOthers i s) then ⟨readOthers i s, .duplicate, []⟩
        else ⟨putTool i (toolFitted args s.tools[i].toToolFields) (readOthers i s), .done, []⟩
      else ⟨s, .wrongState, []⟩ := by
  refine (inStates_at intervention).trans ?_
  rw [index, indexArg_val]
  exact (if_neg serial).trans (onRecord_sound sound _)

theorem changeTool_taken (intervention : s.cycle = .intervention) (index : field args 0 1 = i.val)
    (sound : s.tools[i].damaged = false) (act : acts s.tools[i].toToolFields = true)
    (held : s.tools[i].state ≠ .absent) (stays : (change s.tools[i].toToolFields).state ≠ .absent) :
    changeTool acts change args s = ⟨recordWritten i (change s.tools[i].toToolFields) s, .done, []⟩ := by
  rw [changeTool_judged intervention index sound, if_pos act, putTool_counted held stays]

theorem changeTool_wrongState (intervention : s.cycle = .intervention) (index : field args 0 1 = i.val)
    (sound : s.tools[i].damaged = false) (idle : acts s.tools[i].toToolFields = false) :
    changeTool acts change args s = ⟨s, .wrongState, []⟩ := by
  rw [changeTool_judged intervention index sound, idle]
  rfl

theorem toolFit_wrongState (intervention : s.cycle = .intervention) (index : field args 0 1 = i.val)
    (serial : field args 1 3 ≠ 0) (sound : s.tools[i].damaged = false)
    (other : s.tools[i].state ≠ .lockedOut ∨ s.tools[i].serial.isSome = true) :
    toolFit args s = ⟨s, .wrongState, []⟩ := by
  rw [toolFit_judged intervention index serial sound, if_neg]
  rintro ⟨out, none⟩
  obtain state | tool := other
  · exact state out
  · exact none tool

theorem toolFit_duplicate (intervention : s.cycle = .intervention) (index : field args 0 1 = i.val)
    (serial : field args 1 3 ≠ 0) (sound : ∀ j : Fin 64, s.tools[j].damaged = false)
    (out : s.tools[i].state = .lockedOut) (none : s.tools[i].serial = none)
    (taken : ¬ SerialFree i (field args 1 3) s) : toolFit args s = ⟨s, .duplicate, []⟩ := by
  have held : serialHeld i (field args 1 3) s = true := by
    rw [← Bool.not_eq_false, serialHeld_eq_false]
    exact taken
  have bare : ¬ s.tools[i].present = true := by rw [ToolFields.present, none]; decide
  rw [toolFit_judged intervention index serial (sound i), if_pos ⟨out, bare⟩, readOthers_sound fun j _ => sound j,
    if_pos held]

theorem toolFit_taken (intervention : s.cycle = .intervention) (index : field args 0 1 = i.val)
    (serial : field args 1 3 ≠ 0) (sound : ∀ j : Fin 64, s.tools[j].damaged = false)
    (out : s.tools[i].state = .lockedOut) (none : s.tools[i].serial = none)
    (free : SerialFree i (field args 1 3) s) : toolFit args s =
      ⟨recordWritten i (toolFitted args s.tools[i].toToolFields) s, .done, []⟩ := by
  have bare : ¬ s.tools[i].present = true := by rw [ToolFields.present, none]; decide
  have held : s.tools[i].state ≠ .absent := by rw [out]; decide
  rw [toolFit_judged intervention index serial (sound i), if_pos ⟨out, bare⟩, readOthers_sound fun j _ => sound j,
    (serialHeld_eq_false _ _ _).mpr free, if_neg (by decide),
    putTool_counted (x := toolFitted args s.tools[i].toToolFields) held held]

end requests

end Sys2Proof.Machine

namespace Sys2Proof.Certificates

open Machine

/-- Settles O26. -/
theorem toolChanged : Obligations.ToolChanged := by
  have position {r : Request} {b : Byte} {i : Fin 64} (hargs : r.args = [b]) (index : b.toNat = i.val) :
      field r.args 0 1 = i.val := by rw [hargs, field_single, index]
  refine ⟨fun r b i s hargs index intervention sound => ⟨fun held => ?_, fun out tool => ?_, fun out => ?_⟩,
    fun r i s len index serial intervention sound out none => ⟨fun free => ?_, fun taken =>
      exec_owner rfl (by rw [len]; rfl) (toolFit_duplicate intervention index serial sound out none taken)⟩,
    fun r b i s hargs index intervention sound => ?_,
    fun r i s len index serial intervention sound other =>
      exec_owner rfl (by rw [len]; rfl) (toolFit_wrongState intervention index serial sound other),
    fun r s intervention => ⟨fun len above => ?_, fun len bad =>
      exec_owner rfl (by rw [len]; rfl) (toolFit_badArgument intervention bad)⟩,
    fun r s away => ⟨fun len => ?_, fun len => exec_owner rfl (by rw [len]; rfl) (toolFit_away away)⟩⟩
  · have there : s.tools[i].state ≠ .absent := by
      rintro absent
      simp only [absent, reduceCtorEq, or_self] at held
    refine ⟨_, exec_owner rfl (by rw [hargs]; rfl) (changeTool_taken intervention (position hargs index) sound ?_ there
      nofun), _, rfl, recordWritten_changed intervention nofun⟩
    simpa [or_assoc] using held
  · have there : s.tools[i].state ≠ .absent := by rw [out]; decide
    refine ⟨_, exec_owner rfl (by rw [hargs]; rfl) (changeTool_taken intervention (position hargs index) sound ?_ there
      there), _, rfl, recordWritten_changed intervention fun _ => out⟩
    rw [out, ToolFields.present, tool]
    rfl
  · have there : s.tools[i].state ≠ .absent := by rw [out]; decide
    refine ⟨_, exec_owner rfl (by rw [hargs]; rfl) (changeTool_taken intervention (position hargs index) sound
      (by rw [out]; rfl) there ?_), _, rfl, recordWritten_changed intervention fun _ => out⟩
    dsimp only
    split
    · exact wearState_ne_absent _ _ _
    · decide
  · exact ⟨_, exec_owner rfl (by rw [len]; rfl) (toolFit_taken intervention index serial sound out none free), _, rfl,
      recordWritten_changed intervention fun _ => out⟩
  · have refused {kind : Byte} {c : Instr} {acts : ToolFields → Bool} {change : ToolFields → ToolFields}
        (hc : requestOf c = some (kind, r)) (count : indexCount kind = some 1)
        (owner : ownerOf kind.toNat = changeTool acts change) (idle : acts s.tools[i].toToolFields = false) :
        exec c s = .next (respond kind r s.link.answer ⟨s, .wrongState, []⟩) :=
      exec_owner hc (by rw [hargs]; exact count)
        (by rw [owner]; exact changeTool_wrongState intervention (position hargs index) sound idle)
    refine ⟨fun other => refused rfl rfl rfl ?_, fun other => refused rfl rfl rfl ?_,
      fun other => refused rfl rfl rfl ?_⟩
    · obtain state | state | state := other <;> rw [state] <;> rfl
    · obtain state | bare := other
      · rw [Bool.and_eq_false_iff]
        exact .inl (beq_false_of_ne state)
      · rw [ToolFields.present, bare, Bool.and_eq_false_iff]
        exact .inr rfl
    · exact beq_false_of_ne other
  · exact ⟨exec_owner rfl (by rw [len]; rfl) (changeTool_badArgument intervention above),
      exec_owner rfl (by rw [len]; rfl) (changeTool_badArgument intervention above),
      exec_owner rfl (by rw [len]; rfl) (changeTool_badArgument intervention above)⟩
  · exact ⟨exec_owner rfl (by rw [len]; rfl) (changeTool_away away),
      exec_owner rfl (by rw [len]; rfl) (changeTool_away away),
      exec_owner rfl (by rw [len]; rfl) (changeTool_away away)⟩

end Sys2Proof.Certificates

/-! ## The cycle following the configured flag (R37) -/

namespace Sys2Proof.Machine

/-- What the part does where the configured flag of `w` is judged again: the cycle follows it between UNCONFIGURED and
STANDSTILL, and nothing else changes where the cycle stands. -/
structure ConfiguredFollowed (w u : State) : Prop where
  leaves : u = { w with
    configured := u.configured, cycle := u.cycle, outputs := u.outputs, cylinders := u.cylinders, ports := u.ports
    pointer := u.pointer }
  stands : u.cycle = w.cycle → u = { w with configured := u.configured }
  grout : u.cycle ≠ w.cycle → GroutFollows { w with cycle := u.cycle } u
  groups : u.cycle ≠ w.cycle → GroupsAt u fun _ => if u.cycle = .standstill then heldPressure u else 0
  words : u.cycle ≠ w.cycle → u.outputs[(0 : Fin 25)].value = 0 ∧ u.outputs[(22 : Fin 25)].value = 0 ∧
    u.outputs[(21 : Fin 25)] = w.outputs[(21 : Fin 25)]
  locked : u.cycle = .unconfigured → w.cycle = .standstill → AllLocked w u
  commands : ¬ (u.cycle = .unconfigured ∧ w.cycle = .standstill) → CommandsKept w u ∧ u.cylinders = w.cylinders

theorem configuredFollowed_flag (w : State) (flag : Bool) : ConfiguredFollowed w { w with configured := flag } where
  leaves := rfl
  stands := fun _ => rfl
  grout := fun moved => absurd rfl moved
  groups := fun moved => absurd rfl moved
  words := fun moved => absurd rfl moved
  locked := fun left here => by rw [show w.cycle = .unconfigured from left] at here; cases here
  commands := fun _ => ⟨fun _ => rfl, rfl⟩

theorem heldPressure_of_changeCycle (c : Cycle) (s : State) : heldPressure (changeCycle c s) = heldPressure s := by
  simp [heldPressure, ceiling]

section judged

variable {w : State} (flag : Bool)

/-- The part configured stands in STANDSTILL. -/
theorem configuredFollowed_entered (h : w.cycle = .unconfigured) :
    ConfiguredFollowed w (changeCycle .standstill { w with configured := flag }) where
  leaves := by
    rw [State.eq_iff]
    simp
  stands := fun same => by simp [h] at same
  grout := fun _ => by
    rw [show (changeCycle .standstill { w with configured := flag }).cycle = .standstill by simp]
    exact (changeCycle_groutFollows .standstill { w with configured := flag }).of_alike (by simp [GroutAlike]) rfl rfl
  groups := fun _ g => by
    rw [changeCycle_group, groupSetpoint_held (.inl rfl), if_pos (by simp), heldPressure_of_changeCycle]
    rfl
  words := fun _ => ⟨changeCycle_permit_off _ nofun, changeCycle_screw_stopped _ _ (by simp),
    changeCycle_kept _ _ (by decide) (by decide)⟩
  locked := fun left => by simp at left
  commands := fun _ => ⟨fun i => changeCycle_cylinder _ _ i, by simp⟩

/-- The part no longer configured locks every cylinder (R37). -/
theorem configuredFollowed_left (h : w.cycle = .standstill) :
    ConfiguredFollowed w (lockAll (changeCycle .unconfigured { w with configured := flag })) where
  leaves := by
    rw [State.eq_iff]
    simp
  stands := fun same => by simp [h] at same
  grout := fun _ => by
    rw [show (lockAll (changeCycle .unconfigured { w with configured := flag })).cycle = .unconfigured by simp]
    have changed := (changeCycle_groutFollows .unconfigured { w with configured := flag }).of_alike
      (u := { w with cycle := .unconfigured }) (by simp [GroutAlike]) rfl rfl
    exact changed.of_same (by simp) (by simp) (lockAll_other (by decide) _) (lockAll_other (by decide) _)
  groups := fun _ g => by
    rw [lockAll_other (groupOutput_low g), changeCycle_group, if_neg (by simp)]
    rfl
  words := fun _ => by
    simp only [lockAll_other (o := 0) (by decide), lockAll_other (o := 22) (by decide),
      lockAll_other (o := 21) (by decide)]
    exact ⟨changeCycle_permit_off _ (c := .unconfigured) nofun, changeCycle_screw_stopped _ _ (by simp),
      changeCycle_kept _ _ (by decide) (by decide)⟩
  locked := fun _ _ i => by
    have locked := lockAll_allLocked (changeCycle .unconfigured { w with configured := flag }) i
    simpa using locked
  commands := fun other => absurd ⟨by simp, h⟩ other

end judged

theorem evalConfigured_followed (w : State) : ConfiguredFollowed w (evalConfigured w) := by
  unfold evalConfigured
  dsimp only
  repeat' split
  · exact configuredFollowed_flag w w.configured
  · next enters => exact configuredFollowed_entered _ enters.2
  · next leaves => exact configuredFollowed_left _ leaves.2
  · exact configuredFollowed_flag w _

end Sys2Proof.Machine

/-! ## SET_LOAD_POINTER and TOOL_LOAD (R61 to R64) -/

namespace Sys2Proof.Machine

/-! ### The arguments -/

theorem loadRecord_of_loads {args : List Byte} {x : ToolFields} (h : Loads args x) : loadRecord args = some x := by
  unfold loadRecord
  obtain ⟨absent, rfl⟩ | ⟨zone, kind, hzone, hkind, radius, limits, rest⟩ := h
  · exact if_pos absent
  · have plain : ¬ (3400 < field args 3 2 ∨ field args 18 4 < field args 14 4) := by omega
    simp only [hzone, hkind, if_neg plain]
    obtain ⟨empty, serial, fittedAt, duty, rfl⟩ | ⟨fitted, serial, rfl⟩ := rest
    · rw [if_neg (by omega), if_pos empty, if_pos ⟨serial, fittedAt, duty⟩]
    · rw [if_neg (by omega), if_neg (by omega), if_pos fitted, if_neg serial]
      rfl

theorem loads_of_loadRecord {args : List Byte} {x : ToolFields} (h : loadRecord args = some x) : Loads args x := by
  unfold loadRecord at h
  dsimp only at h
  split at h
  · next absent => exact .inl ⟨absent, (Option.some.inj h).symm⟩
  · split at h
    · next zone kind hzone hkind =>
      split at h
      · cases h
      · next plain =>
        refine .inr ⟨zone, kind, hzone, hkind, by omega, by omega, ?_⟩
        split at h
        · next empty =>
          split at h
          · next bare =>
            obtain ⟨serial, fittedAt, duty⟩ := bare
            exact .inl ⟨empty, serial, fittedAt, duty, (Option.some.inj h).symm⟩
          · cases h
        · split at h
          · next fitted =>
            split at h
            · cases h
            · next serial => exact .inr ⟨fitted, serial, (Option.some.inj h).symm⟩
          · cases h
    · cases h

theorem loadRecord_none {args : List Byte} (h : ∀ x, ¬ Loads args x) : loadRecord args = none :=
  Option.eq_none_iff_forall_ne_some.mpr fun x hx => h x (loads_of_loadRecord hx)

/-! ### The duplicate search -/

/-- A record as a read leaves it (R72, R73). -/
def verified (x : Tool) : Tool := if x.damaged then Tool.fresh { state := .suspect } else x

theorem verified_verified (x : Tool) : verified (verified x) = verified x := by
  by_cases damaged : x.damaged = true
  · rw [show verified x = Tool.fresh { state := .suspect } from if_pos damaged]
    rfl
  · have sound : verified x = x := if_neg damaged
    rw [sound, sound]

theorem failRecord_tools (i : Fin 64) (s : State) :
    (failRecord i s).tools = s.tools.set i (Tool.fresh { state := .suspect }) := by
  rw [failRecord_eq, toolChanged_eq]
  split <;> simp

theorem readTool_tools (i j : Fin 64) (s : State) :
    (readTool i s).tools[j] = if j = i then verified s.tools[j] else s.tools[j] := by
  unfold readTool
  by_cases same : j = i
  · subst same
    rw [if_pos rfl, verified]
    split
    · simp [failRecord_tools]
    · rfl
  · have apart : i.val ≠ j.val := fun e => same (Fin.ext e.symm)
    rw [if_neg same]
    split
    · simp [failRecord_tools, Vector.getElem_set_ne _ _ apart]
    · rfl

/-- The search reads every record but record i. -/
theorem readOthers_tools (i j : Fin 64) (s : State) :
    (readOthers i s).tools[j] = if j = i then s.tools[j] else verified s.tools[j] := by
  have searched (l : List (Fin 64)) (s : State) :
      (l.foldl (fun t k => if k = i then t else readTool k t) s).tools[j] =
        if j ∈ l ∧ j ≠ i then verified s.tools[j] else s.tools[j] := by
    induction l generalizing s with
    | nil => simp
    | cons k l ih =>
      rw [List.foldl_cons, ih]
      by_cases skipped : k = i
      · subst skipped
        by_cases same : j = k <;> simp [same]
      · rw [if_neg skipped, readTool_tools]
        by_cases same : j = k
        · subst same
          simp [skipped, verified_verified]
        · simp [same]
  rw [readOthers, searched]
  by_cases same : j = i <;> simp [same]

/-! ### The record written -/

theorem putTool_followed (i : Fin 64) (x : ToolFields) (s : State) :
    ConfiguredFollowed (recordWritten i x s) (putTool i x s) := by
  rw [putTool_eq]
  split
  · exact configuredFollowed_flag _ (recordWritten i x s).configured
  · exact evalConfigured_followed _

theorem evalConfigured_cycle_flag (w : State) : (evalConfigured w).cycle =
    if w.configured = false ∧ (evalConfigured w).configured = true ∧ w.cycle = .unconfigured then .standstill
    else if w.configured = true ∧ (evalConfigured w).configured = false ∧ w.cycle = .standstill then .unconfigured
    else w.cycle := by
  rw [evalConfigured_cycle, evalConfigured_configured]
  cases configuredDue w <;> cases w.configured <;> simp

section putTool

variable {i : Fin 64} {x : ToolFields} {s : State}

theorem putTool_leaves : putTool i x s = { s with
    tools := s.tools.set i (Tool.fresh x), latched := (recordWritten i x s).latched
    blocking := countBlocking (s.tools.set i (Tool.fresh x)), positions := countPositions (s.tools.set i (Tool.fresh x))
    gaugeWorn := anyGaugeWorn (s.tools.set i (Tool.fresh x)), configured := (putTool i x s).configured
    cycle := (putTool i x s).cycle, outputs := (putTool i x s).outputs, cylinders := (putTool i x s).cylinders
    ports := (putTool i x s).ports, pointer := (putTool i x s).pointer } := by
  conv_lhs => rw [(putTool_followed i x s).leaves, recordWritten_leaves]

/-- The flag is judged again where the record enters or leaves ABSENT (R37). -/
theorem putTool_configured : (putTool i x s).configured =
    if (s.tools[i].state = .absent ↔ x.state = .absent) then s.configured
    else s.params.faceArea.isSome && s.params.voidArea.isSome && s.params.ringWidth.isSome &&
      s.params.tailLength.isSome && decide (0 < countPositions (s.tools.set i (Tool.fresh x))) := by
  rw [putTool_eq]
  simp only [eq_iff_iff]
  split
  · rw [recordWritten_leaves]
  · rw [evalConfigured_configured, configuredDue, recordWritten_leaves]

theorem putTool_cycle : (putTool i x s).cycle =
    if s.configured = false ∧ (putTool i x s).configured = true ∧ s.cycle = .unconfigured then .standstill
    else if s.configured = true ∧ (putTool i x s).configured = false ∧ s.cycle = .standstill then .unconfigured
    else s.cycle := by
  have written : (recordWritten i x s).configured = s.configured ∧ (recordWritten i x s).cycle = s.cycle := by
    simp [recordWritten]
  obtain ⟨configured, cycle⟩ := written
  rw [putTool_eq]
  split
  · rw [configured, cycle]
    cases s.configured <;> simp
  · have followed := evalConfigured_cycle_flag (recordWritten i x s)
    rwa [configured, cycle] at followed

theorem putTool_locked (left : (putTool i x s).cycle = .unconfigured) (here : s.cycle = .standstill) :
    AllLocked s (putTool i x s) := by
  have locked := (putTool_followed i x s).locked left (by simp [recordWritten, here])
  simpa [AllLocked, recordWritten] using locked

theorem putTool_commands (other : ¬ ((putTool i x s).cycle = .unconfigured ∧ s.cycle = .standstill)) :
    CommandsKept s (putTool i x s) ∧ (putTool i x s).cylinders = s.cylinders := by
  have cycle : (recordWritten i x s).cycle = s.cycle := by simp [recordWritten]
  obtain ⟨commands, cylinders⟩ := (putTool_followed i x s).commands (by rwa [cycle])
  refine ⟨fun j => (commands j).trans (recordWritten_keeps i x s _ ?_), cylinders.trans (by simp [recordWritten])⟩
  simp only [cylinderOutput, List.mem_cons, List.not_mem_nil, or_false]
  omega

/-- The cycle has followed the flag. -/
theorem putTool_moved (moved : (putTool i x s).cycle ≠ s.cycle) :
    GroupsAt (putTool i x s)
      (fun _ => if (putTool i x s).cycle = .standstill then heldPressure (putTool i x s) else 0) ∧
    GroutFollows { s with cycle := (putTool i x s).cycle } (putTool i x s) ∧
    (putTool i x s).outputs[(0 : Fin 25)].value = 0 ∧ (putTool i x s).outputs[(22 : Fin 25)].value = 0 ∧
    (putTool i x s).outputs[(21 : Fin 25)] = s.outputs[(21 : Fin 25)] := by
  have followed := putTool_followed i x s
  have away : (putTool i x s).cycle ≠ (recordWritten i x s).cycle := by simpa [recordWritten] using moved
  obtain ⟨permit, screw, erector⟩ := followed.words away
  refine ⟨followed.groups away, ?_, permit, screw, erector.trans (recordWritten_keeps i x s _ (by decide))⟩
  exact (followed.grout away).of_alike (by simp [GroutAlike, recordWritten])
    (recordWritten_keeps i x s _ (by decide)).symm (recordWritten_keeps i x s _ (by decide)).symm

/-- The cycle stands. -/
theorem putTool_stood (stands : (putTool i x s).cycle = s.cycle) (away : s.cycle ≠ .boring) :
    (putTool i x s).ports = s.ports ∧ (putTool i x s).pointer = s.pointer ∧
    OutputsKeptBut [0, 1, 2, 3, 4] s (putTool i x s) ∧ GroupsFollow s (putTool i x s) ∧
    (if s.tools[i].state.blocks = x.state.blocks
      then (putTool i x s).outputs[(0 : Fin 25)] = s.outputs[(0 : Fin 25)]
      else (putTool i x s).outputs[(0 : Fin 25)].value = 0) := by
  have cycle : (recordWritten i x s).cycle = s.cycle := by simp [recordWritten]
  have same := (putTool_followed i x s).stands (stands.trans cycle.symm)
  have words : (putTool i x s).outputs = (recordWritten i x s).outputs := by rw [same]
  refine ⟨by rw [same]; simp [recordWritten], by rw [same]; simp [recordWritten], fun o ho => ?_, ?_, ?_⟩
  · rw [words]
    exact recordWritten_keeps i x s o ho
  · exact (recordWritten_groupsFollow i x s).congr rfl (fun _ => rfl) (by rw [same]) (fun _ => by rw [words])
      (by rw [same]) (by rw [same]) (by rw [same])
  · rw [words]
    exact recordWritten_permit i x s away

end putTool

/-! ### The requests -/

section requests

variable {s : State} {args : List Byte} {x : ToolFields}

theorem setLoadPointer_away (tripped : s.cycle = .tripped) : setLoadPointer args s = ⟨s, .wrongState, []⟩ :=
  inStates_false (by rw [tripped]; rfl)

theorem setLoadPointer_taken {i : Fin 64} (awake : s.cycle ≠ .tripped) (index : field args 0 1 = i.val) :
    setLoadPointer args s = ⟨{ s with loadPointer := i }, .done, []⟩ := by
  rw [setLoadPointer, inStates_true (by simp [notTripped, awake]), index, indexArg_val]
  rfl

theorem setLoadPointer_badArgument (awake : s.cycle ≠ .tripped) (above : 64 ≤ field args 0 1) :
    setLoadPointer args s = ⟨s, .badArgument, []⟩ := by
  rw [setLoadPointer, inStates_true (by simp [notTripped, awake]), indexArg_above above]
  rfl

theorem toolLoad_away (away : loadStates s.cycle = false) : toolLoad args s = ⟨s, .wrongState, []⟩ :=
  inStates_false away

theorem toolLoad_badArgument (here : loadStates s.cycle = true) (bad : ∀ x, ¬ Loads args x) :
    toolLoad args s = ⟨s, .badArgument, []⟩ := by
  rw [toolLoad, inStates_true here, loadRecord_none bad]
  rfl

/-- The record with a tool, after the duplicate search (R64). -/
theorem toolLoad_searched {serial : Nat} (here : loadStates s.cycle = true) (loads : Loads args x)
    (tool : x.serial = some serial) : toolLoad args s =
      if serialHeld s.loadPointer serial (readOthers s.loadPointer s)
        then ⟨readOthers s.loadPointer s, .duplicate, []⟩
        else ⟨loadAtPointer x (readOthers s.loadPointer s), .done, []⟩ := by
  rw [toolLoad, inStates_true here, loadRecord_of_loads loads]
  simp only [tool, readOthers_frame]
  rfl

theorem toolLoad_taken (here : loadStates s.cycle = true) (loads : Loads args x)
    (free : ∀ serial, x.serial = some serial → OthersSound s.loadPointer s ∧ SerialFree s.loadPointer serial s) :
    toolLoad args s = ⟨loadAtPointer x s, .done, []⟩ := by
  cases tool : x.serial with
  | none =>
    rw [toolLoad, inStates_true here, loadRecord_of_loads loads]
    simp only [tool]
    rfl
  | some serial =>
    obtain ⟨sound, free⟩ := free serial tool
    rw [toolLoad_searched here loads tool, readOthers_sound sound, (serialHeld_eq_false _ _ _).mpr free]
    rfl

theorem toolLoad_duplicate {serial : Nat} {j : Fin 64} (here : loadStates s.cycle = true) (loads : Loads args x)
    (tool : x.serial = some serial) (sound : OthersSound s.loadPointer s) (other : j ≠ s.loadPointer)
    (held : s.tools[j].serial = some serial) : toolLoad args s = ⟨s, .duplicate, []⟩ := by
  rw [toolLoad_searched here loads tool, readOthers_sound sound, if_pos ((serialHeld_iff _ _ _).mpr ⟨j, other, held⟩)]

/-- What the search finds damaged is SUSPECT, whether the load is taken or not (R64, R73). -/
theorem toolLoad_reads {j : Fin 64} (here : loadStates s.cycle = true) (loads : Loads args x)
    (tool : x.serial.isSome = true) (other : j ≠ s.loadPointer) :
    (toolLoad args s).state.tools[j] = verified s.tools[j] := by
  obtain ⟨serial, tool⟩ := Option.isSome_iff_exists.mp tool
  have searched : (readOthers s.loadPointer s).tools[j] = verified s.tools[j] := by
    rw [readOthers_tools, if_neg other]
  have apart : s.loadPointer.val ≠ j.val := fun e => other (Fin.ext e.symm)
  rw [toolLoad_searched here loads tool]
  split
  · exact searched
  · rw [← searched, loadAtPointer, putTool_leaves]
    simp [Vector.getElem_set_ne _ _ apart]

end requests

/-- Settles O23. -/
theorem toolsLoaded : Obligations.ToolsLoaded := by
  refine ⟨fun r b i s hargs index awake => exec_owner rfl (by rw [hargs]; rfl)
      (setLoadPointer_taken awake (by rw [hargs, field_single, index])),
    fun r b s hargs above awake => exec_owner rfl (by rw [hargs]; rfl)
      (setLoadPointer_badArgument awake (by rwa [hargs, field_single])),
    fun r b s hargs tripped => exec_owner rfl (by rw [hargs]; rfl) (setLoadPointer_away tripped),
    fun r x s len here loads free => ⟨loadAtPointer x s, exec_owner rfl (by rw [len]; rfl)
      (toolLoad_taken here loads free), ?_⟩,
    fun r x serial j s len here loads tool sound other held => exec_owner rfl (by rw [len]; rfl)
      (toolLoad_duplicate here loads tool sound other held),
    fun r x j s len here loads tool other => ⟨_, exec_owner rfl (by rw [len]; rfl) rfl, ?_⟩,
    fun r s len here bad => exec_owner rfl (by rw [len]; rfl) (toolLoad_badArgument here bad),
    fun r s len away => exec_owner rfl (by rw [len]; rfl) (toolLoad_away away)⟩
  · have away : s.cycle ≠ .boring := by
      rintro boring
      rw [boring] at here
      cases here
    have tools : (loadAtPointer x s).tools = s.tools.set s.loadPointer (Tool.fresh x) := by
      rw [loadAtPointer, putTool_leaves]
    have counted : (loadAtPointer x s).blocking = countBlocking (s.tools.set s.loadPointer (Tool.fresh x)) ∧
        (loadAtPointer x s).positions = countPositions (s.tools.set s.loadPointer (Tool.fresh x)) ∧
        (loadAtPointer x s).gaugeWorn = anyGaugeWorn (s.tools.set s.loadPointer (Tool.fresh x)) := by
      rw [loadAtPointer, putTool_leaves]
      exact ⟨rfl, rfl, rfl⟩
    obtain ⟨blocking, positions, gaugeWorn⟩ := counted
    refine ⟨tools, ?_, by rw [tools, blocking], by rw [tools, positions], by rw [tools, gaugeWorn], ?_, ?_,
      putTool_cycle, putTool_locked, putTool_commands, fun moved => ?_, fun stands => putTool_stood stands away,
      fun moved => ?_, ?_⟩
    · rw [loadAtPointer, Fin.val_add]
      rfl
    · conv_lhs => rw [loadAtPointer, putTool_leaves]
      rw [loadAtPointer, putTool_leaves]
    · rw [positions]
      exact putTool_configured
    · obtain ⟨groups, grout, -⟩ := putTool_moved moved
      exact ⟨groups, grout⟩
    · obtain ⟨-, -, permit, screw, erector⟩ := putTool_moved moved
      exact ⟨permit, screw, erector⟩
    · rw [loadAtPointer, putTool_leaves]
      exact recordWritten_latched _ _ _
  · exact toolLoad_reads here loads tool other

end Sys2Proof.Machine

/-! ## What the blocks take again at once (R88, R91, R103, R130, R147, R163) -/

namespace Sys2Proof.Machine

/-! ### The screw's range (R163, R167, R169) -/

theorem screwRunning_congr {s t : State} (cycle : t.cycle = s.cycle) (inputs : t.inputs = s.inputs) :
    screwRunning t = screwRunning s := by
  simp only [screwRunning, gateOpen, asserted, cycle, inputs]

theorem screwRange_value (s : State) : (screwRange s).outputs[(22 : Fin 25)].value =
    if screwRunning s = true then
      screwClamp s (match s.screw.mode with | .auto => s.outputs[(22 : Fin 25)].value | .manual => s.screw.manual)
    else s.outputs[(22 : Fin 25)].value := by
  unfold screwRange
  split
  · rw [writeScrew, writeOutput_value_self]
    cases s.screw.mode <;> rfl
  · rfl

section ranged

variable {s w : State}

/-- The range taken again in a state whose screw is that of `s`. -/
theorem screwRange_ranged (cycle : w.cycle = s.cycle) (inputs : w.inputs = s.inputs) (screw : w.screw = s.screw)
    (word : w.outputs[(22 : Fin 25)] = s.outputs[(22 : Fin 25)]) : ScrewRanged true s (screwRange w) := by
  rw [ScrewRanged, screwRange_value, screwRunning_congr cycle inputs, screw, word,
    screwClamp_congr (s := w) (t := screwRange w) (by simp) (by simp)]
  cases s.screw.mode <;> simp

theorem screwRanged_kept {t : State} (word : t.outputs[(22 : Fin 25)] = s.outputs[(22 : Fin 25)]) :
    ScrewRanged false s t := by
  rw [ScrewRanged, word, if_neg (by simp)]

theorem balanceTaken_ranged (cycle : w.cycle = s.cycle) (inputs : w.inputs = s.inputs) (screw : w.screw = s.screw)
    (word : w.outputs[(22 : Fin 25)] = s.outputs[(22 : Fin 25)]) :
    ScrewRanged (overExcavation (balanceTaken (overExcavation s) w) != overExcavation s) s
      (balanceTaken (overExcavation s) w) := by
  rw [overExcavation_congr (s := w) (by simp) (by simp)]
  unfold balanceTaken
  split
  · next same =>
    rw [same, bne_self_eq_false]
    exact screwRanged_kept word
  · next changed =>
    rw [bne_iff_ne.mpr changed]
    exact screwRange_ranged cycle inputs screw word

end ranged

/-! ### The cylinders (R88, R91, R130) -/

theorem standsRetracted_eq (s : State) (i : Fin 16) : standsRetracted s i = (derived s i == .retracted) := by
  rw [Bool.eq_iff_iff, beq_iff_eq, derived_retracted]
  simp [standsRetracted]

theorem standsRetracted_congr {s t : State} (commands : CommandsKept s t) (channels : t.channels = s.channels)
    (limit : t.params.retractedAt = s.params.retractedAt) (i : Fin 16) : standsRetracted t i = standsRetracted s i := by
  rw [standsRetracted, command, commands i, extension, channels, limit]
  rfl

theorem exists_buildsAt {s : State} {x : Ring} (h : buildingRing s = some x) :
    ∃ older newer, BuildsAt s older x newer := by
  obtain ⟨building, older, newer, rings, before⟩ := List.find?_eq_some_iff_append.mp h
  exact ⟨older, newer, rings, fun y hy => by simpa using before y hy, by simpa using building⟩

/-- The retract timers of the cylinders that have become RETRACTED since `before`, frozen (R91). -/
def timersRetaken (before s : State) : State :=
  { s with cylinders := Vector.ofFn fun i =>
      if retractedChanged before s i && derived s i == .retracted then
        { s.cylinders[i] with timer := s.cylinders[i].timer.freeze }
      else s.cylinders[i] }

theorem timersRetaken_cylinder (before s : State) (i : Fin 16) : (timersRetaken before s).cylinders[i] =
    if (retractedChanged before s i && derived s i == .retracted) = true then
      { s.cylinders[i] with timer := s.cylinders[i].timer.freeze }
    else s.cylinders[i] := by
  simp [timersRetaken]

theorem timersRetaken_word (before s : State) (o : Fin 25) : (timersRetaken before s).outputs[o] = s.outputs[o] := by
  simp only [timersRetaken]

theorem timersRetaken_frame (before s : State) :
    (timersRetaken before s).rings = s.rings ∧ (timersRetaken before s).place = s.place ∧
    (timersRetaken before s).channels = s.channels ∧ (timersRetaken before s).params = s.params := by
  simp only [timersRetaken, and_self]

theorem cylindersRetaken_eq (before s : State) : cylindersRetaken before s =
    if (List.finRange 16).any (fun i => retractedChanged before s i && s.cylinders[i].owner.isBuild)
      then clearingLook (timersRetaken before s) else timersRetaken before s := rfl

theorem clearingLook_keeps (s : State) : OutputsKeptBut [21] s (clearingLook s) := by
  unfold clearingLook
  repeat' split
  · exact (enterPositioning_leaves _ _ s).1
  all_goals exact fun _ _ => rfl

/-- The span of the current slot found RETRACTED in CLEARING (R130). -/
theorem clearingLook_positions {s : State} {older newer : List Ring} {x : Ring} {slot : Slot}
    (builds : BuildsAt s older x newer) (current : s.place.current = some slot)
    (clearing : s.place.erector = .working .clearing) (retracted : ∀ i ∈ span x.key slot, standsRetracted s i = true) :
    clearingLook s = enterPositioning x slot s := by
  rw [clearingLook, if_pos clearing, builds.building, current]
  refine if_pos (List.all_eq_true.mpr fun i hi => ?_)
  rw [← standsRetracted_eq]
  exact retracted i hi

/-- A look that finds no span RETRACTED changes nothing. -/
theorem clearingLook_waits {s : State} (waits : s.place.erector ≠ .working .clearing ∨
      ∀ older x newer slot, BuildsAt s older x newer → s.place.current = some slot →
        ∃ i ∈ span x.key slot, standsRetracted s i = false) : clearingLook s = s := by
  unfold clearingLook
  split
  · next clearing =>
    obtain other | waits := waits
    · exact absurd clearing other
    · split
      · next x slot building current =>
        obtain ⟨older, newer, builds⟩ := exists_buildsAt building
        obtain ⟨i, hi, away⟩ := waits older x newer slot builds current
        rw [if_neg]
        intro all
        have there := List.all_eq_true.mp all i hi
        rw [← standsRetracted_eq, away] at there
        cases there
      · rfl
  · rfl

section retaken

/-- A state that differs from `before` in what a sample or a parameter changes alone: the derived states. -/
structure SameCylinders (before s : State) : Prop where
  outputs : s.outputs = before.outputs
  cylinders : s.cylinders = before.cylinders
  place : s.place = before.place
  rings : s.rings = before.rings
  time : s.params.erectorStepTime = before.params.erectorStepTime

variable {before s : State}

theorem retractedChanged_eq (i : Fin 16) :
    retractedChanged before s i = (standsRetracted before i != standsRetracted s i) := by
  rw [retractedChanged, standsRetracted_eq, standsRetracted_eq]

theorem cylindersRetaken_keeps : OutputsKeptBut [21] s (cylindersRetaken before s) := by
  intro o ho
  rw [cylindersRetaken_eq]
  split
  · rw [clearingLook_keeps _ o ho, timersRetaken_word]
  · exact timersRetaken_word before s o

theorem cylinderOutput_not_erector (i : Fin 16) : (cylinderOutput i).val ∉ [21] := by
  simp only [cylinderOutput, List.mem_singleton]
  omega

theorem cylindersRetaken_stands (i : Fin 16) : standsRetracted (cylindersRetaken before s) i = standsRetracted s i :=
  standsRetracted_congr (fun j => cylindersRetaken_keeps _ (cylinderOutput_not_erector j)) (by simp) (by simp) i

theorem cylindersRetaken_cylinders : (cylindersRetaken before s).cylinders = (timersRetaken before s).cylinders := by
  rw [cylindersRetaken_eq]
  split <;> simp

theorem cylindersRetaken_timers (same : SameCylinders before s) : TimersStopped before (cylindersRetaken before s) := by
  intro i
  have enters : (retractedChanged before s i && derived s i == .retracted) = true ↔
      standsRetracted before i = false ∧ standsRetracted s i = true := by
    rw [retractedChanged_eq, ← standsRetracted_eq]
    cases standsRetracted before i <;> cases standsRetracted s i <;> decide
  rw [cylindersRetaken_stands, cylindersRetaken_cylinders, timersRetaken_cylinder, same.cylinders]
  simp only [enters]
  rfl

/-- The report goes out where the table of R88 says so (R130). -/
theorem retractionReported_iff (same : SameCylinders before s) {t : State}
    (stands : ∀ i, standsRetracted t i = standsRetracted s i) : RetractionReported before t ↔
      ((List.finRange 16).any fun i => retractedChanged before s i && s.cylinders[i].owner.isBuild) = true := by
  have build (owner : Owner) : owner.isBuild = true ↔ ∃ ring slot, owner = .build ring slot := by
    cases owner <;> simp [Owner.isBuild]
  simp only [RetractionReported, List.any_eq_true, List.mem_finRange, true_and, Bool.and_eq_true, retractedChanged_eq,
    bne_iff_ne, build, same.cylinders, stands]
  exact exists_congr fun i => ⟨fun ⟨ring, slot, owner, moved⟩ => ⟨moved, ring, slot, owner⟩,
    fun ⟨moved, ring, slot, owner⟩ => ⟨ring, slot, owner, moved⟩⟩

theorem timersRetaken_builds (same : SameCylinders before s) {older newer : List Ring} {x : Ring} :
    BuildsAt (timersRetaken before s) older x newer ↔ BuildsAt before older x newer := by
  obtain ⟨rings, -⟩ := timersRetaken_frame before s
  rw [BuildsAt, rings, same.rings, BuildsAt]

theorem timersRetaken_place (same : SameCylinders before s) : (timersRetaken before s).place = before.place :=
  (timersRetaken_frame before s).2.1.trans same.place

theorem timersRetaken_stands (i : Fin 16) : standsRetracted (timersRetaken before s) i = standsRetracted s i := by
  obtain ⟨-, -, channels, params⟩ := timersRetaken_frame before s
  exact standsRetracted_congr (fun j => timersRetaken_word before s (cylinderOutput j)) channels (by rw [params]) i

theorem cylindersRetaken_clearing (same : SameCylinders before s) :
    ClearingFollows before (cylindersRetaken before s) := by
  have stands (i : Fin 16) := cylindersRetaken_stands (before := before) (s := s) i
  have reported := retractionReported_iff same stands
  have word : (timersRetaken before s).outputs[(21 : Fin 25)] = before.outputs[(21 : Fin 25)] := by
    rw [timersRetaken_word, same.outputs]
  refine ⟨fun older x newer slot builds current clearing report retracted => ?_, fun waits => ?_⟩
  · have look := clearingLook_positions ((timersRetaken_builds same).mpr builds) (by rwa [timersRetaken_place same])
      (by rwa [timersRetaken_place same]) fun i hi => by
        rw [timersRetaken_stands, ← stands]
        exact retracted i hi
    rw [cylindersRetaken_eq, if_pos (reported.mp report), look]
    refine ⟨?_, writeOutput_value_self _ _ _⟩
    obtain ⟨-, -, -, params⟩ := timersRetaken_frame before s
    rw [(enterPositioning_leaves _ _ _).2, timersRetaken_place same, params, same.time]
  · rw [cylindersRetaken_eq]
    split
    · next report =>
      rw [clearingLook_waits, timersRetaken_place same]
      · exact ⟨rfl, word⟩
      · rw [timersRetaken_place same]
        obtain other | silent | away := waits
        · exact .inl other
        · exact absurd (reported.mpr report) silent
        · refine .inr fun older x newer slot builds current => ?_
          obtain ⟨i, hi, away⟩ := away older x newer slot ((timersRetaken_builds same).mp builds) current
          exact ⟨i, hi, by rwa [timersRetaken_stands, ← stands]⟩
    · exact ⟨timersRetaken_place same, word⟩

end retaken

/-! ### The shot (R147) -/

/-- A shot that has taken SHOT_VOLUME ends, while grouting is allowed. -/
theorem shotVolumeEnd_get {s : State} (one : OneServing s) (p : Fin 6) : (shotVolumeEnd s).ports[p] =
    if s.ports[p].state = .serving ∧ groutAllowed s = true ∧ s.params.shotVolume ≤ s.ports[p].shot then
      { s.ports[p] with state := .idle, timer := { s.ports[p].timer with running := false } }
    else s.ports[p] := by
  unfold shotVolumeEnd
  split
  · next q found =>
    have serving := serving_of_servingPort found
    have only : s.ports[p].state = .serving ↔ p = q := ⟨fun also => one p q also serving, fun e => e ▸ serving⟩
    simp only [only]
    split
    · next due =>
      rw [endShot_get]
      by_cases same : p = q
      · subst same
        rw [if_pos rfl, if_pos ⟨rfl, due⟩]
        rfl
      · rw [if_neg same, if_neg fun all => same all.1]
    · next not =>
      refine (if_neg ?_).symm
      rintro ⟨rfl, due⟩
      exact not due
  · next none => rw [if_neg fun all => servingPort_eq_none.mp none p all.1]

theorem shotVolumeEnd_leaves (s : State) : shotVolumeEnd s = { s with ports := (shotVolumeEnd s).ports } := by
  rw [State.eq_iff]
  simp

end Sys2Proof.Machine

/-! ## SET_PARAM (R171 to R175) -/

namespace Sys2Proof.Machine

/-! ### The bytes -/

theorem beNat_append (l : List Byte) (b : Byte) : beNat (l ++ [b]) = beNat l * 256 + b.toNat := by
  simp [beNat]

/-- The bytes of a number that was read from bytes are those bytes (R16). -/
theorem beBytes_beNat (bytes : List Byte) : beBytes bytes.length (beNat bytes) = bytes := by
  induction bytes using List.reverseRecOn with
  | nil => rfl
  | append_singleton l b ih =>
    have low : b.toNat < 256 := b.isLt
    have high : (beNat l * 256 + b.toNat) / 256 = beNat l := by omega
    have byte : BitVec.ofNat 8 (beNat l * 256 + b.toNat) = b := by
      apply BitVec.eq_of_toNat_eq
      simp only [BitVec.toNat_ofNat]
      omega
    rw [List.length_append, List.length_singleton, beBytes, beNat_append, high, byte, ih]

section args

variable {args : List Byte}

theorem beBytes_id (len : args.length = 5) : beBytes 1 (field args 0 1) = args.take 1 := by
  have bytes := beBytes_beNat (args.take 1)
  rwa [List.length_take, len] at bytes

theorem value_bytes (len : args.length = 5) : beNat (args.drop 1) = field args 1 4 := by
  rw [field, List.take_of_length_le (by simp [len])]

theorem paramBytes_args (len : args.length = 5) : paramBytes (field args 0 1) (beNat (args.drop 1)) = args := by
  have bytes := beBytes_beNat (args.drop 1)
  rw [List.length_drop, len] at bytes
  rw [paramBytes, beBytes_id len, bytes, List.take_append_drop]

theorem value_byte (k : Fin 4) (len : args.length = 5) :
    ((args.drop 1).getD k.val 0).toNat = field args (1 + k.val) 1 := by
  have short : 1 + k.val < args.length := by omega
  have one : (args.drop (1 + k.val)).take 1 = [args[1 + k.val]] := by
    rw [List.drop_eq_getElem_cons short]
    rfl
  rw [field, one, List.getD_eq_getElem _ _ (by rw [List.length_drop]; omega), List.getElem_drop]
  simp [beNat]

end args

/-! ### Tuning values -/

theorem getTuning_storeTuning (p : Params) (k k' : Tuning) (v : Nat) :
    getTuning (storeTuning p k v) k' = if k' = k then v else getTuning p k' := by
  cases k <;> cases k' <;> rfl

theorem getGeometry_storeTuning (p : Params) (k : Tuning) (v : Nat) (g : Geometry) :
    getGeometry (storeTuning p k v) g = getGeometry p g := by
  cases k <;> rfl

theorem clampTo_eq {low high : Nat} (range : low ≤ high) (v : Nat) :
    clampTo low high v = if v < low then low else if high < v then high else v := by
  unfold clampTo
  split
  · omega
  · split <;> omega

/-! ### Geometry values -/

theorem not_any_le (area : Option Nat) (v : Nat) :
    (¬ (area.any fun x => decide (v ≤ x)) = true) ↔ ∀ w, area = some w → w < v := by
  cases area <;> simp

theorem not_any_ge (area : Option Nat) (v : Nat) :
    (¬ (area.any fun x => decide (x ≤ v)) = true) ↔ ∀ w, area = some w → v < w := by
  cases area <;> simp

theorem some_iff_of_if {α : Type} {c : Prop} [Decidable c] (x y : α) :
    (if c then some x else none) = some y ↔ c ∧ y = x := by
  split
  · next h => simp [h, eq_comm]
  · next h => simp [h]

/-- REF_CYLINDERS names one cylinder of each group. -/
theorem refArg_iff {args : List Byte} (len : args.length = 5) (refs : Vector (Fin 16) 4) :
    refArg (args.drop 1) = some refs ↔ (∀ k : Fin 4, field args (1 + k.val) 1 / 4 = k.val) ∧
      ∀ k : Fin 4, refs[k].val = field args (1 + k.val) 1 := by
  have quarters : ((List.range 4).all fun g => ((args.drop 1).getD g 0).toNat / 4 == g) = true ↔
      ∀ k : Fin 4, field args (1 + k.val) 1 / 4 = k.val := by
    rw [List.all_eq_true]
    refine ⟨fun all k => ?_, fun all g hg => ?_⟩
    · rw [← value_byte k len]
      simpa using all k.val (List.mem_range.mpr k.isLt)
    · have quarter := all ⟨g, List.mem_range.mp hg⟩
      rw [← value_byte _ len] at quarter
      simpa using quarter
  rw [refArg, some_iff_of_if, quarters]
  refine and_congr_right fun inside => ?_
  have value (k : Fin 4) : (Vector.ofFn fun g : Fin 4 => Fin.ofNat 16 ((args.drop 1).getD g.val 0).toNat)[k].val =
      field args (1 + k.val) 1 := by
    have quarter := inside k
    rw [Fin.getElem_fin, Vector.getElem_ofFn, ← value_byte k len] at *
    simp only [Fin.ofNat]
    omega
  refine ⟨fun same k => by rw [same, value k], fun same => ?_⟩
  ext k hk : 2
  exact (same ⟨k, hk⟩).trans (value ⟨k, hk⟩).symm

theorem storeGeometry_iff {args : List Byte} (len : args.length = 5) (g : Geometry) (p p' : Params) :
    storeGeometry g (args.drop 1) p = some p' ↔ GeometryTakes g args p p' := by
  unfold storeGeometry GeometryTakes
  rw [value_bytes len]
  cases g with
  | faceArea => simp only [some_iff_of_if, not_any_le, and_assoc]
  | voidArea => simp only [some_iff_of_if, not_any_ge, and_assoc]
  | ringWidth => simp only [some_iff_of_if, and_assoc]
  | tailLength => simp only [some_iff_of_if]
  | refCylinders =>
    simp only [Option.map_eq_some_iff, refArg_iff len]
    constructor
    · rintro ⟨refs, ⟨quarters, values⟩, rfl⟩
      exact ⟨quarters, values, rfl⟩
    · rintro ⟨quarters, values, same⟩
      exact ⟨p'.refCylinders, ⟨quarters, values⟩, same.symm⟩
  | strokeLimit => simp only [some_iff_of_if, and_assoc]
  | minHold => simp only [some_iff_of_if, and_assoc]

theorem geometryOpen_iff (g : Geometry) (s : State) : geometryOpen g s = true ↔
    (s.cycle = .unconfigured ∨ s.cycle = .standstill) ∧ (s.stroke.state = .none ∨ s.stroke.state = .spent) ∧
      (g = .ringWidth ∨ g = .tailLength → ∀ x ∈ s.rings, x.state.isClosed = false) := by
  cases g <;> simp [geometryOpen, and_assoc]

theorem geometryOpen_not {g : Geometry} {s : State} (h : (s.cycle ≠ .unconfigured ∧ s.cycle ≠ .standstill) ∨
    s.stroke.state = .opened ∨ s.stroke.state = .closed ∨
    ((g = .ringWidth ∨ g = .tailLength) ∧ ∃ x ∈ s.rings, x.state.isClosed = true)) : geometryOpen g s = false := by
  rw [← Bool.not_eq_true, geometryOpen_iff]
  rintro ⟨cycle, account, rings⟩
  obtain ⟨away, away'⟩ | opened | closed | ⟨which, x, member, closed⟩ := h
  · exact cycle.elim away away'
  · simp [opened] at account
  · simp [closed] at account
  · simp [rings which x member] at closed

/-- The pressures of the group setpoints are tuning parameters. -/
theorem GeometryTakes.pressures {g : Geometry} {args : List Byte} {p p' : Params} (h : GeometryTakes g args p p') :
    p'.pMax = p.pMax ∧ p'.pDerate = p.pDerate ∧ p'.holdPressure = p.holdPressure := by
  cases g with
  | faceArea =>
    obtain ⟨-, -, -, rfl⟩ := h
    exact ⟨rfl, rfl, rfl⟩
  | voidArea =>
    obtain ⟨-, -, -, rfl⟩ := h
    exact ⟨rfl, rfl, rfl⟩
  | ringWidth =>
    obtain ⟨-, -, rfl⟩ := h
    exact ⟨rfl, rfl, rfl⟩
  | tailLength =>
    obtain ⟨-, rfl⟩ := h
    exact ⟨rfl, rfl, rfl⟩
  | refCylinders =>
    obtain ⟨-, -, same⟩ := h
    rw [same]
    exact ⟨rfl, rfl, rfl⟩
  | strokeLimit =>
    obtain ⟨-, -, rfl⟩ := h
    exact ⟨rfl, rfl, rfl⟩
  | minHold =>
    obtain ⟨-, -, rfl⟩ := h
    exact ⟨rfl, rfl, rfl⟩

/-! ### The configured flag after a mandatory parameter -/

theorem evalConfigured_same {s : State} (h : (evalConfigured s).configured = s.configured) : evalConfigured s = s := by
  rw [evalConfigured_configured] at h
  exact if_pos h

section mandatory

variable {s : State} {p : Params}

/-- The part that becomes configured in UNCONFIGURED (R37). -/
theorem evalConfigured_enters (pressures : p.pMax = s.params.pMax ∧ p.pDerate = s.params.pDerate ∧
      p.holdPressure = s.params.holdPressure) (was : s.configured = false)
    (now : (evalConfigured { s with params := p }).configured = true) (here : s.cycle = .unconfigured) :
    (evalConfigured { s with params := p }).cycle = .standstill ∧
    GroupsAt (evalConfigured { s with params := p }) (fun _ => heldPressure s) ∧
    CommandsKept s (evalConfigured { s with params := p }) ∧
    (evalConfigured { s with params := p }).cylinders = s.cylinders ∧
    GroutFollows { s with params := p, cycle := .standstill } (evalConfigured { s with params := p }) := by
  have followed := evalConfigured_followed { s with params := p }
  have entered : (evalConfigured { s with params := p }).cycle = .standstill := by
    rw [evalConfigured_cycle_flag, if_pos ⟨was, now, here⟩]
  have moved : (evalConfigured { s with params := p }).cycle ≠ s.cycle := by
    rw [entered, here]
    decide
  have held : heldPressure (evalConfigured { s with params := p }) = heldPressure s := by
    obtain ⟨top, derate, hold⟩ := pressures
    rw [followed.leaves]
    simp only [heldPressure, ceiling, top, derate, hold]
  obtain ⟨commands, cylinders⟩ := followed.commands (by rw [entered]; simp)
  have groups := followed.groups moved
  have grout := followed.grout moved
  rw [entered] at grout
  simp only [entered, held, if_true] at groups
  exact ⟨entered, groups, commands, cylinders, grout⟩

/-- In STANDSTILL the flag alone follows. -/
theorem evalConfigured_stays (was : s.configured = false)
    (now : (evalConfigured { s with params := p }).configured = true) (here : s.cycle = .standstill) :
    evalConfigured { s with params := p } = { s with params := p, configured := true } := by
  have stands : (evalConfigured { s with params := p }).cycle = s.cycle := by
    rw [evalConfigured_cycle_flag]
    simp [was, here]
  have same := (evalConfigured_followed { s with params := p }).stands stands
  rwa [now] at same

end mandatory

/-! ### What a tuning parameter changes at once (R173) -/

section tuning

variable (s : State) (p : Params)

/-- The group setpoints derived again on a change of P_MAX, P_DERATE or HOLD_PRESSURE (R93). -/
theorem setpoints_retaken (u : State) (h : u = deriveSetpoints { s with params := p }) :
    u = { s with params := u.params, outputs := u.outputs } ∧ OutputsKeptBut [1, 2, 3, 4] s u ∧
    (s.cycle = .boring → GroupsAt u (fun g => min s.quadrants[g] (ceiling u))) ∧
    (s.cycle = .standstill ∨ s.cycle = .building → GroupsAt u (fun _ => heldPressure u)) ∧
    (s.cycle = .unconfigured ∨ s.cycle = .intervention ∨ s.cycle = .tripped → GroupsAt u (fun _ => 0)) := by
  have top : ceiling u = ceiling { s with params := p } := by rw [h, ceiling, ceiling]; rfl
  have hold : heldPressure u = heldPressure { s with params := p } := by
    rw [heldPressure, top, h, heldPressure]
    rfl
  have groups (g : Fin 4) : u.outputs[groupOutput g].value = groupSetpoint { s with params := p } g := by
    rw [h, deriveSetpoints_group]
  refine ⟨by rw [h]; rfl, fun o ho => ?_, fun boring g => ?_, fun still g => ?_, fun rest g => ?_⟩
  · rw [h]
    refine deriveSetpoints_other (fun group => ho ?_) _
    simp only [List.mem_cons, List.not_mem_nil, or_false]
    omega
  · rw [groups, top, groupSetpoint]
    simp only [boring]
  · rw [groups, hold]
    exact groupSetpoint_held (s := { s with params := p }) still g
  · rw [groups, groupSetpoint]
    obtain cycle | cycle | cycle := rest <;> simp only [cycle]

/-- The cylinders judged again on a change of RETRACTED_AT (R91, R130). -/
theorem cylinders_retaken (time : p.erectorStepTime = s.params.erectorStepTime) (u : State)
    (h : u = cylindersRetaken s { s with params := p }) :
    u = { s with params := u.params, outputs := u.outputs, cylinders := u.cylinders, place := u.place } ∧
    OutputsKeptBut [21] s u ∧ TimersStopped s u ∧ ClearingFollows s u := by
  have same : SameCylinders s { s with params := p } := ⟨rfl, rfl, rfl, rfl, time⟩
  subst h
  refine ⟨?_, cylindersRetaken_keeps (s := { s with params := p }), cylindersRetaken_timers same,
    cylindersRetaken_clearing same⟩
  rw [State.eq_iff]
  simp

theorem not_mem_screw {o : Fin 25} (h : o.val ∉ [22]) : o ≠ 22 := by
  rintro rfl
  simp at h

/-- The balance taken again (R103, R163). -/
theorem balance_retaken (u : State) (h : u = balanceTaken (overExcavation s) { s with params := p }) :
    u = { s with params := u.params, outputs := u.outputs } ∧ OutputsKeptBut [22] s u ∧
    ScrewRanged (overExcavation u != overExcavation s) s u := by
  subst h
  refine ⟨?_, fun o ho => balanceTaken_other (not_mem_screw ho) _ _, balanceTaken_ranged rfl rfl rfl rfl⟩
  rw [State.eq_iff]
  simp

/-- The screw's range taken again (R163). -/
theorem screw_retaken (u : State) (h : u = screwRange { s with params := p }) :
    u = { s with params := u.params, outputs := u.outputs } ∧ OutputsKeptBut [22] s u ∧ ScrewRanged true s u := by
  subst h
  refine ⟨?_, fun o ho => screwRange_other (not_mem_screw ho) _, screwRange_ranged rfl rfl rfl rfl⟩
  rw [State.eq_iff]
  simp

/-- A shot ended where it has taken the new SHOT_VOLUME (R147); grouting is allowed as before. -/
theorem shot_retaken (rate : p.groutRate = s.params.groutRate ∧ p.pumpMax = s.params.pumpMax) (one : OneServing s)
    (q : Fin 6) : (shotVolumeEnd { s with params := p }).ports[q] =
      if s.ports[q].state = .serving ∧ groutAllowed s = true ∧ p.shotVolume ≤ s.ports[q].shot then
        { s.ports[q] with state := .idle, timer := { s.ports[q].timer with running := false } }
      else s.ports[q] := by
  have allowed : groutAllowed { s with params := p } = groutAllowed s := by
    obtain ⟨grout, pump⟩ := rate
    rw [groutAllowed, pumpRate, grout, pump, groutAllowed, pumpRate]
    rfl
  have ended := shotVolumeEnd_get (s := { s with params := p }) one q
  rwa [allowed] at ended

theorem grout_retaken (u : State) (h : u = groutSettle { s with params := p }) :
    u = groutSettle { s with params := u.params } := by
  have params : u.params = p := by simp [h]
  rw [params, h]

end tuning

/-- What the blocks do with a tuning value once it is stored. -/
theorem actOnTuning_acts (k : Tuning) (v : Nat) (s : State) :
    TuningActs k v s (actOnTuning k s { s with params := storeTuning s.params k v }) := by
  cases k with
  | pMax => exact setpoints_retaken s _ _ rfl
  | pDerate => exact setpoints_retaken s _ _ rfl
  | holdPressure => exact setpoints_retaken s _ _ rfl
  | retractedAt => exact cylinders_retaken s (storeTuning s.params .retractedAt v) rfl _ rfl
  | density => exact balance_retaken s _ _ rfl
  | balanceStart => exact balance_retaken s _ _ rfl
  | balanceHigh => exact balance_retaken s _ _ rfl
  | balanceLow => exact balance_retaken s _ _ rfl
  | screwMin => exact screw_retaken s _ _ rfl
  | screwMax => exact screw_retaken s _ _ rfl
  | screwBalanceCeiling => exact screw_retaken s _ _ rfl
  | shotVolume =>
    refine fun one => ⟨_, rfl, ?_, shot_retaken s (storeTuning s.params .shotVolume v) ⟨rfl, rfl⟩ one⟩
    conv_lhs => rw [shotVolumeEnd_leaves]
    rw [(actOnTuning_frame _ _ _).2.2.2.2]
  | groutRate => exact grout_retaken s _ _ rfl
  | pumpMax => exact grout_retaken s _ _ rfl
  | jumpLimit | retractTime | erectorStepTime | blockTime | staleTime | groundFactor | faceTarget | screwStart
  | screwGain | screwStep | groutFactor | pulseWeight => rfl

theorem actOnTuning_leaves (k : Tuning) (before s : State) :
    (actOnTuning k before s).cycle = s.cycle ∧ (actOnTuning k before s).stroke = s.stroke ∧
    (actOnTuning k before s).rings = s.rings ∧ (actOnTuning k before s).tools = s.tools ∧
    (actOnTuning k before s).feed = s.feed := by
  cases k <;> simp [actOnTuning]

/-! ### The requests -/

section requests

variable {args : List Byte} {s : State} {g : Geometry} {k : Tuning} {p : Params}

theorem exec_setParam {c : Request → Instr} (row : c = .setParamGeometry ∨ c = .setParamTuning ∨ c = .checkCaptureEmpty)
    {r : Request} (len : r.args.length = 5) (s : State) :
    exec (c r) s = .next (respond 0x10 r s.link.answer (setParam r.args s)) := by
  obtain rfl | rfl | rfl := row <;> exact exec_owner rfl (by rw [len]; rfl) rfl

theorem setParam_unknown (unknown : ParamId.ofCode (field args 0 1) = none) :
    setParam args s = ⟨s, .badArgument, []⟩ := by
  rw [setParam, unknown]
  rfl

theorem setParam_geometry (id : ParamId.ofCode (field args 0 1) = some (.geometry g)) :
    setParam args s = setGeometry (field args 0 1) g (args.drop 1) s := by
  rw [setParam, id]

theorem setParam_wrongState (id : ParamId.ofCode (field args 0 1) = some (.geometry g))
    (shut : geometryOpen g s = false) : setParam args s = ⟨s, .wrongState, []⟩ := by
  rw [setParam_geometry id, setGeometry, if_pos (by simp [shut])]
  rfl

theorem setParam_outside (len : args.length = 5) (id : ParamId.ofCode (field args 0 1) = some (.geometry g))
    (taken : geometryOpen g s = true) (outside : ∀ p, ¬ GeometryTakes g args s.params p) :
    setParam args s = ⟨s, .badArgument, []⟩ := by
  have none : storeGeometry g (args.drop 1) s.params = none :=
    Option.eq_none_iff_forall_ne_some.mpr fun p hp => outside p ((storeGeometry_iff len g s.params p).mp hp)
  rw [setParam_geometry id, setGeometry, if_neg (by simp [taken]), none]
  rfl

/-- The state with a geometry parameter stored (R172, R37). -/
def geometryStored (g : Geometry) (p : Params) (s : State) : State :=
  if g.mandatory then evalConfigured { s with params := p } else { s with params := p }

theorem setParam_stored (len : args.length = 5) (id : ParamId.ofCode (field args 0 1) = some (.geometry g))
    (taken : geometryOpen g s = true) (inside : GeometryTakes g args s.params p) : setParam args s =
      ⟨geometryStored g p s, .done, args⟩ := by
  rw [setParam_geometry id, setGeometry, if_neg (by simp [taken]), (storeGeometry_iff len g s.params p).mpr inside]
  show doneWith _ _ = _
  rw [paramBytes_args len, doneWith, geometryStored]

/-- The value a tuning parameter is stored as (R173). -/
def tuningStored (k : Tuning) (args : List Byte) (s : State) : Nat :=
  clampTo (tuningRange s.params k).1 (tuningRange s.params k).2 (field args 1 4)

/-- The state with a tuning value stored and acted on at once (R173). -/
def tuningTaken (k : Tuning) (args : List Byte) (s : State) : State :=
  actOnTuning k s { s with params := storeTuning s.params k (tuningStored k args s) }

theorem setParam_tuning (len : args.length = 5) (id : ParamId.ofCode (field args 0 1) = some (.tuning k)) :
    setParam args s =
      ⟨tuningTaken k args s,
        if tuningStored k args s = field args 1 4 then .done else .doneClamped,
        args.take 1 ++ beBytes 4 (tuningStored k args s)⟩ := by
  rw [setParam, id]
  show setTuning _ _ _ _ = _
  rw [setTuning, ← tuningStored, ← tuningTaken, paramBytes, beBytes_id len, doneOrClamped]
  simp only [bne_iff_ne, ite_not]

theorem setParam_checkCapture (id : field args 0 1 = 0x40) : setParam args s =
    if field args 1 4 = 0 then
      ⟨{ s with checkCaptured := none, checkFailures := 0 }, .done, [0x40, 0x00, 0x00, 0x00, 0x00]⟩
    else ⟨s, .badArgument, []⟩ := by
  rw [setParam, id]
  rfl

end requests

/-- Settles O21. -/
theorem setParameters : Obligations.SetParameters := by
  refine fun c row => ⟨fun r s len unknown => ?_, fun r g s len id shut => ?_,
    fun r g s len id cycle account rings => ?_, fun r k s len id => ?_, fun p k => ?_, fun r s len id => ?_⟩
  · rw [exec_setParam row len, setParam_unknown unknown]
  · rw [exec_setParam row len, setParam_wrongState id (geometryOpen_not shut)]
  · have taken : geometryOpen g s = true := (geometryOpen_iff g s).mpr ⟨cycle, account, rings⟩
    refine ⟨fun outside => ?_, fun p inside => ⟨geometryStored g p s, ?_, ?_, fun plain => ?_, fun mandatory => ?_⟩⟩
    · rw [exec_setParam row len, setParam_outside len id taken outside]
    · rw [exec_setParam row len, setParam_stored len id taken inside]
    · unfold geometryStored
      split
      · exact (evalConfigured_followed { s with params := p }).leaves
      · rfl
    · refine if_neg ?_
      obtain rfl | rfl | rfl := plain <;> decide
    · have judged : g.mandatory = true := by obtain rfl | rfl | rfl | rfl := mandatory <;> rfl
      rw [geometryStored, if_pos judged]
      exact ⟨evalConfigured_configured _, evalConfigured_same, fun was now =>
        ⟨evalConfigured_enters inside.pressures was now, evalConfigured_stays was now⟩⟩
  · obtain ⟨-, -, -, -, params⟩ := actOnTuning_frame k s
      { s with params := storeTuning s.params k (tuningStored k r.args s) }
    obtain ⟨cycle, stroke, rings, tools, feed⟩ := actOnTuning_leaves k s
      { s with params := storeTuning s.params k (tuningStored k r.args s) }
    refine ⟨tuningTaken k r.args s, tuningStored k r.args s, ?_, ?_, fun k' other => ?_, fun g => ?_,
      fun range => clampTo_eq range _, cycle, stroke, rings, tools, feed, actOnTuning_acts k _ s⟩
    · rw [exec_setParam row len, setParam_tuning len id]
    · rw [tuningTaken, params, getTuning_storeTuning, if_pos rfl]
    · rw [tuningTaken, params, getTuning_storeTuning, if_neg other]
    · rw [tuningTaken, params, getGeometry_storeTuning]
  · cases k with
    | screwMin => rw [tuningRange, Nat.min_comm p.screwBalanceCeiling]
    | _ => rfl
  · rw [exec_setParam row len, setParam_checkCapture id]

end Sys2Proof.Machine

/-! ## The advance measured (R96, R97, R100, R103, R116) -/

namespace Sys2Proof.Machine

/-! ### Settling twice -/

theorem portsSettled_allowed {s : State} (h : groutAllowed s = true) :
    portsSettled s = if (servingPort s).isNone then search s else s := if_pos h

theorem search_of_resting {s : State} (h : servingPort (search s) = none) : search s = s := by
  rw [servingPort_eq_none] at h
  unfold search at h ⊢
  split
  · next fresh =>
    rw [if_pos fresh] at h
    split
    · next e p found =>
      rw [found] at h
      have port := h p
      dsimp only at port
      rw [setPort_get, if_pos rfl] at port
      exact absurd rfl port
    · rfl
  · rfl

/-- The Grout Controller, settled, settles no further (R146, R150). -/
theorem portsSettled_again {a b : State} (one : OneServing a) (ports : b.ports = (portsSettled a).ports)
    (pointer : b.pointer = (portsSettled a).pointer) (rotation : b.rotation = a.rotation) (params : b.params = a.params)
    (fresh : b.channels[(23 : Fin 30)].fresh = a.channels[(23 : Fin 30)].fresh)
    (allowed : groutAllowed b = groutAllowed a) :
    (portsSettled b).ports = b.ports ∧ (portsSettled b).pointer = b.pointer := by
  have serving := servingPort_congr ports
  cases grouting : groutAllowed a with
  | false =>
    have rests : servingPort b = none := by rw [serving, portsSettled_forbidden grouting, endServing_serving one]
    rw [portsSettled_forbidden (allowed.trans grouting), endServing_of_none rests]
    exact ⟨rfl, rfl⟩
  | true =>
    rw [portsSettled_allowed (allowed.trans grouting)]
    cases served : servingPort b with
    | some p => exact ⟨rfl, rfl⟩
    | none =>
      have rested : servingPort a = none := by
        cases was : servingPort a with
        | none => rfl
        | some p =>
          rw [serving, portsSettled_allowed grouting, was] at served
          cases served.symm.trans was
      rw [portsSettled_allowed grouting, rested, Option.isNone_none, if_pos rfl] at ports pointer serving
      have idle := search_of_resting (serving.symm.trans served)
      rw [idle] at ports pointer
      have like : SettlesLike a b := ⟨ports, pointer, rotation, params, fresh, allowed⟩
      obtain ⟨found, moved⟩ := like.search
      rw [Option.isNone_none, if_pos rfl, found, moved, idle, ports, pointer]
      exact ⟨rfl, rfl⟩

theorem Output.write_write (o : Output) (v : Nat) : (o.write v).write v = o.write v := by
  rw [Output.write, if_pos (Output.write_value o v)]

/-- What follows a second settling follows the first (R35). -/
theorem GroutFollows.again {a b m t : State} (first : GroutFollows a m) (second : GroutFollows b t)
    (one : OneServing a) (ports : b.ports = m.ports) (pointer : b.pointer = m.pointer)
    (rotation : b.rotation = a.rotation) (params : b.params = a.params)
    (fresh : b.channels[(23 : Fin 30)].fresh = a.channels[(23 : Fin 30)].fresh)
    (allowed : groutAllowed b = groutAllowed a) (valve : b.outputs[(23 : Fin 25)] = m.outputs[(23 : Fin 25)])
    (pump : b.outputs[(24 : Fin 25)] = m.outputs[(24 : Fin 25)]) : GroutFollows a t := by
  obtain ⟨ports', pointer', valve', pump'⟩ := first
  rw [← ports, groutSettle_ports] at ports'
  rw [← pointer, groutSettle_pointer] at pointer'
  rw [← valve, groutSettle_valve] at valve'
  rw [← pump, groutSettle_pump] at pump'
  obtain ⟨kept, stays⟩ := portsSettled_again one ports' pointer' rotation params fresh allowed
  rw [GroutFollows, groutSettle_ports, groutSettle_pointer, groutSettle_valve, groutSettle_pump,
    servingPort_congr kept, kept, stays, valve', pump', servingPort_congr ports'] at second
  have rate (served : Option (Fin 6)) : pumpFor b served = pumpFor a served := by
    rw [pumpFor, pumpRate, params, pumpFor, pumpRate]
  rw [rate, Output.write_write, Output.write_write] at second
  rwa [GroutFollows, groutSettle_ports, groutSettle_pointer, groutSettle_valve, groutSettle_pump, ← ports', ← pointer']

/-! ### An increment accounted (R97, R100, R103, R116, R117) -/

theorem zip_map_any {α β : Type} (l : List α) (f : α → β) (p : α × β → Bool) :
    (l.zip (l.map f)).any p = l.any fun x => p (x, f x) := by
  induction l with
  | nil => rfl
  | cons x l ih => simp [ih]

theorem noticesRaised_raiseIf (b : Bool) (n : Notice) (s : State) :
    NoticesRaised (fun m => m = n ∧ b = true) s (raiseIf b n s) := by
  cases b with
  | false => exact (noticesRaised_none rfl).congr (by simp)
  | true => exact (noticesRaised_raise n s).congr (by simp)

/-- What latches is all that counts of the earlier state. -/
theorem NoticesRaised.of_before {p : Notice → Prop} {s t u : State} (h : NoticesRaised p t u)
    (e : t.latched = s.latched) : NoticesRaised p s u := by
  intro n
  rw [h n, e]

/-- A range taken stands with the word through what leaves the account and the parameters. -/
theorem ScrewRanged.of_after {taken : Bool} {s t u : State} (h : ScrewRanged taken s t)
    (word : u.outputs[(22 : Fin 25)] = t.outputs[(22 : Fin 25)]) (stroke : u.stroke = t.stroke)
    (params : u.params = t.params) : ScrewRanged taken s u := by
  rw [ScrewRanged] at h ⊢
  rw [word, h]
  simp only [screwClamp_congr stroke params]

/-- The account with an increment (R97, R100). -/
def strokeAdvanced (delta mean : Nat) (s : State) : Stroke :=
  { s.stroke with
    high := mean
    advance := s.stroke.advance + delta
    litres := s.stroke.litres + (s.stroke.remainder + s.params.faceArea.getD 0 * delta) / 100000
    remainder := (s.stroke.remainder + s.params.faceArea.getD 0 * delta) % 100000 }

/-- The rings with an increment (R116). -/
def ringsAdvanced (delta : Nat) (s : State) : List Ring :=
  s.rings.map (Ring.advanced (s.params.tailLength.getD 0) (s.params.ringWidth.getD 0) delta)

section increment

variable (delta mean : Nat) (s : State)

/-- The balance taken with the increment accounted, before the rings take it. -/
def balanceAdvanced : State := balanceTaken (overExcavation s) { s with stroke := strokeAdvanced delta mean s }

theorem advanceRings_eq : advanceRings delta s =
    groutSettle (raiseGrouted s.rings { s with rings := ringsAdvanced delta s }) := rfl

/-- The rings advanced, before the grout settles. -/
def registerAdvanced : State :=
  raiseGrouted s.rings { balanceAdvanced delta mean s with rings := ringsAdvanced delta s }

theorem accountIncrement_eq : accountIncrement delta mean s = groutSettle (registerAdvanced delta mean s) := by
  have same : (balanceAdvanced delta mean s).rings = s.rings ∧ (balanceAdvanced delta mean s).params = s.params := by
    simp [balanceAdvanced]
  obtain ⟨rings, params⟩ := same
  have advanced : ringsAdvanced delta (balanceAdvanced delta mean s) = ringsAdvanced delta s := by
    rw [ringsAdvanced, rings, params, ringsAdvanced]
  rw [registerAdvanced, ← advanced, ← rings, ← advanceRings_eq]
  rfl

theorem balanceAdvanced_word {o : Fin 25} (h : o ≠ 22) :
    (balanceAdvanced delta mean s).outputs[o] = s.outputs[o] := balanceTaken_other h _ _

theorem registerAdvanced_outputs :
    (registerAdvanced delta mean s).outputs = (balanceAdvanced delta mean s).outputs := by
  simp [registerAdvanced]

theorem accountIncrement_stroke : (accountIncrement delta mean s).stroke = strokeAdvanced delta mean s := by
  simp [accountIncrement_eq, registerAdvanced, balanceAdvanced]

theorem accountIncrement_rings : (accountIncrement delta mean s).rings = ringsAdvanced delta s := by
  simp [accountIncrement_eq, registerAdvanced]

theorem accountIncrement_keeps : OutputsKeptBut [22, 23, 24] s (accountIncrement delta mean s) := by
  intro o ho
  have apart : o ≠ 22 ∧ o ≠ 23 ∧ o ≠ 24 := by
    refine ⟨?_, ?_, ?_⟩ <;> rintro rfl <;> simp at ho
  obtain ⟨screw, valve, pump⟩ := apart
  rw [accountIncrement_eq, groutSettle_other valve pump, registerAdvanced_outputs, balanceAdvanced_word _ _ _ screw]

theorem accountIncrement_screw :
    ScrewRanged (overExcavation (accountIncrement delta mean s) != overExcavation s) s
      (accountIncrement delta mean s) := by
  have taken := balanceTaken_ranged (s := s) (w := { s with stroke := strokeAdvanced delta mean s }) rfl rfl rfl rfl
  rw [← balanceAdvanced] at taken
  have stroke : (accountIncrement delta mean s).stroke = (balanceAdvanced delta mean s).stroke := by
    rw [accountIncrement_stroke]
    simp [balanceAdvanced]
  have params : (accountIncrement delta mean s).params = (balanceAdvanced delta mean s).params := by
    simp [balanceAdvanced]
  rw [overExcavation_congr stroke params]
  refine taken.of_after ?_ stroke params
  rw [accountIncrement_eq, groutSettle_other (by decide) (by decide), registerAdvanced_outputs]

theorem accountIncrement_grout :
    GroutFollows { s with rings := ringsAdvanced delta s } (accountIncrement delta mean s) := by
  have settled : GroutFollows (registerAdvanced delta mean s) (accountIncrement delta mean s) := by
    rw [accountIncrement_eq]
    exact ⟨rfl, rfl, rfl, rfl⟩
  have word {o : Fin 25} (h : o ≠ 22) : s.outputs[o] = (registerAdvanced delta mean s).outputs[o] := by
    rw [registerAdvanced_outputs, balanceAdvanced_word _ _ _ h]
  exact settled.of_alike (by simp [GroutAlike, registerAdvanced, balanceAdvanced]) (word (by decide)) (word (by decide))

theorem accountIncrement_raises : NoticesRaised (fun n => n = .ringGrouted ∧ ∃ x ∈ s.rings, x.state ≠ .grouted ∧
    (Ring.advanced (s.params.tailLength.getD 0) (s.params.ringWidth.getD 0) delta x).state = .grouted) s
    (accountIncrement delta mean s) := by
  have raised := noticesRaised_raiseIf
    ((s.rings.zip (ringsAdvanced delta s)).any fun (a, b) => a.state != .grouted && b.state == .grouted) .ringGrouted
    { balanceAdvanced delta mean s with rings := ringsAdvanced delta s }
  refine ((raised.of_before (s := s) ?_).of_latched ?_).congr fun n => ?_
  · simp [balanceAdvanced]
  · simp [accountIncrement_eq, registerAdvanced, raiseGrouted]
  · rw [ringsAdvanced, zip_map_any]
    simp

end increment

end Sys2Proof.Machine

/-! ## A sample of an extension (R88, R91, R96, R97, R43) -/

namespace Sys2Proof.Machine

/-! ### The measurement -/

theorem overExcavation_of_account {s t : State} (state : t.stroke.state = s.stroke.state)
    (advance : t.stroke.advance = s.stroke.advance) (litres : t.stroke.litres = s.stroke.litres)
    (remainder : t.stroke.remainder = s.stroke.remainder) (weighed : t.stroke.weighed = s.stroke.weighed)
    (params : t.params = s.params) : overExcavation t = overExcavation s := by
  have mass : expectedMass t = expectedMass s := by rw [expectedMass, litres, remainder, params, expectedMass]
  have ratio : balanceRatio t = balanceRatio s := by
    rw [balanceRatio, mass, state, advance, weighed, params, balanceRatio]
  rw [overExcavation, ratio, params, overExcavation]

/-- The reference mean lies above the high-water mark of the OPEN account, the reference channels FRESH (R97). -/
def Measures (mean : Nat) (fresh : Bool) (s : State) : Prop :=
  s.stroke.state = .opened ∧ fresh = true ∧ s.stroke.high < mean

/-- What a measurement does from `s` to `t`, with the reference mean and whether the channels are FRESH. -/
structure MeasureTaken (mean : Nat) (fresh : Bool) (s t : State) : Prop where
  leaves : t = { s with
    stroke := t.stroke, rings := t.rings, outputs := t.outputs, ports := t.ports, pointer := t.pointer
    latched := t.latched }
  account : t.stroke = { s.stroke with
    high := t.stroke.high, advance := t.stroke.advance, litres := t.stroke.litres, remainder := t.stroke.remainder
    jumps := t.stroke.jumps }
  raised : NoticesRaised (fun n => (n = .advanceJump ∧ Measures mean fresh s ∧
      s.params.jumpLimit < mean - s.stroke.high) ∨
    (n = .ringGrouted ∧ (Measures mean fresh s ∧ mean - s.stroke.high ≤ s.params.jumpLimit) ∧
      ∃ x ∈ s.rings, x.state ≠ .grouted ∧ (Ring.advanced (s.params.tailLength.getD 0) (s.params.ringWidth.getD 0)
        (mean - s.stroke.high) x).state = .grouted)) s t
  keeps : OutputsKeptBut [22, 23, 24] s t
  screw : ScrewRanged (overExcavation t != overExcavation s) s t
  grout : Measures mean fresh s → mean - s.stroke.high ≤ s.params.jumpLimit →
    GroutFollows { s with rings := t.rings } t
  still : ¬ (Measures mean fresh s ∧ mean - s.stroke.high ≤ s.params.jumpLimit) →
    t.ports = s.ports ∧ t.pointer = s.pointer ∧ t.outputs = s.outputs
  unmeasured : ¬ Measures mean fresh s → t.stroke = s.stroke ∧ t.rings = s.rings
  accounted : Measures mean fresh s → mean - s.stroke.high ≤ s.params.jumpLimit →
    t.stroke = strokeAdvanced (mean - s.stroke.high) mean s ∧ t.rings = ringsAdvanced (mean - s.stroke.high) s
  rejected : Measures mean fresh s → s.params.jumpLimit < mean - s.stroke.high →
    t.stroke = { s.stroke with high := mean, jumps := min (s.stroke.jumps + 1) 65535 } ∧ t.rings = s.rings

/-- The measurement of a sample on a reference channel. -/
def measured (mean : Nat) (fresh : Bool) (s : State) : State := if fresh then measure mean s else s

section measured

variable {mean : Nat} {fresh : Bool} {s : State}

theorem measured_none (h : ¬ Measures mean fresh s) : measured mean fresh s = s := by
  unfold measured measure
  split
  · next set =>
    refine if_pos ?_
    by_contra above
    rw [not_or, not_not, Nat.not_le] at above
    exact h ⟨above.1, set, above.2⟩
  · rfl

theorem measured_above (h : Measures mean fresh s) : measured mean fresh s =
    if mean - s.stroke.high ≤ s.params.jumpLimit then accountIncrement (mean - s.stroke.high) mean s
    else rejectJump mean s := by
  obtain ⟨opened, set, above⟩ := h
  rw [measured, set, if_pos rfl, measure, if_neg (by simp [opened, above])]

/-- Nothing is measured. -/
theorem measureTaken_none (h : ¬ Measures mean fresh s) : MeasureTaken mean fresh s s where
  leaves := rfl
  account := rfl
  raised := (noticesRaised_none rfl).congr fun n => by simp [h]
  keeps := fun _ _ => rfl
  screw := by
    rw [bne_self_eq_false]
    exact screwRanged_kept rfl
  grout := fun taken => absurd taken h
  still := fun _ => ⟨rfl, rfl, rfl⟩
  unmeasured := fun _ => ⟨rfl, rfl⟩
  accounted := fun taken => absurd taken h
  rejected := fun taken => absurd taken h

/-- The increment is accounted. -/
theorem measureTaken_accounted (h : Measures mean fresh s) (within : mean - s.stroke.high ≤ s.params.jumpLimit) :
    MeasureTaken mean fresh s (accountIncrement (mean - s.stroke.high) mean s) where
  leaves := by
    rw [State.eq_iff]
    simp
  account := by
    rw [accountIncrement_stroke]
    rfl
  raised := (accountIncrement_raises _ mean s).congr fun n => by simp [h, within, Nat.not_lt.mpr within]
  keeps := accountIncrement_keeps _ _ s
  screw := accountIncrement_screw _ _ s
  grout := fun _ _ => by
    rw [accountIncrement_rings]
    exact accountIncrement_grout _ _ s
  still := fun other => absurd ⟨h, within⟩ other
  unmeasured := fun other => absurd h other
  accounted := fun _ _ => ⟨accountIncrement_stroke _ _ s, accountIncrement_rings _ _ s⟩
  rejected := fun _ beyond => absurd within (Nat.not_le.mpr beyond)

/-- The jump is rejected. -/
theorem measureTaken_rejected (h : Measures mean fresh s) (beyond : s.params.jumpLimit < mean - s.stroke.high) :
    MeasureTaken mean fresh s (rejectJump mean s) where
  leaves := rfl
  account := rfl
  raised := by
    refine ((noticesRaised_raise .advanceJump s).of_latched rfl).congr fun n => ?_
    simp [h, beyond, Nat.not_le.mpr beyond]
  keeps := fun _ _ => rfl
  screw := by
    have same : overExcavation (rejectJump mean s) = overExcavation s :=
      overExcavation_of_account rfl rfl rfl rfl rfl rfl
    rw [same, bne_self_eq_false]
    exact screwRanged_kept rfl
  grout := fun _ within => absurd within (Nat.not_le.mpr beyond)
  still := fun _ => ⟨rfl, rfl, rfl⟩
  unmeasured := fun other => absurd h other
  accounted := fun _ within => absurd within (Nat.not_le.mpr beyond)
  rejected := fun _ _ => ⟨rfl, rfl⟩

theorem measured_taken (mean : Nat) (fresh : Bool) (s : State) : MeasureTaken mean fresh s (measured mean fresh s) := by
  by_cases h : Measures mean fresh s
  · rw [measured_above h]
    split
    · next within => exact measureTaken_accounted h within
    · next beyond => exact measureTaken_rejected h (Nat.not_le.mp beyond)
  · rw [measured_none h]
    exact measureTaken_none h

end measured

end Sys2Proof.Machine

namespace Sys2Proof.Machine

/-! ### The stroke limit (R43) -/

/-- The end of the stroke where the sample lies at STROKE_LIMIT in BORING (R43). -/
def limitTaken (value : Nat) (s : State) : State :=
  if s.cycle = .boring ∧ s.params.strokeLimit ≤ value then endStrokeWith .strokeLimit s else s

/-- What follows a measurement from `s` to `t`; `ends` says that the stroke ends. -/
structure LimitTaken (ends : Prop) (s t : State) : Prop where
  leaves : t = { s with
    stroke := t.stroke, latched := t.latched, outputs := t.outputs, ports := t.ports, pointer := t.pointer
    cycle := t.cycle }
  account : t.stroke = { s.stroke with state := t.stroke.state, endCause := t.stroke.endCause }
  raised : NoticesRaised (fun n => n = .strokeEnded ∧ ends) s t
  placement : CommandsKept s t ∧ t.outputs[(21 : Fin 25)] = s.outputs[(21 : Fin 25)]
  ended : ends → t.cycle = .standstill ∧ t.stroke.state = .closed ∧ t.stroke.endCause = some .strokeLimit ∧
    t.outputs[(0 : Fin 25)].value = 0 ∧ GroupsAt t (fun _ => heldPressure s) ∧ t.outputs[(22 : Fin 25)].value = 0
  grout : ends → s.cycle = .boring ∧ GroutFollows { s with cycle := .standstill } t
  stands : ¬ ends → t = s

theorem limitTaken_none {s : State} {ends : Prop} (h : ¬ ends) : LimitTaken ends s s where
  leaves := rfl
  account := rfl
  raised := (noticesRaised_none rfl).congr fun n => by simp [h]
  placement := ⟨fun _ => rfl, rfl⟩
  ended := fun taken => absurd taken h
  grout := fun taken => absurd taken h
  stands := fun _ => rfl

theorem limitTaken_ends {s : State} {ends : Prop} (h : ends) (boring : s.cycle = .boring) :
    LimitTaken ends s (endStrokeWith .strokeLimit s) := by
  obtain ⟨permit, groups, screw, commands, erector, grout⟩ := endStrokeWith_boring_outputs boring .strokeLimit
  have stroke : (endStrokeWith .strokeLimit s).stroke =
      { s.stroke with state := .closed, endCause := some .strokeLimit } := by rw [endStrokeWith_leaves]
  have cycle : (endStrokeWith .strokeLimit s).cycle = .standstill := by rw [endStrokeWith_leaves, if_pos boring]
  have latched : (endStrokeWith .strokeLimit s).latched = s.latched ||| Notice.strokeEnded.bit := by
    rw [endStrokeWith_leaves]
  refine ⟨?_, by rw [stroke], ?_, ⟨commands, erector⟩, fun _ => ⟨cycle, by rw [stroke], by rw [stroke], permit, groups,
    screw⟩, fun _ => ⟨boring, grout⟩, fun other => absurd h other⟩
  · conv_lhs => rw [endStrokeWith_leaves]
    rw [cycle, stroke, latched, if_pos boring]
  · refine ((noticesRaised_raise .strokeEnded s).of_latched latched).congr fun n => by simp [h]

theorem limitTaken_taken (value : Nat) (s : State) :
    LimitTaken (s.cycle = .boring ∧ s.params.strokeLimit ≤ value) s (limitTaken value s) := by
  unfold limitTaken
  split
  · next ends => exact limitTaken_ends ends ends.1
  · next other => exact limitTaken_none other

/-! ### The reference cylinders (R96) -/

theorem refCylinders_toList (refs : Vector (Fin 16) 4) : refs.toList = [refs[0], refs[1], refs[2], refs[3]] := by
  refine List.ext_getElem (by simp) fun k hk _ => ?_
  simp only [Vector.length_toList] at hk
  interval_cases k <;> rfl

theorem referencesFresh_iff (s : State) : referencesFresh s = true ↔
    ∀ g : Fin 4, s.channels[extensionChannel s.params.refCylinders[g]].fresh = true := by
  simp only [referencesFresh, List.all_eq_true, Vector.mem_toList_iff, Vector.mem_iff_getElem]
  exact ⟨fun all g => all _ ⟨g, g.isLt, rfl⟩, fun all _ ⟨g, hg, same⟩ => same ▸ all ⟨g, hg⟩⟩

theorem referenceMean_eq (s : State) : referenceMean s = (extension s s.params.refCylinders[0] +
    extension s s.params.refCylinders[1] + extension s s.params.refCylinders[2] +
    extension s s.params.refCylinders[3]) / 4 := by
  rw [referenceMean, refCylinders_toList]
  simp [Nat.add_assoc]

theorem references_congr {s t : State} (channels : t.channels = s.channels) (params : t.params = s.params) :
    referencesFresh t = referencesFresh s ∧ referenceMean t = referenceMean s := by
  have values : extension t = extension s := funext fun i => by rw [extension, channels, extension]
  rw [referencesFresh, channels, params, referencesFresh, referenceMean, values, params, referenceMean]
  exact ⟨rfl, rfl⟩

/-! ### The sample -/

section sample

variable (i : Fin 16) (v : Nat) (s : State)

/-- The cylinders judged on the sample (R88). -/
def sampleRetaken : State := cylindersRetaken s (takeSample (extensionChannel i) v s)

/-- The measurement made on it where the cylinder is a reference (R96, R97). -/
def sampleMeasured : State :=
  measured (referenceMean (sampleRetaken i v s)) (referencesFresh (sampleRetaken i v s)) (sampleRetaken i v s)

end sample

variable {i : Fin 16} {v : Nat} {s : State}

theorem exec_extension (i : Fin 16) (v : Word16) (s : State) : exec (.sampleArrival (extensionChannel i) v) s =
    .next (if isReference s i then limitTaken (min v.toNat 24000) (sampleMeasured i v.toNat s)
      else sampleRetaken i v.toNat s) := by
  have top : upperEnd (extensionChannel i) = 24000 := if_pos i.isLt
  have reference : isReference (sampleRetaken i v.toNat s) i = isReference s i := by
    simp [isReference, sampleRetaken]
  show Host.Outcome.next (arrive (extensionChannel i) v.toNat s) = _
  rw [arrive, top, deliver, dif_pos (show (extensionChannel i).val < 16 from i.isLt), ← reference]
  rfl

theorem sameCylinders_takeSample (c : Fin 30) (v : Nat) (s : State) : SameCylinders s (takeSample c v s) :=
  ⟨rfl, rfl, rfl, rfl, rfl⟩

theorem sampleRetaken_leaves : sampleRetaken i v s = { s with
    channels := (sampleRetaken i v s).channels, outputs := (sampleRetaken i v s).outputs
    cylinders := (sampleRetaken i v s).cylinders, place := (sampleRetaken i v s).place } := by
  rw [State.eq_iff]
  simp [sampleRetaken]

theorem sampleRetaken_keeps : OutputsKeptBut [21] s (sampleRetaken i v s) :=
  cylindersRetaken_keeps (before := s) (s := takeSample (extensionChannel i) v s)

theorem sampleRetaken_fields : (sampleRetaken i v s).cycle = s.cycle ∧ (sampleRetaken i v s).params = s.params ∧
    (sampleRetaken i v s).stroke = s.stroke ∧ (sampleRetaken i v s).rings = s.rings ∧
    (sampleRetaken i v s).ports = s.ports ∧ (sampleRetaken i v s).pointer = s.pointer ∧
    (sampleRetaken i v s).rotation = s.rotation ∧ (sampleRetaken i v s).latched = s.latched ∧
    (sampleRetaken i v s).inputs = s.inputs ∧ (sampleRetaken i v s).screw = s.screw := by
  rw [sampleRetaken_leaves]
  exact ⟨rfl, rfl, rfl, rfl, rfl, rfl, rfl, rfl, rfl, rfl⟩

/-- What the sample does to the cylinders and CLEARING stands through what leaves them. -/
theorem placement_after {r t : State} (retaken : r = sampleRetaken i v s) (cylinders : t.cylinders = r.cylinders)
    (place : t.place = r.place) (channels : t.channels = r.channels) (params : t.params = r.params)
    (commands : CommandsKept r t) (erector : t.outputs[(21 : Fin 25)] = r.outputs[(21 : Fin 25)]) :
    CommandsKept s t ∧ TimersStopped s t ∧ ClearingFollows s t := by
  have same := sameCylinders_takeSample (extensionChannel i) v s
  have timers : TimersStopped s r := by
    rw [retaken]
    exact cylindersRetaken_timers same
  have clearing : ClearingFollows s r := by
    rw [retaken]
    exact cylindersRetaken_clearing same
  have kept : CommandsKept s r := by
    rw [retaken]
    exact fun j => sampleRetaken_keeps _ (cylinderOutput_not_erector j)
  have stands (j : Fin 16) : standsRetracted t j = standsRetracted r j :=
    standsRetracted_congr commands channels (by rw [params]) j
  refine ⟨fun j => (commands j).trans (kept j), fun j => ?_, ?_⟩
  · rw [cylinders, stands]
    exact timers j
  · simpa only [ClearingFollows, RetractionReported, stands, place, erector] using clearing

/-! ### A reference cylinder's sample -/

/-- The groups' pumping cycle states are those in which grouting is allowed alike (R144). -/
theorem groutAllowed_standstill {s : State} (boring : s.cycle = .boring) :
    groutAllowed { s with cycle := .standstill } = groutAllowed s := by
  rw [groutAllowed, groutAllowed, boring]
  rfl

section reference

variable {mean : Nat} {fresh : Bool} {ends : Prop} {r m t : State}

theorem measured_fields (taken : MeasureTaken mean fresh r m) : m.cycle = r.cycle ∧ m.params = r.params ∧
    m.channels = r.channels ∧ m.cylinders = r.cylinders ∧ m.place = r.place ∧ m.rotation = r.rotation ∧
    m.gaugeWorn = r.gaugeWorn := by
  rw [taken.leaves]
  exact ⟨rfl, rfl, rfl, rfl, rfl, rfl, rfl⟩

/-- The grout after an increment, the end of the stroke, or both (R144, R35). -/
theorem sample_grout (taken : MeasureTaken mean fresh r m) (limit : LimitTaken ends m t) (one : OneServing r)
    (h : (Measures mean fresh r ∧ mean - r.stroke.high ≤ r.params.jumpLimit) ∨ ends) :
    GroutFollows { r with rings := t.rings } t := by
  have rings : t.rings = m.rings := by rw [limit.leaves]
  obtain ⟨cycle, params, channels, -, -, rotation, -⟩ := measured_fields taken
  rw [rings]
  by_cases ended : ends
  · obtain ⟨boring, second⟩ := limit.grout ended
    have allowed : groutAllowed { m with cycle := .standstill } = groutAllowed { r with rings := m.rings } := by
      rw [groutAllowed_standstill boring, groutAllowed, groutAllowed, cycle, pumpRate, params]
      rfl
    have pulses : m.channels[(23 : Fin 30)].fresh = r.channels[(23 : Fin 30)].fresh := by rw [channels]
    by_cases accounted : Measures mean fresh r ∧ mean - r.stroke.high ≤ r.params.jumpLimit
    · exact (taken.grout accounted.1 accounted.2).again second one rfl rfl rotation params pulses allowed rfl rfl
    · obtain ⟨ports, pointer, outputs⟩ := taken.still accounted
      exact second.of_settlesLike ⟨ports.symm, pointer.symm, rotation.symm, params.symm, pulses.symm, allowed.symm⟩
        (by rw [outputs]) (by rw [outputs])
  · obtain ⟨above, within⟩ := h.resolve_right ended
    rw [limit.stands ended]
    exact taken.grout above within

end reference

end Sys2Proof.Machine

namespace Sys2Proof.Machine

section sampled

variable (i : Fin 16) (v : Nat) (s : State)

/-- The state after the sample of a reference cylinder. -/
def sampleLimited : State := limitTaken (min v 24000) (sampleMeasured i v s)

theorem sampleMeasured_taken :
    MeasureTaken (referenceMean (sampleRetaken i v s)) (referencesFresh (sampleRetaken i v s)) (sampleRetaken i v s)
      (sampleMeasured i v s) := measured_taken _ _ _

theorem sampleLimited_taken : LimitTaken (s.cycle = .boring ∧ s.params.strokeLimit ≤ min v 24000)
    (sampleMeasured i v s) (sampleLimited i v s) := by
  obtain ⟨cycle, params, -⟩ := measured_fields (sampleMeasured_taken i v s)
  obtain ⟨cycle', params', -⟩ := sampleRetaken_fields (i := i) (v := v) (s := s)
  have limit := limitTaken_taken (min v 24000) (sampleMeasured i v s)
  rwa [cycle, cycle', params, params'] at limit

/-- Beside what a sample of any extension changes, a reference cylinder's changes this alone. -/
theorem sampleLimited_leaves : sampleLimited i v s = { sampleRetaken i v s with
    stroke := (sampleLimited i v s).stroke, rings := (sampleLimited i v s).rings
    outputs := (sampleLimited i v s).outputs, ports := (sampleLimited i v s).ports
    pointer := (sampleLimited i v s).pointer, latched := (sampleLimited i v s).latched
    cycle := (sampleLimited i v s).cycle } := by
  have rings : (sampleLimited i v s).rings = (sampleMeasured i v s).rings := by rw [(sampleLimited_taken i v s).leaves]
  rw [rings]
  conv_lhs => rw [(sampleLimited_taken i v s).leaves, (sampleMeasured_taken i v s).leaves]

theorem sampleLimited_words : CommandsKept (sampleRetaken i v s) (sampleLimited i v s) ∧
    (sampleLimited i v s).outputs[(21 : Fin 25)] = (sampleRetaken i v s).outputs[(21 : Fin 25)] := by
  have keeps := (sampleMeasured_taken i v s).keeps
  obtain ⟨commands, erector⟩ := (sampleLimited_taken i v s).placement
  refine ⟨fun j => (commands j).trans (keeps _ ?_), erector.trans (keeps _ (by decide))⟩
  simp only [cylinderOutput, List.mem_cons, List.not_mem_nil, or_false]
  omega

theorem sampleLimited_fields : (sampleLimited i v s).channels = (sampleRetaken i v s).channels ∧
    (sampleLimited i v s).cylinders = (sampleRetaken i v s).cylinders ∧
    (sampleLimited i v s).place = (sampleRetaken i v s).place ∧
    (sampleLimited i v s).params = (sampleRetaken i v s).params := by
  rw [sampleLimited_leaves]
  exact ⟨rfl, rfl, rfl, rfl⟩

theorem sampleLimited_references :
    referencesFresh (sampleLimited i v s) = referencesFresh (sampleRetaken i v s) ∧
    referenceMean (sampleLimited i v s) = referenceMean (sampleRetaken i v s) :=
  references_congr (by rw [sampleLimited_leaves]) (by rw [sampleLimited_leaves])

/-- The measurement, by what the state after the sample holds. -/
theorem sampleMeasured_measures :
    MeasureTaken (referenceMean (sampleLimited i v s)) (referencesFresh (sampleLimited i v s)) (sampleRetaken i v s)
      (sampleMeasured i v s) := by
  obtain ⟨fresh, mean⟩ := sampleLimited_references i v s
  rw [fresh, mean]
  exact sampleMeasured_taken i v s

theorem measures_retaken (mean : Nat) (fresh : Bool) :
    Measures mean fresh (sampleRetaken i v s) ↔ Measures mean fresh s := by
  obtain ⟨-, -, stroke, -⟩ := sampleRetaken_fields (i := i) (v := v) (s := s)
  rw [Measures, stroke, Measures]

theorem sampleMeasured_account : (sampleMeasured i v s).stroke = { s.stroke with
    high := (sampleMeasured i v s).stroke.high, advance := (sampleMeasured i v s).stroke.advance
    litres := (sampleMeasured i v s).stroke.litres, remainder := (sampleMeasured i v s).stroke.remainder
    jumps := (sampleMeasured i v s).stroke.jumps } := by
  obtain ⟨-, -, stroke, -⟩ := sampleRetaken_fields (i := i) (v := v) (s := s)
  rw [← stroke]
  exact (sampleMeasured_taken i v s).account

/-- The end of the stroke leaves of the account all but its state and cause. -/
theorem sampleLimited_account : (sampleLimited i v s).stroke = { (sampleMeasured i v s).stroke with
    state := (sampleLimited i v s).stroke.state, endCause := (sampleLimited i v s).stroke.endCause } :=
  (sampleLimited_taken i v s).account

theorem sampleLimited_rings : (sampleLimited i v s).rings = (sampleMeasured i v s).rings := by
  rw [(sampleLimited_taken i v s).leaves]

end sampled

/-- The range taken again by what the screw was in a state before. -/
theorem ScrewRanged.of_before {taken : Bool} {s r t : State} (h : ScrewRanged taken r t) (cycle : r.cycle = s.cycle)
    (inputs : r.inputs = s.inputs) (screw : r.screw = s.screw)
    (word : r.outputs[(22 : Fin 25)] = s.outputs[(22 : Fin 25)]) : ScrewRanged taken s t := by
  rwa [ScrewRanged, screwRunning_congr cycle inputs, screw, word] at h

section clauses

variable (i : Fin 16) (v : Nat) (s : State)

/-- The notices of a reference cylinder's sample. -/
theorem sampleLimited_raises :
    let t := sampleLimited i v s
    let delta := referenceMean t - s.stroke.high
    let measured := Measures (referenceMean t) (referencesFresh t) s
    NoticesRaised (fun n => (n = .strokeEnded ∧ s.cycle = .boring ∧ s.params.strokeLimit ≤ min v 24000) ∨
      (n = .advanceJump ∧ measured ∧ s.params.jumpLimit < delta) ∨
      (n = .ringGrouted ∧ (measured ∧ delta ≤ s.params.jumpLimit) ∧ ∃ x ∈ s.rings, x.state ≠ .grouted ∧ (Ring.advanced
        (s.params.tailLength.getD 0) (s.params.ringWidth.getD 0) delta x).state = .grouted)) s t := by
  intro t delta measured
  obtain ⟨-, params, stroke, rings, -, -, -, latched, -⟩ := sampleRetaken_fields (i := i) (v := v) (s := s)
  have raised := (sampleMeasured_measures i v s).raised
  simp only [measures_retaken, params, stroke, rings] at raised
  exact ((raised.of_before latched).trans (sampleLimited_taken i v s).raised).congr fun n => or_comm

/-- Where the stroke goes on. -/
theorem sampleLimited_goes (goes : ¬ (s.cycle = .boring ∧ s.params.strokeLimit ≤ min v 24000)) :
    (sampleLimited i v s).cycle = s.cycle ∧ (sampleLimited i v s).stroke.state = s.stroke.state ∧
    (sampleLimited i v s).stroke.endCause = s.stroke.endCause ∧
    OutputsKeptBut [21, 22, 23, 24] s (sampleLimited i v s) ∧
    ScrewRanged (overExcavation (sampleLimited i v s) != overExcavation s) s (sampleLimited i v s) := by
  have taken := sampleMeasured_taken i v s
  obtain ⟨cycle, -⟩ := measured_fields taken
  obtain ⟨cycle', params', stroke', -, -, -, -, -, inputs', screw'⟩ := sampleRetaken_fields (i := i) (v := v) (s := s)
  have before : overExcavation (sampleRetaken i v s) = overExcavation s := overExcavation_congr stroke' params'
  rw [(sampleLimited_taken i v s).stands goes]
  refine ⟨cycle.trans cycle', by rw [sampleMeasured_account], by rw [sampleMeasured_account], fun o ho => ?_, ?_⟩
  · simp only [List.mem_cons, List.not_mem_nil, or_false, not_or] at ho
    exact (taken.keeps o (by simp [ho])).trans (sampleRetaken_keeps o (by simp [ho]))
  · rw [← before]
    exact taken.screw.of_before cycle' inputs' screw' (sampleRetaken_keeps _ (by decide))

/-- Where it ends (R43). -/
theorem sampleLimited_ends (ends : s.cycle = .boring ∧ s.params.strokeLimit ≤ min v 24000) :
    (sampleLimited i v s).cycle = .standstill ∧ (sampleLimited i v s).stroke.state = .closed ∧
    (sampleLimited i v s).stroke.endCause = some .strokeLimit ∧
    (sampleLimited i v s).outputs[(0 : Fin 25)].value = 0 ∧ GroupsAt (sampleLimited i v s) (fun _ => heldPressure s) ∧
    (sampleLimited i v s).outputs[(22 : Fin 25)].value = 0 := by
  obtain ⟨-, params, -, -, -, -, gauge⟩ := measured_fields (sampleMeasured_taken i v s)
  have held : heldPressure (sampleMeasured i v s) = heldPressure s := by
    rw [heldPressure, ceiling, params, gauge, sampleRetaken_leaves, heldPressure, ceiling]
  have ended := (sampleLimited_taken i v s).ended ends
  rwa [held] at ended

theorem sampleLimited_grout (one : OneServing s)
    (h : (Measures (referenceMean (sampleLimited i v s)) (referencesFresh (sampleLimited i v s)) s ∧
      referenceMean (sampleLimited i v s) - s.stroke.high ≤ s.params.jumpLimit) ∨
      (s.cycle = .boring ∧ s.params.strokeLimit ≤ min v 24000)) :
    GroutFollows { s with channels := (sampleLimited i v s).channels, rings := (sampleLimited i v s).rings }
      (sampleLimited i v s) := by
  obtain ⟨cycle, params, stroke, -, ports, pointer, rotation, -⟩ := sampleRetaken_fields (i := i) (v := v) (s := s)
  have before : OneServing (sampleRetaken i v s) := by rwa [OneServing, ports]
  have follows := sample_grout (sampleMeasured_measures i v s) (sampleLimited_taken i v s) before
    (by rwa [measures_retaken, stroke, params])
  have channels : (sampleLimited i v s).channels = (sampleRetaken i v s).channels := by rw [sampleLimited_leaves]
  have word {o : Fin 25} (h : o.val ∉ [21]) : s.outputs[o] = (sampleRetaken i v s).outputs[o] :=
    (sampleRetaken_keeps o h).symm
  exact follows.of_alike (by simp only [GroutAlike, cycle, params, ports, pointer, rotation, channels, and_self])
    (word (by decide)) (word (by decide))

/-- Nothing accounted, and the stroke goes on. -/
theorem sampleLimited_still
    (unaccounted : ¬ (Measures (referenceMean (sampleLimited i v s)) (referencesFresh (sampleLimited i v s)) s ∧
      referenceMean (sampleLimited i v s) - s.stroke.high ≤ s.params.jumpLimit))
    (goes : ¬ (s.cycle = .boring ∧ s.params.strokeLimit ≤ min v 24000)) :
    (sampleLimited i v s).ports = s.ports ∧ (sampleLimited i v s).pointer = s.pointer ∧
    OutputsKeptBut [21] s (sampleLimited i v s) := by
  obtain ⟨-, params, stroke, -, ports', pointer', -⟩ := sampleRetaken_fields (i := i) (v := v) (s := s)
  obtain ⟨ports, pointer, outputs⟩ := (sampleMeasured_measures i v s).still (by rwa [measures_retaken, stroke, params])
  have same := (sampleLimited_taken i v s).stands goes
  refine ⟨?_, ?_, fun o ho => ?_⟩
  · rw [same, ports, ports']
  · rw [same, pointer, pointer']
  · rw [show (sampleLimited i v s).outputs = (sampleRetaken i v s).outputs by rw [same, outputs]]
    exact sampleRetaken_keeps o ho

end clauses

/-- The reference cylinders read with the parameters of a state before. -/
theorem references_of {s t : State} (params : t.params = s.params) :
    (referencesFresh t = true ↔
      ∀ g : Fin 4, t.channels[extensionChannel s.params.refCylinders[g]].fresh = true) ∧
    referenceMean t = (extension t s.params.refCylinders[0] + extension t s.params.refCylinders[1] +
      extension t s.params.refCylinders[2] + extension t s.params.refCylinders[3]) / 4 := by
  simp only [← params]
  exact ⟨referencesFresh_iff t, referenceMean_eq t⟩

/-- Settles O30. -/
theorem advanceMeasured : Obligations.AdvanceMeasured := by
  intro i v s
  obtain ⟨cycle, params, stroke, rings, -⟩ := sampleRetaken_fields (i := i) (v := v.toNat) (s := s)
  have named := isReference_iff s i
  cases reference : isReference s i with
  | false =>
    obtain ⟨commands, timers, clearing⟩ := placement_after (i := i) (v := v.toNat) (s := s) rfl rfl rfl rfl rfl
      (fun _ => rfl) rfl
    refine ⟨sampleRetaken i v.toNat s, by rw [exec_extension, reference]; rfl, ?_, commands, timers, clearing,
      ?_, ?_, ?_, fun _ => ⟨sampleRetaken_keeps, sampleRetaken_leaves⟩, nofun⟩
    · rw [State.eq_iff]
      simp [sampleRetaken]
    · rwa [reference] at named
    · exact (references_of params).1
    · exact (references_of params).2
  | true =>
    obtain ⟨commands, erector⟩ := sampleLimited_words i v.toNat s
    obtain ⟨channels, cylinders, place, after⟩ := sampleLimited_fields i v.toNat s
    obtain ⟨kept, timers, clearing⟩ := placement_after (i := i) (v := v.toNat) (s := s)
      (t := sampleLimited i v.toNat s) rfl cylinders place channels after commands erector
    have params' : (sampleLimited i v.toNat s).params = s.params := after.trans params
    have account := sampleLimited_account i v.toNat s
    have before := sampleMeasured_account i v.toNat s
    have taken := sampleMeasured_measures i v.toNat s
    refine ⟨sampleLimited i v.toNat s, by rw [exec_extension, reference]; rfl, ?_, kept, timers, clearing,
      ?_, ?_, ?_, nofun, fun _ => ⟨?_, ?_, ?_, ?_, ?_, sampleLimited_raises i v.toNat s, sampleLimited_ends i v.toNat s,
        sampleLimited_goes i v.toNat s, fun h one => sampleLimited_grout i v.toNat s one h,
        sampleLimited_still i v.toNat s, fun none => ?_, fun above within => ?_, fun above beyond => ?_⟩⟩
    · conv_lhs => rw [sampleLimited_leaves, sampleRetaken_leaves]
      rw [channels, cylinders, place]
    · rwa [reference] at named
    · exact (references_of params').1
    · exact (references_of params').2
    · rw [account, before]
    · rw [account, before]
    · rw [account, before]
    · rw [account, before]
    · rw [account, before]
    · obtain ⟨unmoved, register⟩ := taken.unmeasured (mt (measures_retaken i v.toNat s _ _).mp none)
      rw [account, unmoved, stroke, sampleLimited_rings, register, rings]
      exact ⟨rfl, rfl, rfl, rfl, rfl, rfl⟩
    · obtain ⟨advanced, register⟩ := taken.accounted ((measures_retaken i v.toNat s _ _).mpr above)
        (by rwa [stroke, params])
      rw [account, advanced, sampleLimited_rings, register, strokeAdvanced, ringsAdvanced, stroke, params, rings]
      refine ⟨rfl, rfl, Nat.mod_lt _ (by decide), ?_, rfl, rfl⟩
      dsimp only
      omega
    · obtain ⟨rejected, register⟩ := taken.rejected ((measures_retaken i v.toNat s _ _).mpr above)
        (by rwa [stroke, params])
      rw [account, rejected, stroke, sampleLimited_rings, register, rings]
      exact ⟨rfl, rfl, rfl, rfl, rfl, rfl⟩

end Sys2Proof.Machine

/-! ## Every write of a tool record (R55, R57, R64, R70, R80, R81)

Whatever runs, the tool table changes by writes of single records. Each write keeps the record sound, and gives it no
serial that another record holds. -/

namespace Sys2Proof.Machine

/-! ### Soundness of a record -/

/-- The states that the duty and the limits give (R55). -/
theorem wearState_wears (duty watch wear : Nat) : wearState duty watch wear = .fitted ∨
    wearState duty watch wear = .watch ∨ wearState duty watch wear = .worn := by
  unfold wearState
  repeat' split
  all_goals simp

theorem rederived_eq (t : ToolFields) : t.rederived = { t with
    state := if t.state = .fitted ∨ t.state = .watch ∨ t.state = .worn then wearState t.duty t.watch t.wear
      else t.state } := by
  unfold ToolFields.rederived
  cases t with
  | mk state => cases state <;> rfl

theorem dutyDivisor_pos : 0 < dutyDivisor := by decide

theorem sound_of_wearState {t : ToolFields} (duty : t.duty ≤ t.lifetime) (lifetime : t.lifetime ≤ max32)
    (remainder : t.remainder < dutyDivisor) (limits : t.watch ≤ t.wear) (tool : t.present = true)
    (state : t.state = wearState t.duty t.watch t.wear) : t.Sound := by
  refine ⟨duty, lifetime, remainder, limits, fun _ => ⟨tool, state⟩, fun bare => ?_⟩
  have wears := wearState_wears t.duty t.watch t.wear
  rw [← state] at wears
  rcases wears with h | h | h <;> simp [h] at bare

/-- A record whose numbers are within their bounds is sound once its state is derived again (R55). -/
theorem sound_rederived {t : ToolFields} (duty : t.duty ≤ t.lifetime) (lifetime : t.lifetime ≤ max32)
    (remainder : t.remainder < dutyDivisor) (limits : t.watch ≤ t.wear)
    (tool : t.state = .fitted ∨ t.state = .watch ∨ t.state = .worn → t.present = true)
    (bare : t.state = .absent ∨ t.state = .empty ∨ t.state = .suspect → t.present = false) : t.rederived.Sound := by
  rw [rederived_eq]
  by_cases wears : t.state = .fitted ∨ t.state = .watch ∨ t.state = .worn
  · exact sound_of_wearState duty lifetime remainder limits (tool wears) (if_pos wears)
  · simp only [if_neg wears]
    exact ⟨duty, lifetime, remainder, limits, fun h => absurd h wears, bare⟩

theorem sound_suspect : ToolFields.Sound { state := .suspect } :=
  ⟨le_rfl, by decide, by decide, le_rfl, by simp, fun _ => rfl⟩

theorem sound_lockedOut {t : ToolFields} (h : t.Sound) : ToolFields.Sound { t with state := .lockedOut } := by
  obtain ⟨duty, lifetime, remainder, limits, -⟩ := h
  exact ⟨duty, lifetime, remainder, limits, by simp, by simp⟩

theorem sound_retired {t : ToolFields} (h : t.Sound) (out : t.state = .lockedOut) :
    ToolFields.Sound { t with serial := none, fittedAt := none, duty := 0, remainder := 0 } := by
  obtain ⟨-, lifetime, -, limits, -⟩ := h
  exact ⟨Nat.zero_le _, lifetime, dutyDivisor_pos, limits, by simp [out], fun _ => rfl⟩

theorem sound_released {t : ToolFields} (h : t.Sound) : ToolFields.Sound { t with
    state := if t.present then wearState t.duty t.watch t.wear else .empty } := by
  obtain ⟨duty, lifetime, remainder, limits, -⟩ := h
  by_cases tool : t.present = true
  · exact sound_of_wearState duty lifetime remainder limits tool (if_pos tool)
  · rw [if_neg tool]
    exact ⟨duty, lifetime, remainder, limits, by simp, fun _ => Bool.not_eq_true _ ▸ tool⟩

theorem sound_toolFitted {t : ToolFields} (h : t.Sound) (out : t.state = .lockedOut) (args : List Byte) :
    (toolFitted args t).Sound := by
  obtain ⟨-, lifetime, -, limits, -⟩ := h
  exact ⟨Nat.zero_le _, lifetime, dutyDivisor_pos, limits, by simp [toolFitted, out], by simp [toolFitted, out]⟩

/-- The lifetime duty moves with the duty and never falls below it (R57, R67). -/
theorem movedLifetime_bounds {t : ToolFields} {duty : Nat} (held : t.duty ≤ t.lifetime)
    (lifetime : t.lifetime ≤ max32) (small : duty ≤ max32) :
    duty ≤ movedLifetime t duty ∧ movedLifetime t duty ≤ max32 := by
  unfold movedLifetime satAdd
  split <;> omega

/-- What TOOL_AMEND writes where, and the state derived from it (R66, R67). -/
theorem amended_eq (t : ToolFields) (limits : Option (Nat × Nat)) (duty : Option Nat) : amended t limits duty =
    ToolFields.rederived { t with
      watch := (limits.getD (t.watch, t.wear)).1, wear := (limits.getD (t.watch, t.wear)).2, duty := duty.getD t.duty
      remainder := if duty.isSome then 0 else t.remainder, lifetime := duty.elim t.lifetime (movedLifetime t) } := by
  cases limits <;> cases duty <;> rfl

/-- TOOL_AMEND keeps a record sound: the limits it writes are in order (R66, R67). -/
theorem sound_amended {t : ToolFields} (h : t.Sound) {limits : Option (Nat × Nat)} {duty : Option Nat}
    (ordered : ∀ watch wear, limits = some (watch, wear) → watch ≤ wear) (small : ∀ d, duty = some d → d ≤ max32) :
    (amended t limits duty).Sound := by
  obtain ⟨held, lifetime, remainder, inOrder, tool, bare⟩ := h
  have written : (limits.getD (t.watch, t.wear)).1 ≤ (limits.getD (t.watch, t.wear)).2 := by
    cases limits with
    | none => exact inOrder
    | some l => exact ordered l.1 l.2 rfl
  rw [amended_eq]
  cases duty with
  | none => exact sound_rederived held lifetime remainder written (fun wears => (tool wears).1) bare
  | some d =>
    obtain ⟨above, below⟩ := movedLifetime_bounds held lifetime (small d rfl)
    exact sound_rederived above below dutyDivisor_pos written (fun wears => (tool wears).1) bare

/-- An accrual saturates duty and lifetime duty by the same amount, and carries less than the divisor (R80, R81). -/
theorem sound_accrued {t : ToolFields} (h : t.Sound) (n groundFactor : Nat) : (accrued t n groundFactor).Sound := by
  obtain ⟨held, lifetime, remainder, inOrder, tool, bare⟩ := h
  refine sound_rederived ?_ (Nat.min_le_right _ _) ?_ inOrder (fun wears => (tool wears).1) bare
  · exact min_le_min_right _ (Nat.add_le_add_right held _)
  · dsimp only
    split
    · exact Nat.mod_lt _ dutyDivisor_pos
    · exact dutyDivisor_pos

/-- What TOOL_LOAD's arguments describe is sound (R62, R63). -/
theorem sound_of_loads {args : List Byte} {x : ToolFields} (h : Loads args x) : x.Sound := by
  have small : field args 10 4 ≤ max32 := Nat.le_pred_of_lt (field_lt args 10 4)
  obtain ⟨-, rfl⟩ | ⟨zone, kind, -, -, -, limits, ⟨-, -, -, -, rfl⟩ | ⟨-, -, rfl⟩⟩ := h
  · exact ⟨le_rfl, by decide, by decide, le_rfl, by simp, fun _ => rfl⟩
  · exact ⟨le_rfl, Nat.zero_le _, dutyDivisor_pos, limits, by simp, fun _ => rfl⟩
  · exact sound_of_wearState le_rfl small dutyDivisor_pos limits rfl rfl

/-! ### One write -/

/-- What a write of record i may be: a sound record stays sound, and the serial is none, the one it held, or one that
no other record holds. -/
structure RecordChange (tools : Vector Tool 64) (i : Fin 64) (x : ToolFields) : Prop where
  sound : tools[i].toToolFields.Sound → x.Sound
  serial : x.serial = none ∨ x.serial = tools[i].serial ∨ ∀ j : Fin 64, j ≠ i → tools[j].serial ≠ x.serial

/-- A property of the tool table that every write of a record keeps. -/
def KeptByWrites (R : Vector Tool 64 → Prop) : Prop :=
  ∀ (tools : Vector Tool 64) (i : Fin 64) (x : Tool), R tools → RecordChange tools i x.toToolFields →
    R (tools.set i x)

/-- A record of the table after a write. -/
theorem getElem_write (tools : Vector Tool 64) (i j : Fin 64) (x : Tool) :
    (tools.set i x)[j] = if j = i then x else tools[j] := by
  by_cases same : j = i
  · subst same
    simp
  · rw [if_neg same]
    exact Vector.getElem_set_ne _ _ fun e => same (Fin.ext e.symm)

theorem sound_keptByWrites : KeptByWrites fun tools => ∀ i : Fin 64, tools[i].toToolFields.Sound := by
  intro tools i x law change j
  rw [getElem_write]
  split
  · exact change.sound (law i)
  · exact law j

theorem serials_keptByWrites : KeptByWrites fun tools => ∀ i j : Fin 64, i ≠ j → tools[i].serial.isSome →
    tools[i].serial ≠ tools[j].serial := by
  intro tools k x law change
  have fresh (j : Fin 64) (other : j ≠ k) (held : x.serial.isSome) : x.serial ≠ tools[j].serial := by
    obtain bare | kept | free := change.serial
    · rw [bare] at held
      cases held
    · rw [kept] at held ⊢
      exact law k j other.symm held
    · exact (free j other).symm
  intro i j apart held
  rw [getElem_write] at held ⊢
  rw [getElem_write]
  split at held
  · next here =>
    subst here
    rw [if_pos rfl, if_neg apart.symm]
    exact fresh j apart.symm held
  · next away =>
    rw [if_neg away]
    split
    · next there =>
      intro same
      rw [same] at held
      exact fresh i away held same.symm
    · exact law i j apart held

/-! ### The operations on the table -/

section table

variable {R : Vector Tool 64 → Prop} {s : State} {i : Fin 64}

theorem KeptByWrites.putTool (h : KeptByWrites R) {x : ToolFields} (hs : R s.tools)
    (change : RecordChange s.tools i x) : R (putTool i x s).tools := by
  rw [putTool_leaves]
  exact h _ _ (Tool.fresh x) hs change

/-- A record found damaged holds no serial (R73). -/
theorem KeptByWrites.failRecord (h : KeptByWrites R) (i : Fin 64) (hs : R s.tools) : R (failRecord i s).tools := by
  rw [failRecord_tools]
  exact h _ _ _ hs ⟨fun _ => sound_suspect, .inl rfl⟩

theorem KeptByWrites.readTool (h : KeptByWrites R) (i : Fin 64) (hs : R s.tools) : R (readTool i s).tools := by
  unfold Machine.readTool
  split
  · exact h.failRecord i hs
  · exact hs

theorem KeptByWrites.readOthers (h : KeptByWrites R) (i : Fin 64) (hs : R s.tools) : R (readOthers i s).tools :=
  readOthers_induct (P := fun t => R t.tools) i (fun _ j ht => h.readTool j ht) s hs

theorem KeptByWrites.onRecord (h : KeptByWrites R) (i : Fin 64) {judge : ToolFields → State → Taken}
    (judged : ∀ t : State, R t.tools → R (judge t.tools[i].toToolFields t).state.tools) (hs : R s.tools) :
    R (onRecord i judge s).state.tools := judged _ (h.readTool i hs)

theorem KeptByWrites.accrueRecord (h : KeptByWrites R) (n : Nat) (i : Fin 64) (hs : R s.tools) :
    R (accrueRecord n s i).tools := by
  unfold Machine.accrueRecord
  repeat' split
  · exact hs
  · exact h.failRecord i hs
  · exact h.putTool hs ⟨fun sound => sound_accrued sound _ _, .inr (.inl (by rw [accrued, rederived_eq]))⟩
  · exact hs

/-- A storage fault leaves every field of the record (R72). -/
theorem KeptByWrites.fault (h : KeptByWrites R) (i : Fin 64) (hs : R s.tools) :
    R (s.tools.set i { s.tools[i] with damaged := true }) := h _ _ _ hs ⟨id, .inr (.inl rfl)⟩

theorem tools_of_ledger {s t : State} (same : ledger t = ledger s) : t.tools = s.tools := by
  simp only [ledger, Prod.mk.injEq] at same
  exact same.1.1

theorem KeptByWrites.samples (h : KeptByWrites R) : SampleSteps fun s => R s.tools where
  congr := fun same hs => by rwa [tools_of_ledger same]
  ended := fun _ hs => by simpa using hs
  tripped := fun _ hs => by simpa using hs
  accrued := fun n i hs => h.accrueRecord n i hs

end table

/-! ### The owners that write no record -/

/-- However its request turns out, the owner keeps every tool record. -/
def Handler.KeepsTools (f : Handler) : Prop := ∀ (args : List Byte) (s : State), (f args s).state.tools = s.tools

theorem keepsTools_inStates {ok : Cycle → Bool} {f : Handler} (h : f.KeepsTools) : (inStates ok f).KeepsTools := by
  intro args s
  unfold inStates
  split
  · exact h args s
  · rfl

theorem keepsTools_controllerReset : controllerReset.KeepsTools := by
  intro args s
  simp only [controllerReset, doneWith]
  rw [controllerReset_kept]

theorem keepsTools_setParam : setParam.KeepsTools := by
  intro args s
  unfold setParam setGeometry emptyCheckCapture
  dsimp only
  repeat' split
  case h_3 => exact tools_of_ledger (ledger_setTuning _ _ _ s)
  all_goals simp [refuse, doneWith]

theorem keepsTools_setSense : setSense.KeepsTools := by
  refine keepsTools_inStates fun args s => ?_
  split <;> simp [refuse, doneWith]

theorem keepsTools_beginStroke : beginStroke.KeepsTools := by
  refine keepsTools_inStates fun args s => ?_
  repeat' split
  all_goals simp [refuse, doneWith, strokeBegun]

theorem keepsTools_endStroke : endStroke.KeepsTools := by
  intro args s
  unfold endStroke
  split <;> simp [refuse, doneWith]

theorem keepsTools_beginBuild : beginBuild.KeepsTools := by
  refine keepsTools_inStates fun args s => ?_
  repeat' split
  all_goals simp [refuse, doneWith, buildBegun_eq]

theorem keepsTools_enterIntervention : enterIntervention.KeepsTools := by
  refine keepsTools_inStates fun args s => ?_
  split <;> simp [refuse, doneWith]

theorem keepsTools_leaveIntervention : leaveIntervention.KeepsTools := by
  refine keepsTools_inStates fun args s => ?_
  split <;> simp [refuse, doneWith]

theorem keepsTools_clearTrip : clearTrip.KeepsTools := by
  refine keepsTools_inStates fun args s => ?_
  have ended : (if s.stroke.state = .opened then endStrokeWith .trip s else s).tools = s.tools := by
    split <;> simp
  split
  · rfl
  · simp [doneWith, tripCleared, ended]

theorem keepsTools_ringPlan : ringPlan.KeepsTools := by
  refine keepsTools_inStates fun args s => ?_
  dsimp only
  repeat' split
  all_goals rfl

theorem keepsTools_ringCancel : ringCancel.KeepsTools := by
  refine keepsTools_inStates fun args s => ?_
  split <;> rfl

theorem keepsTools_ringRetire : ringRetire.KeepsTools := by
  refine keepsTools_inStates fun args s => ?_
  dsimp only
  repeat' split
  all_goals rfl

/-! ### The owners of the tool requests -/

/-- However its request turns out, the owner keeps the property of the table. -/
def Handler.KeepsTable (R : Vector Tool 64 → Prop) (f : Handler) : Prop :=
  ∀ (args : List Byte) (s : State), R s.tools → R (f args s).state.tools

section owners

variable {R : Vector Tool 64 → Prop}

theorem Handler.KeepsTools.table {f : Handler} (h : f.KeepsTools) : f.KeepsTable R := by
  intro args s hs
  rwa [h args s]

theorem keepsTable_inStates {ok : Cycle → Bool} {f : Handler} (h : f.KeepsTable R) : (inStates ok f).KeepsTable R := by
  intro args s hs
  unfold inStates
  split
  · exact h args s hs
  · exact hs

/-- A serial the duplicate search has not found is held by no other record (R64, R70). -/
theorem serial_unheld {i : Fin 64} {serial : Nat} {s : State} (h : ¬ serialHeld i serial s = true) :
    ∀ j : Fin 64, j ≠ i → s.tools[j].serial ≠ some serial :=
  (serialHeld_eq_false i serial s).mp (Bool.not_eq_true _ ▸ h)

theorem KeptByWrites.loadAtPointer (h : KeptByWrites R) {x : ToolFields} {s : State} (hs : R s.tools) (sound : x.Sound)
    (serial : x.serial = none ∨ ∀ j : Fin 64, j ≠ s.loadPointer → s.tools[j].serial ≠ x.serial) :
    R (loadAtPointer x s).tools :=
  h.putTool hs ⟨fun _ => sound, serial.imp_right .inr⟩

theorem KeptByWrites.toolLoad (h : KeptByWrites R) : toolLoad.KeepsTable R := by
  refine keepsTable_inStates fun args s hs => ?_
  split
  · exact hs
  · next x loaded =>
    have sound := sound_of_loads (loads_of_loadRecord loaded)
    split
    · next bare => exact h.loadAtPointer hs sound (.inl bare)
    · next serial tool =>
      have searched := h.readOthers s.loadPointer hs
      dsimp only
      split
      · exact searched
      · next free =>
        refine h.loadAtPointer searched sound (.inr ?_)
        rw [tool]
        simpa using serial_unheld free

theorem KeptByWrites.toolRead (h : KeptByWrites R) : toolRead.KeepsTable R := by
  intro args s hs
  unfold Machine.toolRead
  split
  · exact hs
  · exact h.onRecord _ (fun _ ht => ht) hs

theorem KeptByWrites.toolAmend (h : KeptByWrites R) : toolAmend.KeepsTable R := by
  refine fun args s hs => keepsTable_inStates (fun _ s hs => ?_) args s hs
  split
  · exact hs
  · split
    · exact hs
    · next checked =>
      refine h.onRecord _ (fun t ht => ?_) hs
      split
      · refine h.putTool ht ⟨fun sound => sound_amended sound ?_ ?_, .inr (.inl ?_)⟩
        · intro watch wear written
          split at written
          · next limits =>
            simp only [Option.some.injEq, Prod.mk.injEq] at written
            simp only [limits, true_and, not_or, not_lt] at checked
            omega
          · cases written
        · intro d written
          split at written
          · cases written
            exact Nat.le_pred_of_lt (field_lt args 10 4)
          · cases written
        · rw [amended_eq, rederived_eq]
      · exact ht

theorem KeptByWrites.changeTool (h : KeptByWrites R) {acts : ToolFields → Bool} {change : ToolFields → ToolFields}
    (sound : ∀ x : ToolFields, acts x = true → x.Sound → (change x).Sound)
    (serial : ∀ x, (change x).serial = none ∨ (change x).serial = x.serial) :
    (changeTool acts change).KeepsTable R := by
  refine keepsTable_inStates fun args s hs => ?_
  split
  · exact hs
  · refine h.onRecord _ (fun t ht => ?_) hs
    split
    · next act => exact h.putTool ht ⟨sound _ act, (serial _).imp_right .inl⟩
    · exact ht

theorem KeptByWrites.toolFit (h : KeptByWrites R) : toolFit.KeepsTable R := by
  refine keepsTable_inStates fun args s hs => ?_
  dsimp only
  split
  · exact hs
  · next i _ =>
    split
    · exact hs
    · refine h.onRecord _ (fun t ht => ?_) hs
      split
      · next judged =>
        have searched := h.readOthers i ht
        have record : (Machine.readOthers i t).tools[i] = t.tools[i] := by rw [readOthers_tools, if_pos rfl]
        split
        · exact searched
        · next free =>
          refine h.putTool searched ⟨fun sound => ?_, .inr (.inr (serial_unheld free))⟩
          rw [record] at sound
          exact sound_toolFitted sound judged.1 args
      · exact ht

theorem KeptByWrites.ownerOf (h : KeptByWrites R) {kind : Nat} (noisy : kind ∈ ledgerKinds) :
    (ownerOf kind).KeepsTable R := by
  simp only [ledgerKinds, List.mem_cons, List.not_mem_nil, or_false] at noisy
  rcases noisy with rfl | rfl | rfl | rfl | rfl | rfl | rfl | rfl | rfl | rfl | rfl | rfl | rfl | rfl | rfl | rfl |
    rfl | rfl | rfl
  · exact keepsTools_controllerReset.table
  · exact keepsTools_setParam.table
  · exact keepsTools_setSense.table
  · exact keepsTools_beginStroke.table
  · exact keepsTools_endStroke.table
  · exact keepsTools_beginBuild.table
  · exact keepsTools_enterIntervention.table
  · exact keepsTools_leaveIntervention.table
  · exact keepsTools_clearTrip.table
  · exact h.toolLoad
  · exact h.toolRead
  · exact h.toolAmend
  · exact h.changeTool (fun _ _ sound => sound_lockedOut sound) fun _ => .inr rfl
  · exact h.changeTool (fun _ act sound => sound_retired sound (by simp_all)) fun _ => .inl rfl
  · exact h.toolFit
  · exact h.changeTool (fun _ _ sound => sound_released sound) fun _ => .inr rfl
  · exact keepsTools_ringPlan.table
  · exact keepsTools_ringCancel.table
  · exact keepsTools_ringRetire.table

/-- All that can change the ledger writes single records. -/
theorem KeptByWrites.steps (h : KeptByWrites R) (reset : R State.reset.tools) :
    LedgerSteps (fun s => R s.tools) fun s => R s.tools where
  congr := h.samples.congr
  enter := id
  front := fun _ hs => hs
  owner := fun args noisy hs => h.ownerOf noisy args _ hs
  reset := fun lines s => by simpa [powerOnReset, State.reset, State.powerOn] using reset
  fault := fun i hs => h.fault i hs
  sample := fun c v hs => h.samples.arrive c v hs
  input := fun i level hs => by simpa [lineChange] using hs

end owners

/-- Settles O52: two properties of the table that every write of a record keeps. -/
theorem toolRecordsKept : Obligations.ToolRecordsKept :=
  ⟨fun _ _ law run => (sound_keptByWrites.steps reset_dutyLaw).step law run,
    fun _ _ law run => (serials_keptByWrites.steps reset_serialLaw).step law run⟩

end Sys2Proof.Machine

/-! ## TOOL_AMEND (R66, R67) -/

namespace Sys2Proof.Machine

/-! ### A record that goes on blocking or not as before (R38, R93) -/

/-- The permit is not judged again; of the words the group setpoints alone may change. -/
theorem recordWritten_words {i : Fin 64} {x : ToolFields} {s : State}
    (same : s.tools[i].state.blocks = x.state.blocks) : OutputsKeptBut [1, 2, 3, 4] s (recordWritten i x s) := by
  intro o away
  have group : ¬ (1 ≤ o.val ∧ o.val ≤ 4) := by
    simp only [List.mem_cons, List.not_mem_nil, or_false, not_or] at away
    omega
  rw [recordWritten, recordCounted_eq, if_pos (by rw [stored_record]; exact same), recordTallied_word _ _ _ group]
  rfl

theorem blocks_wearState (duty watch wear : Nat) : (wearState duty watch wear).blocks = false := by
  obtain h | h | h := wearState_wears duty watch wear <;> rw [h] <;> rfl

/-- A state derived again neither begins nor ceases to withhold the permit. -/
theorem blocks_rederived (t : ToolFields) : t.rederived.state.blocks = t.state.blocks := by
  rw [rederived_eq]
  dsimp only
  split
  · next wears => rcases wears with h | h | h <;> rw [blocks_wearState, h] <;> rfl
  · rfl

theorem absent_rederived (t : ToolFields) : t.rederived.state = .absent ↔ t.state = .absent := by
  rw [rederived_eq]
  dsimp only
  split
  · next wears =>
    exact iff_of_false (wearState_ne_absent _ _ _) (by rintro absent; simp [absent] at wears)
  · rfl

/-! ### The arguments -/

/-- The record the arguments of TOOL_AMEND give (R66, R67). -/
def amendedBy (args : List Byte) (t : ToolFields) : ToolFields :=
  amended t (if field args 1 1 = 2 then none else some (field args 2 4, field args 6 4))
    (if field args 1 1 = 1 then none else some (field args 10 4))

/-- How TOOL_AMEND judges the record it has read (R60, R66, R67). -/
def judgeAmend (args : List Byte) (i : Fin 64) (t : ToolFields) (s : State) : Taken :=
  if amendable t (field args 1 1 != 1) then ⟨putTool i (amendedBy args t) s, .done, []⟩ else ⟨s, .wrongState, []⟩

/-- The bit of the selector that parts the two rows of TOOL_AMEND. -/
theorem duty_chosen {args : List Byte} (len : args.length = 14)
    (selector : field args 1 1 = 1 ∨ field args 1 1 = 2 ∨ field args 1 1 = 3) :
    (args.getD 1 0).getLsbD 1 = (field args 1 1 != 1) := by
  obtain ⟨a, b, rest, rfl⟩ : ∃ a b rest, args = a :: b :: rest := by
    match args, len with
    | a :: b :: rest, _ => exact ⟨a, b, rest, rfl⟩
  have byte : field (a :: b :: rest) 1 1 = b.toNat := by simp [field, beNat]
  rw [byte] at selector ⊢
  show b.getLsbD 1 = _
  rw [BitVec.getLsbD]
  rcases selector with h | h | h <;> rw [h] <;> rfl

section requests

variable {s : State} {args : List Byte} {i : Fin 64}

/-- TOOL_AMEND where the cycle and the arguments let it read the record. -/
theorem toolAmend_judged (len : args.length = 14) (index : field args 0 1 = i.val)
    (selector : field args 1 1 = 1 ∨ field args 1 1 = 2 ∨ field args 1 1 = 3)
    (limits : field args 1 1 = 1 → s.cycle ≠ .tripped)
    (duty : field args 1 1 ≠ 1 → s.cycle = .standstill ∨ s.cycle = .intervention)
    (ordered : field args 1 1 ≠ 2 → field args 2 4 ≤ field args 6 4) :
    toolAmend args s = onRecord i (judgeAmend args i) s := by
  have here : (if (field args 1 1 != 1) = true then dutyStates else notTripped) s.cycle = true := by
    by_cases one : field args 1 1 = 1
    · simp [one, notTripped, limits one]
    · simpa [one, dutyStates] using duty one
  have plain : ¬ (field args 1 1 = 0 ∨ 3 < field args 1 1 ∨
      ((field args 1 1 == 1 || field args 1 1 == 3) = true ∧ field args 6 4 < field args 2 4)) := by
    simp only [Bool.or_eq_true, beq_iff_eq]
    omega
  unfold toolAmend
  dsimp only
  rw [duty_chosen len selector, inStates_true here, index, indexArg_val]
  dsimp only
  rw [if_neg plain]
  congr 1
  funext t u
  rw [judgeAmend, amendedBy]
  rcases selector with h | h | h <;> simp [h, doneWith, refuse]

theorem toolAmend_badLimits (len : args.length = 14) (index : field args 0 1 < 64)
    (selector : field args 1 1 = 1 ∨ field args 1 1 = 3) (limits : field args 1 1 = 1 → s.cycle ≠ .tripped)
    (duty : field args 1 1 = 3 → s.cycle = .standstill ∨ s.cycle = .intervention)
    (reversed : field args 6 4 < field args 2 4) : toolAmend args s = ⟨s, .badArgument, []⟩ := by
  have three : field args 1 1 = 1 ∨ field args 1 1 = 2 ∨ field args 1 1 = 3 := by omega
  have here : (if (field args 1 1 != 1) = true then dutyStates else notTripped) s.cycle = true := by
    obtain h | h := selector
    · simp [h, notTripped, limits h]
    · simpa [h, dutyStates] using duty h
  have bad : field args 1 1 = 0 ∨ 3 < field args 1 1 ∨
      ((field args 1 1 == 1 || field args 1 1 == 3) = true ∧ field args 6 4 < field args 2 4) :=
    .inr (.inr ⟨by simpa using selector, reversed⟩)
  unfold toolAmend
  dsimp only
  rw [duty_chosen len three, inStates_true here, indexArg, dif_pos index]
  exact if_pos bad

/-- A position above 63, or a selector outside 1 to 3, where either row is taken. -/
theorem toolAmend_badArgument (here : s.cycle = .standstill ∨ s.cycle = .intervention)
    (bad : 64 ≤ field args 0 1 ∨ field args 1 1 = 0 ∨ 3 < field args 1 1) :
    toolAmend args s = ⟨s, .badArgument, []⟩ := by
  have taken (row : Bool) : (if row = true then dutyStates else notTripped) s.cycle = true := by
    rcases here with h | h <;> rw [h] <;> cases row <;> rfl
  unfold toolAmend
  dsimp only
  rw [inStates_true (taken _)]
  obtain above | selector := bad
  · rw [indexArg_above above]
    rfl
  · cases indexArg 64 (field args 0 1) with
    | none => rfl
    | some j => exact if_pos (selector.imp_right .inl)

theorem toolAmend_dutyAway (len : args.length = 14) (selector : field args 1 1 = 2 ∨ field args 1 1 = 3)
    (moving : s.cycle ≠ .standstill) (closed : s.cycle ≠ .intervention) :
    toolAmend args s = ⟨s, .wrongState, []⟩ := by
  have duty : (field args 1 1 != 1) = true := by
    rw [bne_iff_ne]
    omega
  unfold toolAmend
  dsimp only
  rw [duty_chosen len (.inr selector), duty]
  exact inStates_false (by simp [dutyStates, moving, closed])

theorem toolAmend_tripped (tripped : s.cycle = .tripped) : toolAmend args s = ⟨s, .wrongState, []⟩ := by
  have away (row : Bool) : (if row = true then dutyStates else notTripped) s.cycle = false := by
    rw [tripped]
    cases row <;> rfl
  unfold toolAmend
  dsimp only
  exact inStates_false (away _)

/-- Either row of TOOL_AMEND has the kind 0x33. -/
theorem exec_toolAmend {c : Request → Instr} (row : c = .toolAmendLimits ∨ c = .toolAmendDuty) {r : Request}
    {t : Taken} (len : r.args.length = 14) (run : toolAmend r.args s = t) :
    exec (c r) s = .next (respond 0x33 r s.link.answer t) := by
  rcases row with rfl | rfl <;> exact exec_owner rfl (by rw [len]; rfl) run

/-! ### The record written -/

theorem amendable_iff (t : ToolFields) (duty : Bool) : amendable t duty = true ↔
    t.state ≠ .absent ∧ t.state ≠ .suspect ∧ (duty = true → t.serial.isSome = true) := by
  cases duty <;> simp [amendable, ToolFields.present, and_assoc]

theorem amendedBy_fields (t : ToolFields) : amendedBy args t = { t with
    state := (amendedBy args t).state, duty := (amendedBy args t).duty
    remainder := (amendedBy args t).remainder, watch := (amendedBy args t).watch, wear := (amendedBy args t).wear
    lifetime := (amendedBy args t).lifetime } := by
  rw [amendedBy, amended_eq, rederived_eq]

/-- The limits written (R66). -/
theorem amendedBy_limits (t : ToolFields) : ((amendedBy args t).watch, (amendedBy args t).wear) =
    if field args 1 1 = 2 then (t.watch, t.wear) else (field args 2 4, field args 6 4) := by
  rw [amendedBy, amended_eq, rederived_eq]
  dsimp only
  split <;> rfl

/-- Without the duty its fields stand. -/
theorem amendedBy_dutyKept (one : field args 1 1 = 1) (t : ToolFields) : (amendedBy args t).duty = t.duty ∧
    (amendedBy args t).remainder = t.remainder ∧ (amendedBy args t).lifetime = t.lifetime := by
  rw [amendedBy, amended_eq, rederived_eq, if_pos one]
  exact ⟨rfl, rfl, rfl⟩

/-- The duty written clears the remainder and moves the lifetime duty (R67). -/
theorem amendedBy_dutyWritten (other : field args 1 1 ≠ 1) (t : ToolFields) :
    (amendedBy args t).duty = field args 10 4 ∧ (amendedBy args t).remainder = 0 ∧
    (amendedBy args t).lifetime = movedLifetime t (field args 10 4) := by
  rw [amendedBy, amended_eq, rederived_eq, if_neg other]
  exact ⟨rfl, rfl, rfl⟩

/-- The state is derived from what is then stored (R55). -/
theorem amendedBy_state {t : ToolFields} (absent : t.state ≠ .absent) (suspect : t.state ≠ .suspect) :
    (amendedBy args t).state = if t.state = .lockedOut ∨ t.state = .empty then t.state
      else wearState (amendedBy args t).duty (amendedBy args t).watch (amendedBy args t).wear := by
  rw [amendedBy, amended_eq, rederived_eq]
  dsimp only
  cases h : t.state <;> simp_all

/-- No record but a FITTED one comes to WATCH from another state than WATCH and WORN. -/
theorem amendedBy_watches {t : ToolFields} (absent : t.state ≠ .absent) (suspect : t.state ≠ .suspect)
    (watch : (amendedBy args t).state = .watch) : t.state ≠ .watch ∧ t.state ≠ .worn ↔ t.state = .fitted := by
  rw [amendedBy_state absent suspect] at watch
  cases h : t.state <;> simp [h] at watch absent suspect ⊢

theorem blocks_amendedBy (t : ToolFields) : (amendedBy args t).state.blocks = t.state.blocks := by
  rw [amendedBy, amended_eq, blocks_rederived]

theorem absent_amendedBy (t : ToolFields) : (amendedBy args t).state = .absent ↔ t.state = .absent := by
  rw [amendedBy, amended_eq, absent_rederived]

end requests

/-- Settles O25. -/
theorem toolAmended : Obligations.ToolAmended := by
  refine fun c row => ⟨fun r i sel s len index hsel selector sound absent suspect limits duty ordered => ?_,
    fun r sel s len index hsel selector limits duty reversed => ?_,
    fun r i sel s len index hsel selector limits duty ordered sound refused => ?_,
    fun r s len selector moving closed => exec_toolAmend row len (toolAmend_dutyAway len selector moving closed),
    fun r s len here bad => exec_toolAmend row len (toolAmend_badArgument here bad),
    fun r s len tripped => exec_toolAmend row len (toolAmend_tripped tripped)⟩
  · subst hsel
    have may : amendable s.tools[i].toToolFields (field r.args 1 1 != 1) = true :=
      (amendable_iff _ _).mpr ⟨absent, suspect, fun chosen => (duty (bne_iff_ne.mp chosen)).2⟩
    have written : toolAmend r.args s =
        ⟨recordWritten i (amendedBy r.args s.tools[i].toToolFields) s, .done, []⟩ := by
      rw [toolAmend_judged len index selector limits (fun other => (duty other).1) ordered, onRecord_sound sound,
        judgeAmend, if_pos may, putTool_counted absent (mt (absent_amendedBy _).mp absent)]
    refine ⟨_, amendedBy r.args s.tools[i].toToolFields, exec_toolAmend row len written,
      by rw [recordWritten_leaves], amendedBy_fields _, amendedBy_limits _, fun one => amendedBy_dutyKept one _,
      fun other => amendedBy_dutyWritten other _, amendedBy_state absent suspect, ?_, by rw [recordWritten_leaves], ?_,
      recordWritten_words (blocks_amendedBy _).symm, recordWritten_groupsFollow _ _ _⟩
    · rw [recordWritten_latched]
      have watched : ((amendedBy r.args s.tools[i].toToolFields).state = .watch ∧ s.tools[i].state ≠ .watch ∧
          s.tools[i].state ≠ .worn) ↔
          ((amendedBy r.args s.tools[i].toToolFields).state = .watch ∧ s.tools[i].state = .fitted) :=
        and_congr_right (amendedBy_watches absent suspect)
      simp only [watched]
    · conv_lhs => rw [recordWritten_leaves]
      rw [recordWritten_leaves]
  · subst hsel
    exact exec_toolAmend row len (toolAmend_badLimits len index selector limits duty reversed)
  · subst hsel
    refine exec_toolAmend row len ?_
    rw [toolAmend_judged len index selector limits duty ordered, onRecord_sound sound, judgeAmend, if_neg]
    rw [amendable_iff]
    rintro ⟨present, trusted, tool⟩
    obtain state | state | ⟨other, bare⟩ := refused
    · exact present state
    · exact trusted state
    · have held := tool (bne_iff_ne.mpr other)
      rw [bare] at held
      cases held

end Sys2Proof.Machine

/-! ## An accrual, record by record (R80, R81, R83) -/

namespace Sys2Proof.Machine

/-! ### Folds that visit each record once -/

/-- What each visit adds to the records visited before it holds of all once the fold is done. -/
theorem foldl_visits {σ α : Type} {f : σ → α → σ} {P : List α → σ → Prop} {s : σ} (start : P [] s)
    (visit : ∀ (done : List α) (a : α) (t : σ), a ∉ done → P done t → P (done ++ [a]) (f t a)) {l : List α}
    (once : l.Nodup) : P l (l.foldl f s) := by
  induction l using List.reverseRecOn with
  | nil => exact start
  | append_singleton done a ih =>
    rw [List.nodup_append] at once
    obtain ⟨before, -, apart⟩ := once
    rw [List.foldl_concat]
    exact visit done a _ (fun visited => apart a visited a (by simp) rfl) (ih before)

/-! ### One record -/

/-- The record after its part of an accrual. -/
def accruedTool (n groundFactor : Nat) (x : Tool) : Tool :=
  if x.state = .suspect then x
  else if x.damaged then Tool.fresh { state := .suspect }
  else if x.present then Tool.fresh (accrued x.toToolFields n groundFactor) else x

theorem accruedTool_kept {n groundFactor : Nat} {x : Tool}
    (h : x.state = .suspect ∨ (x.damaged = false ∧ x.serial = none)) : accruedTool n groundFactor x = x := by
  unfold accruedTool
  obtain suspect | ⟨sound, bare⟩ := h
  · exact if_pos suspect
  · simp [sound, ToolFields.present, bare]

theorem accruedTool_failed {n groundFactor : Nat} {x : Tool} (trusted : x.state ≠ .suspect)
    (damaged : x.damaged = true) : accruedTool n groundFactor x = Tool.fresh { state := .suspect } := by
  rw [accruedTool, if_neg trusted, if_pos damaged]

theorem accruedTool_taken {n groundFactor : Nat} {x : Tool} (trusted : x.state ≠ .suspect)
    (sound : x.damaged = false) (tool : x.serial.isSome = true) :
    accruedTool n groundFactor x = Tool.fresh (accrued x.toToolFields n groundFactor) := by
  rw [accruedTool, if_neg trusted, if_neg (by simp [sound])]
  exact if_pos tool

theorem accrued_eq (t : ToolFields) (n groundFactor : Nat) : accrued t n groundFactor = { t with
    state := (accrued t n groundFactor).state, duty := (accrued t n groundFactor).duty
    remainder := (accrued t n groundFactor).remainder, lifetime := (accrued t n groundFactor).lifetime } := by
  rw [accrued, rederived_eq]

theorem takesDuty_accrued (t : ToolFields) (n groundFactor : Nat) :
    TakesDuty n groundFactor t (accrued t n groundFactor) := by
  refine ⟨accrued_eq t n groundFactor, ?_⟩
  rw [accrued, rederived_eq]
  exact ⟨rfl, rfl, rfl, rfl⟩

theorem blocks_accrued (t : ToolFields) (n groundFactor : Nat) :
    (accrued t n groundFactor).state.blocks = t.state.blocks := blocks_rederived _

theorem absent_accrued (t : ToolFields) (n groundFactor : Nat) :
    (accrued t n groundFactor).state = .absent ↔ t.state = .absent := absent_rederived _

section accrual

variable {n : Nat} {i : Fin 64} {s : State}

/-- What an accrual does at one record (R80). -/
theorem accrueRecord_cases (n : Nat) (i : Fin 64) (s : State) :
    ((s.tools[i].state = .suspect ∨ (s.tools[i].damaged = false ∧ s.tools[i].serial = none)) ∧
      accrueRecord n s i = s) ∨
    (s.tools[i].state ≠ .suspect ∧ s.tools[i].damaged = true ∧ accrueRecord n s i = failRecord i s) ∨
    (s.tools[i].state ≠ .suspect ∧ s.tools[i].damaged = false ∧ s.tools[i].serial.isSome = true ∧
      accrueRecord n s i = recordWritten i (accrued s.tools[i].toToolFields n s.params.groundFactor) s) := by
  unfold accrueRecord
  split
  · next suspect => exact .inl ⟨.inl suspect, rfl⟩
  · next trusted =>
    split
    · next damaged => exact .inr (.inl ⟨trusted, damaged, rfl⟩)
    · next whole =>
      have sound : s.tools[i].damaged = false := Bool.not_eq_true _ ▸ whole
      split
      · next tool =>
        refine .inr (.inr ⟨trusted, sound, tool, ?_⟩)
        rw [putTool_eq, if_pos (propext (absent_accrued _ _ _).symm)]
      · next bare =>
        rw [ToolFields.present, Option.not_isSome_iff_eq_none] at bare
        exact .inl ⟨.inr ⟨sound, bare⟩, rfl⟩

theorem accrueRecord_tools (n : Nat) (i : Fin 64) (s : State) :
    (accrueRecord n s i).tools = s.tools.set i (accruedTool n s.params.groundFactor s.tools[i]) := by
  obtain ⟨left, same⟩ | ⟨trusted, damaged, same⟩ | ⟨trusted, sound, tool, same⟩ := accrueRecord_cases n i s
  · rw [same, accruedTool_kept left]
    simp
  · rw [same, accruedTool_failed trusted damaged, failRecord_tools]
  · rw [same, accruedTool_taken trusted sound tool, recordWritten_leaves]

theorem accrueRecord_tool (n : Nat) (i j : Fin 64) (s : State) : (accrueRecord n s i).tools[j] =
    if j = i then accruedTool n s.params.groundFactor s.tools[j] else s.tools[j] := by
  rw [accrueRecord_tools, getElem_write]
  split
  · next same => rw [same]
  · rfl

/-- Each record takes its part of the accrual by itself. -/
theorem accrueAll_tool (n : Nat) (j : Fin 64) (s : State) :
    (accrueAll n s).tools[j] = accruedTool n s.params.groundFactor s.tools[j] := by
  obtain ⟨u, before, after⟩ := foldl_view (f := accrueRecord n) (view := fun t : State => (t.tools[j], t.params))
    (List.nodup_finRange 64) (List.mem_finRange j)
    (fun t i other => by rw [accrueRecord_tool, if_neg other.symm]; simp) s
  rw [Prod.mk.injEq] at before after
  rw [accrueAll, after.1, accrueRecord_tool, if_pos rfl, before.1, before.2]

/-! ### The records of an accrual that finds none damaged -/

/-- An accrual finds no record damaged. -/
def Passes (s : State) : Prop := ∀ i : Fin 64, s.tools[i].state ≠ .suspect → s.tools[i].damaged = false

theorem accruedTool_passes {x : Tool} (n groundFactor : Nat) (h : x.state ≠ .suspect → x.damaged = false) :
    (accruedTool n groundFactor x).state ≠ .suspect → (accruedTool n groundFactor x).damaged = false := by
  unfold accruedTool
  repeat' split
  · exact h
  · exact fun _ => rfl
  · exact fun _ => rfl
  · exact h

theorem passes_accrueRecord (n : Nat) (i : Fin 64) (h : Passes s) : Passes (accrueRecord n s i) := by
  intro j
  rw [accrueRecord_tool]
  split
  · exact accruedTool_passes _ _ (h j)
  · exact h j

/-- What a write of a record that goes on blocking or not as before can change. -/
structure DutyWritten (s t : State) : Prop where
  leaves : t = { s with
    tools := t.tools, latched := t.latched, blocking := t.blocking, positions := t.positions
    gaugeWorn := t.gaugeWorn, outputs := t.outputs }
  words : OutputsKeptBut [1, 2, 3, 4] s t

theorem DutyWritten.refl (s : State) : DutyWritten s s := ⟨rfl, fun _ _ => rfl⟩

theorem DutyWritten.trans {t u : State} (h : DutyWritten s t) (g : DutyWritten t u) : DutyWritten s u where
  leaves := by
    conv_lhs => rw [g.leaves, h.leaves]
  words := fun o ho => (g.words o ho).trans (h.words o ho)

theorem dutyWritten_accrueRecord (n : Nat) (i : Fin 64)
    (passes : s.tools[i].state ≠ .suspect → s.tools[i].damaged = false) : DutyWritten s (accrueRecord n s i) := by
  obtain ⟨-, same⟩ | ⟨trusted, damaged, -⟩ | ⟨-, -, -, same⟩ := accrueRecord_cases n i s
  · rw [same]
    exact .refl s
  · rw [passes trusted] at damaged
    cases damaged
  · rw [same]
    refine ⟨?_, recordWritten_words (blocks_accrued _ _ _).symm⟩
    conv_lhs => rw [recordWritten_leaves]
    rw [recordWritten_leaves]

theorem dutyWritten_accrueAll (n : Nat) (passes : Passes s) : DutyWritten s (accrueAll n s) := by
  obtain ⟨-, written⟩ := accrueAll_induct (P := fun t => Passes t ∧ DutyWritten s t) n
    (fun _ i ⟨ht, written⟩ => ⟨passes_accrueRecord n i ht, written.trans (dutyWritten_accrueRecord n i (ht i))⟩) s
    ⟨passes, .refl s⟩
  exact written

/-! ### The notices of wear (R56) -/

/-- The notices of a record that goes from state `a` to state `b`. -/
def WearTold (a b : ToolState) (m : Notice) : Prop :=
  (m = .toolWorn ∧ a ≠ .worn ∧ b = .worn) ∨ (m = .toolWatch ∧ a ≠ .watch ∧ a ≠ .worn ∧ b = .watch)

theorem wearTold_same {a : ToolState} {m : Notice} : ¬ WearTold a a m := by
  rintro (⟨-, other, same⟩ | ⟨-, other, -, same⟩) <;> exact other same

theorem wearNotices_raises (a b : ToolState) (s : State) : NoticesRaised (WearTold a b) s (wearNotices a b s) := by
  unfold wearNotices
  split
  · next worn => exact (noticesRaised_raise _ s).congr fun m => by simp [WearTold, worn]
  · next other =>
    split
    · next watch => exact (noticesRaised_raise _ s).congr fun m => by simp [WearTold, watch]
    · next plain =>
      refine (noticesRaised_none rfl).congr fun m => ?_
      rw [WearTold]
      tauto

theorem recordWritten_raises (i : Fin 64) (x : ToolFields) (s : State) :
    NoticesRaised (WearTold s.tools[i].state x.state) s (recordWritten i x s) := by
  refine ((wearNotices_raises s.tools[i].state x.state (storeTool i x s)).of_latched ?_).of_before rfl
  rw [recordWritten, recordCounted_latched, stored_record]

theorem accrueRecord_raises (n : Nat) (i : Fin 64) (passes : Passes s) :
    NoticesRaised (WearTold s.tools[i].state (accruedTool n s.params.groundFactor s.tools[i]).state) s
      (accrueRecord n s i) := by
  have written : (accrueRecord n s i).tools[i] = accruedTool n s.params.groundFactor s.tools[i] := by
    rw [accrueRecord_tool, if_pos rfl]
  rw [← written]
  obtain ⟨-, same⟩ | ⟨trusted, damaged, -⟩ | ⟨-, -, -, same⟩ := accrueRecord_cases n i s
  · rw [same]
    exact (noticesRaised_none rfl).congr fun m => iff_of_false id wearTold_same
  · rw [passes i trusted] at damaged
    cases damaged
  · rw [same]
    have record : (recordWritten i (accrued s.tools[i].toToolFields n s.params.groundFactor) s).tools[i].state =
        (accrued s.tools[i].toToolFields n s.params.groundFactor).state := by
      rw [recordWritten_leaves]
      simp [Tool.fresh]
    rw [record]
    exact recordWritten_raises i _ s

theorem accrueAll_raises (n : Nat) (passes : Passes s) : NoticesRaised
    (fun m => ∃ i : Fin 64, WearTold s.tools[i].state (accrueAll n s).tools[i].state m) s (accrueAll n s) := by
  obtain ⟨-, -, -, raised⟩ : Passes (accrueAll n s) ∧ (accrueAll n s).params = s.params ∧
      (∀ j ∉ List.finRange 64, (accrueAll n s).tools[j] = s.tools[j]) ∧
      NoticesRaised (fun m => ∃ i ∈ List.finRange 64,
        WearTold s.tools[i].state (accruedTool n s.params.groundFactor s.tools[i]).state m) s (accrueAll n s) := by
    refine foldl_visits (f := accrueRecord n) (P := fun (done : List (Fin 64)) (t : State) => Passes t ∧
      t.params = s.params ∧ (∀ j ∉ done, t.tools[j] = s.tools[j]) ∧ NoticesRaised (fun m => ∃ i ∈ done,
        WearTold s.tools[i].state (accruedTool n s.params.groundFactor s.tools[i]).state m) s t)
      ⟨passes, rfl, fun _ _ => rfl, (noticesRaised_none rfl).congr (by simp)⟩
      (fun done i t fresh ⟨passed, params, rest, raised⟩ => ?_) (List.nodup_finRange 64)
    have added := accrueRecord_raises n i passed
    rw [rest i fresh, params] at added
    refine ⟨passes_accrueRecord n i passed, by simpa using params, fun j away => ?_,
      (raised.trans added).congr fun m => by simp [or_and_right, exists_or]⟩
    simp only [List.mem_append, List.mem_singleton, not_or] at away
    rw [accrueRecord_tool, if_neg away.2, rest j away.1]
  exact raised.congr fun m => by simp only [List.mem_finRange, true_and, accrueAll_tool]

/-! ### The group setpoints (R59, R93) -/

theorem accrueRecord_groupsFollow (n : Nat) (i : Fin 64) (passes : Passes s) :
    GroupsFollow s (accrueRecord n s i) := by
  obtain ⟨-, same⟩ | ⟨trusted, damaged, -⟩ | ⟨-, -, -, same⟩ := accrueRecord_cases n i s
  · rw [same]
    exact ⟨fun _ _ => rfl, fun changed => absurd rfl changed⟩
  · rw [passes i trusted] at damaged
    cases damaged
  · rw [same]
    exact recordWritten_groupsFollow i _ s

/-- The setpoints follow two changes of which neither clears the flag as they follow one. -/
theorem GroupsFollow.trans {t u : State} (h : GroupsFollow s t) (g : GroupsFollow t u)
    (worn : s.gaugeWorn = true → t.gaugeWorn = true) (worn' : t.gaugeWorn = true → u.gaugeWorn = true)
    (cycle : u.cycle = t.cycle) (quadrants : u.quadrants = t.quadrants) (params : u.params = t.params) :
    GroupsFollow s u := by
  by_cases same : u.gaugeWorn = t.gaugeWorn
  · exact h.congr rfl (fun _ => rfl) same (g.1 same) cycle quadrants params
  · have before : t.gaugeWorn = s.gaugeWorn := by
      revert worn worn' same
      cases s.gaugeWorn <;> cases t.gaugeWorn <;> cases u.gaugeWorn <;> simp
    exact g.congr before.symm (fun k => (h.1 before k).symm) rfl (fun _ => rfl) rfl rfl rfl

/-- The flag is what the table gives, and every record is sound. -/
def GaugeHeld (s : State) : Prop := DutyLaw s ∧ s.gaugeWorn = anyGaugeWorn s.tools

theorem anyGaugeWorn_iff (tools : Vector Tool 64) : anyGaugeWorn tools = true ↔
    ∃ i : Fin 64, tools[i].zone = .gauge ∧ tools[i].state = .worn := by
  simp only [anyGaugeWorn, List.any_eq_true, Vector.mem_toList_iff, Vector.mem_iff_getElem, Bool.and_eq_true,
    beq_iff_eq]
  exact ⟨fun ⟨_, ⟨i, hi, e⟩, worn⟩ => ⟨⟨i, hi⟩, e ▸ worn⟩, fun ⟨i, worn⟩ => ⟨_, ⟨i, i.isLt, rfl⟩, worn⟩⟩

/-- A worn tool stays worn: its duty does not fall (R55, R80). -/
theorem accrued_worn {t : ToolFields} (sound : t.Sound) (n groundFactor : Nat) (worn : t.state = .worn) :
    (accrued t n groundFactor).state = .worn := by
  obtain ⟨held, lifetime, -, -, tool, -⟩ := sound
  have limit : t.wear ≤ t.duty := by
    have given := (tool (.inr (.inr worn))).2
    rw [worn, wearState] at given
    by_contra below
    rw [if_neg below] at given
    split at given <;> cases given
  obtain ⟨-, duty, -, -, state⟩ := takesDuty_accrued t n groundFactor
  have reached : t.wear ≤ (accrued t n groundFactor).duty := by
    rw [duty]
    exact le_min (by omega) (by have : t.lifetime ≤ 4294967295 := lifetime; omega)
  rw [state, if_pos (.inr (.inr worn)), wearState, if_pos reached]

theorem gaugeHeld_accrueRecord (n : Nat) (i : Fin 64) (passes : Passes s) (h : GaugeHeld s) :
    GaugeHeld (accrueRecord n s i) ∧ (s.gaugeWorn = true → (accrueRecord n s i).gaugeWorn = true) := by
  obtain ⟨law, flag⟩ := h
  have law' : DutyLaw (accrueRecord n s i) := sound_keptByWrites.accrueRecord n i law
  obtain ⟨-, same⟩ | ⟨trusted, damaged, -⟩ | ⟨-, -, -, same⟩ := accrueRecord_cases n i s
  · rw [same]
    exact ⟨⟨law, flag⟩, id⟩
  · rw [passes i trusted] at damaged
    cases damaged
  · rw [same] at law' ⊢
    refine ⟨⟨law', by rw [recordWritten_leaves]⟩, fun worn => ?_⟩
    rw [flag, anyGaugeWorn_iff] at worn
    obtain ⟨j, zone, state⟩ := worn
    rw [recordWritten_leaves]
    refine (anyGaugeWorn_iff _).mpr ⟨j, ?_⟩
    rw [getElem_write]
    split
    · next here =>
      subst here
      refine ⟨?_, accrued_worn (law j) _ _ state⟩
      rw [accrued_eq]
      exact zone
    · exact ⟨zone, state⟩

theorem accrueAll_groupsFollow (n : Nat) (passes : Passes s) (h : GaugeHeld s) : GroupsFollow s (accrueAll n s) := by
  obtain ⟨-, -, -, -, follows⟩ : Passes (accrueAll n s) ∧ DutyWritten s (accrueAll n s) ∧ GaugeHeld (accrueAll n s) ∧
      (s.gaugeWorn = true → (accrueAll n s).gaugeWorn = true) ∧ GroupsFollow s (accrueAll n s) := by
    refine accrueAll_induct (P := fun t => Passes t ∧ DutyWritten s t ∧ GaugeHeld t ∧
      (s.gaugeWorn = true → t.gaugeWorn = true) ∧ GroupsFollow s t) n
      (fun t i ⟨passed, written, held, worn, follows⟩ => ?_) s
      ⟨passes, .refl s, h, id, fun _ _ => rfl, fun changed => absurd rfl changed⟩
    obtain ⟨held', worn'⟩ := gaugeHeld_accrueRecord n i passed held
    have one := dutyWritten_accrueRecord n i (passed i)
    exact ⟨passes_accrueRecord n i passed, written.trans one, held', worn' ∘ worn,
      follows.trans (accrueRecord_groupsFollow n i passed) worn worn' (by rw [one.leaves]) (by rw [one.leaves])
        (by rw [one.leaves])⟩
  exact follows

/-- In TRIPPED the setpoints stand at 0, whatever becomes of the flag (R93). -/
theorem GroupsFollow.tripped {t : State} (h : GroupsFollow s t) (tripped : t.cycle = .tripped)
    (zero : GroupsAt s fun _ => 0) : GroupsAt t fun _ => 0 := by
  intro g
  by_cases same : t.gaugeWorn = s.gaugeWorn
  · rw [h.1 same g]
    exact zero g
  · have taken := h.2 same g
    rwa [tripped] at taken

theorem accrueAll_groups_tripped (n : Nat) (passes : Passes s) (tripped : s.cycle = .tripped)
    (zero : GroupsAt s fun _ => 0) : GroupsAt (accrueAll n s) fun _ => 0 := by
  obtain ⟨-, -, stood⟩ : Passes (accrueAll n s) ∧ (accrueAll n s).cycle = .tripped ∧
      GroupsAt (accrueAll n s) fun _ => 0 := by
    refine accrueAll_induct (P := fun t => Passes t ∧ t.cycle = .tripped ∧ GroupsAt t fun _ => 0) n
      (fun t i ⟨passed, tripped, zero⟩ => ?_) s ⟨passes, tripped, zero⟩
    have cycle : (accrueRecord n t i).cycle = .tripped := by
      rw [(dutyWritten_accrueRecord n i (passed i)).leaves, tripped]
    exact ⟨passes_accrueRecord n i passed, cycle, (accrueRecord_groupsFollow n i passed).tripped cycle zero⟩
  exact stood

end accrual

end Sys2Proof.Machine

/-! ## A sample of the cutterhead angle (R76, R79, R83, R86) -/

namespace Sys2Proof.Machine

/-! ### The amount of rotation (R76) -/

theorem rotationAmount_eq {c p n : Nat} (within : c < 65536) (held : p < 65536) (small : n ≤ 8192)
    (moved : c = (p + n) % 65536 ∨ (c + n) % 65536 = p) (turned : 0 < n) : rotationAmount c p = n := by
  unfold rotationAmount countDiff
  split <;> omega

theorem rotationAmount_above {c p : Nat} (low : 8192 < (c + 65536 - p) % 65536)
    (high : (c + 65536 - p) % 65536 < 57344) : 8192 < rotationAmount c p := by
  unfold rotationAmount countDiff
  split <;> omega

section sample

variable {n v : Nat} {s : State}

/-- The sample taken by the Field Port and the Duty Unit (R19, R75). -/
def angleTaken (v : Nat) (s : State) : State := { takeSample 20 v s with angle := ⟨v, false⟩ }

theorem angleTaken_leaves (v : Nat) (s : State) : angleTaken v s = { s with
    channels := (angleTaken v s).channels, angle := ⟨v, false⟩ } := rfl

/-- The accrual and the counts handed to the account (R80, R86). -/
def headCounted (n : Nat) (s : State) : State := addHeadCounts n (accrueAll n s)

/-- The sample that turns the head by `n` counts (R79, R80, R86). -/
def headTurned (n v : Nat) (s : State) : State := headCounted n (judgeBreach n (angleTaken v s))

theorem exec_angle (v : Word16) (s : State) :
    exec (.sampleArrival 20 v) s = .next (angleSample v.toNat (takeSample 20 v.toNat s)) := by
  have whole : min v.toNat 65535 = v.toNat := min_eq_left (Nat.le_pred_of_lt v.isLt)
  show Host.Outcome.next (deliver 20 (min v.toNat 65535) _ s (takeSample 20 v.toNat s)) = _
  rw [whole]
  rfl

theorem exec_headTurned {v : Word16} (steady : s.angle.rebase = false) (held : s.angle.prev < 65536) (turned : 0 < n)
    (small : n ≤ 8192) (moved : v.toNat = (s.angle.prev + n) % 65536 ∨ (v.toNat + n) % 65536 = s.angle.prev) :
    exec (.sampleArrival 20 v) s = .next (headTurned n v.toNat s) := by
  have amount : rotationAmount v.toNat s.angle.prev = n := rotationAmount_eq v.isLt held small moved turned
  have plain : ¬ ((takeSample 20 v.toNat s).angle.rebase = true ∨
      8192 < rotationAmount v.toNat (takeSample 20 v.toNat s).angle.prev) := by
    rw [show (takeSample 20 v.toNat s).angle = s.angle from rfl, amount, steady]
    simpa using small
  rw [exec_angle, angleSample, if_neg plain]
  rw [show (takeSample 20 v.toNat s).angle = s.angle from rfl, amount, if_neg (by omega)]
  rfl

theorem exec_rebased {v : Word16} (far : s.angle.rebase = true ∨
    (8192 < (v.toNat + 65536 - s.angle.prev) % 65536 ∧ (v.toNat + 65536 - s.angle.prev) % 65536 < 57344)) :
    exec (.sampleArrival 20 v) s = .next (raise .countRebased (angleTaken v.toNat s)) := by
  have rebases : (takeSample 20 v.toNat s).angle.rebase = true ∨
      8192 < rotationAmount v.toNat (takeSample 20 v.toNat s).angle.prev :=
    far.imp_right fun ⟨low, high⟩ => rotationAmount_above low high
  rw [exec_angle, angleSample, if_pos rebases]
  rfl

/-! ### The breach judgment (R79) -/

theorem permitOn_iff (s : State) : permitOn s = true ↔ s.outputs[(0 : Fin 25)].value = 1 := beq_iff_eq

theorem judgeBreach_permitted (allowed : s.outputs[(0 : Fin 25)].value = 1 ∨ n ≤ 16) : judgeBreach n s = s := by
  refine if_neg ?_
  rw [permitOn_iff]
  omega

theorem judgeBreach_breaches (off : s.outputs[(0 : Fin 25)].value ≠ 1) (turned : 16 < n) :
    judgeBreach n s = trip .rotationBreach (raise .rotationBreach s) :=
  if_pos ⟨mt (permitOn_iff s).mp off, turned⟩

/-- The notices of the judgment. -/
def BreachTold (n : Nat) (s : State) (m : Notice) : Prop :=
  (m = .rotationBreach ∧ s.outputs[(0 : Fin 25)].value ≠ 1 ∧ 16 < n) ∨
  (m = .buildAborted ∧ s.outputs[(0 : Fin 25)].value ≠ 1 ∧ 16 < n ∧ s.cycle ≠ .tripped ∧
    s.place.erector.underWay = true)

theorem judgeBreach_raises (n : Nat) (s : State) : NoticesRaised (BreachTold n s) s (judgeBreach n s) := by
  by_cases breach : s.outputs[(0 : Fin 25)].value ≠ 1 ∧ 16 < n
  · obtain ⟨off, turned⟩ := breach
    rw [judgeBreach_breaches off turned]
    have told := noticesRaised_raise .rotationBreach s
    by_cases tripped : s.cycle = .tripped
    · rw [trip_further (s := raise .rotationBreach s) tripped]
      refine (told.of_latched rfl).congr fun m => ?_
      rw [BreachTold]
      tauto
    · refine (told.trans (trip_raises (s := raise .rotationBreach s) tripped _)).congr fun m => ?_
      rw [BreachTold, raise_place]
      tauto
  · rw [judgeBreach_permitted (by omega)]
    refine (noticesRaised_none rfl).congr fun m => ?_
    rw [BreachTold]
    tauto

/-! ### The accrual after the judgment -/

theorem addHeadCounts_eq (n : Nat) (s : State) : addHeadCounts n s = { s with
    stroke := if s.stroke.state = .opened then
        { s.stroke with headCounts := min (s.stroke.headCounts + n) 4294967295 }
      else s.stroke } := by
  unfold addHeadCounts
  split <;> rfl

theorem headCounted_tool (n : Nat) (i : Fin 64) (s : State) :
    (headCounted n s).tools[i] = accruedTool n s.params.groundFactor s.tools[i] := by
  rw [headCounted, show ∀ u, (addHeadCounts n u).tools = u.tools by simp, accrueAll_tool]

theorem headCounted_stroke (n : Nat) (s : State) : (headCounted n s).stroke = if s.stroke.state = .opened then
      { s.stroke with headCounts := min (s.stroke.headCounts + n) 4294967295 }
    else s.stroke := by
  have before : (accrueAll n s).stroke = s.stroke := by simp
  rw [headCounted, addHeadCounts_eq, before]

theorem headCounted_words (passes : Passes s) : OutputsKeptBut [1, 2, 3, 4] s (headCounted n s) := by
  intro o away
  rw [headCounted, show ∀ u, (addHeadCounts n u).outputs = u.outputs by simp]
  exact (dutyWritten_accrueAll n passes).words o away

theorem headCounted_leaves (passes : Passes s) : headCounted n s = { s with
    tools := (headCounted n s).tools, latched := (headCounted n s).latched, stroke := (headCounted n s).stroke
    blocking := (headCounted n s).blocking, positions := (headCounted n s).positions
    gaugeWorn := (headCounted n s).gaugeWorn, outputs := (headCounted n s).outputs } := by
  have written := (dutyWritten_accrueAll n passes).leaves
  rw [headCounted]
  generalize accrueAll n s = u at written ⊢
  conv_lhs => rw [addHeadCounts_eq, written]
  rw [addHeadCounts_eq, congrArg State.stroke written]

theorem headCounted_raises (n : Nat) (passes : Passes s) : NoticesRaised
    (fun m => ∃ i : Fin 64, WearTold s.tools[i].state (headCounted n s).tools[i].state m) s (headCounted n s) := by
  have told := accrueAll_raises n passes
  rw [headCounted]
  generalize accrueAll n s = u at told ⊢
  rw [addHeadCounts_eq]
  exact told

theorem headCounted_groupsFollow (n : Nat) (passes : Passes s) (held : GaugeHeld s) :
    GroupsFollow s (headCounted n s) := by
  have follows := accrueAll_groupsFollow n passes held
  rw [headCounted]
  generalize accrueAll n s = u at follows ⊢
  rw [addHeadCounts_eq]
  exact follows

theorem headCounted_groups_tripped (n : Nat) (passes : Passes s) (tripped : s.cycle = .tripped)
    (zero : GroupsAt s fun _ => 0) : GroupsAt (headCounted n s) fun _ => 0 := by
  have stood := accrueAll_groups_tripped n passes tripped zero
  rw [headCounted]
  generalize accrueAll n s = u at stood ⊢
  rw [addHeadCounts_eq]
  exact stood

/-! ### The sample -/

/-- What the judgment leaves of the table and the account. -/
theorem judged_table (n v : Nat) (s : State) : (judgeBreach n (angleTaken v s)).tools = s.tools ∧
    (judgeBreach n (angleTaken v s)).params = s.params ∧ (judgeBreach n (angleTaken v s)).stroke = s.stroke ∧
    (judgeBreach n (angleTaken v s)).gaugeWorn = s.gaugeWorn := by
  simp [angleTaken, takeSample]

theorem passes_judged (n v : Nat) (passes : Passes s) : Passes (judgeBreach n (angleTaken v s)) := by
  rwa [Passes, (judged_table n v s).1]

theorem headTurned_tool (n v : Nat) (i : Fin 64) (s : State) :
    (headTurned n v s).tools[i] = accruedTool n s.params.groundFactor s.tools[i] := by
  obtain ⟨tools, params, -⟩ := judged_table n v s
  rw [headTurned, headCounted_tool, tools, params]

theorem headTurned_stroke (n v : Nat) (s : State) : (headTurned n v s).stroke = if s.stroke.state = .opened then
      { s.stroke with headCounts := min (s.stroke.headCounts + n) 4294967295 }
    else s.stroke := by
  obtain ⟨-, -, stroke, -⟩ := judged_table n v s
  rw [headTurned, headCounted_stroke, stroke]

theorem headTurned_raises (n v : Nat) (passes : Passes s) : NoticesRaised
    (fun m => BreachTold n s m ∨ ∃ i : Fin 64, WearTold s.tools[i].state (headTurned n v s).tools[i].state m) s
    (headTurned n v s) := by
  have judged : NoticesRaised (BreachTold n s) s (judgeBreach n (angleTaken v s)) :=
    (judgeBreach_raises n (angleTaken v s)).of_before rfl
  have worn := headCounted_raises n (passes_judged n v passes)
  rw [(judged_table n v s).1] at worn
  rw [headTurned]
  exact judged.trans worn

theorem exists_wearTold_iff {a b : Fin 64 → ToolState} {m : Notice} : (∃ i, WearTold (a i) (b i) m) ↔
    (m = .toolWorn ∧ ∃ i, a i ≠ .worn ∧ b i = .worn) ∨
    (m = .toolWatch ∧ ∃ i, a i ≠ .watch ∧ a i ≠ .worn ∧ b i = .watch) := by
  simp only [WearTold, exists_or, exists_and_left]

/-- What a sample changes beside what its judgment changes. -/
theorem headTurned_leaves (n v : Nat) (passes : Passes s) : headTurned n v s = { judgeBreach n (angleTaken v s) with
    tools := (headTurned n v s).tools, latched := (headTurned n v s).latched, stroke := (headTurned n v s).stroke
    blocking := (headTurned n v s).blocking, positions := (headTurned n v s).positions
    gaugeWorn := (headTurned n v s).gaugeWorn, outputs := (headTurned n v s).outputs } :=
  headCounted_leaves (passes_judged n v passes)

/-- What is said of a cause taken stands where the setpoints stay at 0 and nothing else it names changes. -/
theorem TripTaken.of_after {cause : TripCause} {s t u : State} (h : TripTaken cause s t)
    (cycle : u.cycle = t.cycle) (tripCause : u.tripCause = t.tripCause)
    (further : u.furtherCauses = t.furtherCauses) (cylinders : u.cylinders = t.cylinders) (place : u.place = t.place)
    (feed : u.feed = t.feed) (ports : u.ports = t.ports) (pointer : u.pointer = t.pointer)
    (words : OutputsKeptBut [1, 2, 3, 4] t u) (groups : GroupsAt u fun _ => 0) : TripTaken cause s u := by
  obtain ⟨tripped, told, others, permit, -, locked, screw, placement, grout⟩ := h
  have commands (i : Fin 16) : command u i = command t i := by
    have away : (cylinderOutput i).val ∉ [1, 2, 3, 4] := by
      simp only [cylinderOutput, List.mem_cons, List.not_mem_nil, or_false]
      omega
    rw [command, words _ away, command]
  refine ⟨cycle.trans tripped, tripCause.trans told, further.trans others, ?_, groups, fun i => ?_, ?_, ?_,
    fun one => ?_⟩
  · rw [words 0 (by decide), permit]
  · rw [commands, cylinders]
    exact locked i
  · rw [words 22 (by decide), screw]
  · simpa only [PlacementTripped, place, feed, words 21 (by decide)] using placement
  · rw [pointer, ports, words 23 (by decide), words 24 (by decide)]
    exact grout one

/-- A head turned without the permit trips the part (R79). -/
theorem headTurned_trips (passes : Passes s) (off : s.outputs[(0 : Fin 25)].value ≠ 1) (turned : 16 < n)
    (untripped : s.cycle ≠ .tripped) : TripTaken .rotationBreach s (headTurned n v s) := by
  have judged : judgeBreach n (angleTaken v s) = trip .rotationBreach (raise .rotationBreach (angleTaken v s)) :=
    judgeBreach_breaches (s := angleTaken v s) off turned
  have taken : TripTaken .rotationBreach s (judgeBreach n (angleTaken v s)) := by
    rw [judged]
    exact (trip_taken (s := raise .rotationBreach (angleTaken v s)) untripped .rotationBreach).of_before rfl rfl rfl
      rfl rfl rfl rfl
  obtain ⟨tripped, -, -, -, zero, -⟩ := id taken
  have groups := headCounted_groups_tripped n (passes_judged n v passes) tripped zero
  have words := headCounted_words (n := n) (passes_judged n v passes)
  have leaves := headCounted_leaves (n := n) (passes_judged n v passes)
  rw [headTurned]
  generalize judgeBreach n (angleTaken v s) = j at taken groups words leaves ⊢
  refine taken.of_after ?_ ?_ ?_ ?_ ?_ ?_ ?_ ?_ words groups
  all_goals rw [leaves]

/-- Where the judgment finds no breach, or a part TRIPPED already, it writes no word. -/
theorem judged_outputs (quiet : s.outputs[(0 : Fin 25)].value = 1 ∨ n ≤ 16 ∨ s.cycle = .tripped) :
    (judgeBreach n (angleTaken v s)).outputs = s.outputs := by
  by_cases permitted : s.outputs[(0 : Fin 25)].value = 1 ∨ n ≤ 16
  · rw [judgeBreach_permitted (s := angleTaken v s) permitted]
    rfl
  · have tripped : s.cycle = .tripped := by tauto
    rw [judgeBreach_breaches (s := angleTaken v s) (by tauto) (by omega),
      trip_further (s := raise .rotationBreach (angleTaken v s)) tripped]
    rfl

theorem headTurned_groupsFollow (passes : Passes s)
    (quiet : s.outputs[(0 : Fin 25)].value = 1 ∨ n ≤ 16 ∨ s.cycle = .tripped) (law : DutyLaw s)
    (flag : s.gaugeWorn = anyGaugeWorn s.tools) : GroupsFollow s (headTurned n v s) := by
  obtain ⟨tools, params, -, gaugeWorn⟩ := judged_table n v s
  have held : GaugeHeld (judgeBreach n (angleTaken v s)) := by
    rw [GaugeHeld, DutyLaw, tools, gaugeWorn]
    exact ⟨law, flag⟩
  exact (headCounted_groupsFollow n (passes_judged n v passes) held).congr gaugeWorn.symm
    (fun g => by rw [judged_outputs quiet]) rfl (fun _ => rfl) rfl rfl rfl

end sample

/-- Settles O27. -/
theorem dutyAccrues : Obligations.DutyAccrues := by
  refine ⟨fun v n s steady held turned small moved passes => ⟨headTurned n v.toNat s,
    exec_headTurned steady held turned small moved, ?_, fun i left => ?_, fun i w q trusted tool hw hq => ?_,
    headTurned_stroke n v.toNat s, ?_, fun quiet => ⟨?_, ?_⟩, fun permitted => ?_,
      fun off breach => ⟨fun untripped => ⟨?_, ?_⟩, fun tripped => ?_⟩⟩,
    fun v s held far => ⟨_, exec_rebased far, ?_⟩⟩
  · simp [headTurned, headCounted, angleTaken]
  · rw [headTurned_tool]
    refine accruedTool_kept ?_
    by_cases suspect : s.tools[i].state = .suspect
    · exact .inl suspect
    · exact .inr ⟨passes i suspect, left.resolve_left suspect⟩
  · subst hw hq
    refine ⟨_, ?_, takesDuty_accrued s.tools[i].toToolFields n s.params.groundFactor⟩
    rw [headTurned_tool, accruedTool_taken trusted (passes i trusted) tool]
  · refine (headTurned_raises n v.toNat passes).congr fun m => ?_
    rw [exists_wearTold_iff, BreachTold, or_comm, or_assoc]
  · intro o away
    rw [headTurned, headCounted_words (passes_judged n v.toNat passes) o away, judged_outputs quiet]
  · exact headTurned_groupsFollow passes quiet
  · have leaves := headTurned_leaves n v.toNat passes
    rw [judgeBreach_permitted (s := angleTaken v.toNat s) permitted, angleTaken_leaves] at leaves
    generalize headTurned n v.toNat s = t at leaves ⊢
    rw [congrArg State.channels leaves, congrArg State.angle leaves]
    exact leaves
  · exact headTurned_trips passes off breach untripped
  · have leaves := headTurned_leaves n v.toNat passes
    rw [judgeBreach_breaches (s := angleTaken v.toNat s) off breach,
      trip_leaves (s := raise .rotationBreach (angleTaken v.toNat s)) untripped] at leaves
    generalize headTurned n v.toNat s = t at leaves ⊢
    generalize trip .rotationBreach (raise .rotationBreach (angleTaken v.toNat s)) = j at leaves
    rw [congrArg State.channels leaves, congrArg State.angle leaves, congrArg State.cycle leaves,
      congrArg State.tripCause leaves, congrArg State.cylinders leaves, congrArg State.ports leaves,
      congrArg State.place leaves, congrArg State.feed leaves]
    exact leaves
  · have leaves := headTurned_leaves n v.toNat passes
    rw [judgeBreach_breaches (s := angleTaken v.toNat s) off breach,
      trip_further (s := raise .rotationBreach (angleTaken v.toNat s)) tripped] at leaves
    generalize headTurned n v.toNat s = t at leaves ⊢
    rw [congrArg State.channels leaves, congrArg State.angle leaves]
    exact leaves
  · rfl

end Sys2Proof.Machine

/-! ## A storage fault found by reading (R72 to R74) -/

namespace Sys2Proof.Machine

/-! ### What follows a changed record in TRIPPED -/

/-- The cycle stays TRIPPED with its cause, the cylinders stand as they were, and what is OFF or at 0 stays so (R35,
R38, R50, R93). -/
structure TrippedStands (s t : State) : Prop where
  cycle : t.cycle = .tripped
  cause : t.tripCause = s.tripCause
  further : t.furtherCauses = s.furtherCauses
  cylinders : t.cylinders = s.cylinders
  commands : CommandsKept s t
  permit : s.outputs[(0 : Fin 25)].value = 0 → t.outputs[(0 : Fin 25)].value = 0
  groups : (GroupsAt s fun _ => 0) → GroupsAt t fun _ => 0

theorem TrippedStands.refl {s : State} (h : s.cycle = .tripped) : TrippedStands s s :=
  ⟨h, rfl, rfl, rfl, fun _ => rfl, id, id⟩

theorem TrippedStands.trans {s t u : State} (h : TrippedStands s t) (g : TrippedStands t u) : TrippedStands s u where
  cycle := g.cycle
  cause := g.cause.trans h.cause
  further := g.further.trans h.further
  cylinders := g.cylinders.trans h.cylinders
  commands := fun i => (g.commands i).trans (h.commands i)
  permit := g.permit ∘ h.permit
  groups := g.groups ∘ h.groups

theorem cylinderOutput_above (i : Fin 16) : (cylinderOutput i).val ∉ [0, 1, 2, 3, 4] := by
  simp only [cylinderOutput, List.mem_cons, List.not_mem_nil, or_false]
  omega

section reads

variable {i : Fin 64} {s : State}

theorem recordCounted_trippedStands (i : Fin 64) (old : ToolFields) (h : s.cycle = .tripped) :
    TrippedStands s (recordCounted i old s) where
  cycle := by simp [h]
  cause := by simp
  further := by simp
  cylinders := by simp
  commands := fun j => recordCounted_keeps i old s _ (cylinderOutput_above j)
  permit := fun off => by
    have judged := recordCounted_permit i old s (by simp [h])
    split at judged
    · rw [judged, off]
    · exact judged
  groups := (recordCounted_groupsFollow i old s).tripped (by simp [h])

theorem toolChanged_trippedStands (i : Fin 64) (old : ToolFields) (h : s.cycle = .tripped) :
    TrippedStands s (toolChanged i old s) := by
  have counted := recordCounted_trippedStands i old h
  rw [toolChanged_eq]
  split
  · exact counted
  · have stands : (evalConfigured (recordCounted i old s)).cycle = (recordCounted i old s).cycle := by
      rw [evalConfigured_cycle]
      simp [h]
    rw [(evalConfigured_followed _).stands stands]
    exact counted.trans ⟨counted.cycle, rfl, rfl, rfl, fun _ => rfl, id, id⟩

/-- What follows a changed record counts the summary again (R58). -/
theorem toolChanged_counted (i : Fin 64) (old : ToolFields) (s : State) :
    (toolChanged i old s).blocking = countBlocking (toolChanged i old s).tools ∧
    (toolChanged i old s).positions = countPositions (toolChanged i old s).tools := by
  rw [toolChanged_eq]
  split <;> simp

/-! ### One record found damaged (R73) -/

theorem recordFailed_away (away : s.cycle ≠ .boring) : recordFailed i s =
    raise .recordCheckFailed { storeTool i { state := .suspect } s with
      checkCaptured := some (s.checkCaptured.getD i), checkFailures := min (s.checkFailures + 1) 255 } :=
  if_neg away

theorem recordFailed_boring (boring : s.cycle = .boring) : recordFailed i s =
    trip .recordCheck (raise .recordCheckFailed { storeTool i { state := .suspect } s with
      checkCaptured := some (s.checkCaptured.getD i), checkFailures := min (s.checkFailures + 1) 255 }) :=
  if_pos boring

theorem recordFailed_capture (i : Fin 64) (s : State) :
    (recordFailed i s).checkCaptured = some (s.checkCaptured.getD i) ∧
    (recordFailed i s).checkFailures = min (s.checkFailures + 1) 255 := by
  unfold recordFailed
  dsimp only
  split <;> simp

theorem recordFailed_suspect (i : Fin 64) (s : State) : (recordFailed i s).tools[i].state = .suspect := by
  simp [Tool.fresh]

/-- A record found damaged raises no notice of wear (R56). -/
theorem failRecord_latched (i : Fin 64) (s : State) : (failRecord i s).latched = (recordFailed i s).latched := by
  have counted (old : ToolFields) : (recordCounted i old (recordFailed i s)).latched = (recordFailed i s).latched := by
    rw [recordCounted_latched, wearNotices_latched, recordFailed_suspect]
    simp
  rw [failRecord_eq, toolChanged_eq]
  split
  · exact counted _
  · rw [show ∀ u, (evalConfigured u).latched = u.latched by simp, counted]

/-- RECORD_CHECK_FAILED is latched, and no notice is lost (R8, R73). -/
theorem failRecord_told (i : Fin 64) (s : State) (m : Notice)
    (h : m = .recordCheckFailed ∨ s.latched.getLsbD m.number = true) :
    (failRecord i s).latched.getLsbD m.number = true := by
  rw [failRecord_latched]
  have raised := (noticesRaised_raise .recordCheckFailed { storeTool i { state := .suspect } s with
    checkCaptured := some (s.checkCaptured.getD i), checkFailures := min (s.checkFailures + 1) 255 } m).mpr h.symm
  by_cases boring : s.cycle = .boring
  · rw [recordFailed_boring boring]
    exact (trip_raises (by simpa using boring ▸ nofun) .recordCheck m).mpr (.inl raised)
  · rwa [recordFailed_away boring]

theorem failRecord_capture (i : Fin 64) (s : State) :
    (failRecord i s).checkCaptured = some (s.checkCaptured.getD i) ∧
    (failRecord i s).checkFailures = min (s.checkFailures + 1) 255 := by
  rw [failRecord_eq]
  simpa using recordFailed_capture i s

theorem failRecord_counted (i : Fin 64) (s : State) :
    (failRecord i s).blocking = countBlocking (failRecord i s).tools ∧
    (failRecord i s).positions = countPositions (failRecord i s).tools := by
  rw [failRecord_eq]
  exact toolChanged_counted _ _ _

/-- BORING has tripped with RECORD_CHECK, every cylinder LOCKed, the permit OFF and the setpoints at 0 (R49, R74). -/
structure CheckTripped (s t : State) : Prop where
  cycle : t.cycle = .tripped
  cause : t.tripCause = some .recordCheck
  further : t.furtherCauses = s.furtherCauses
  locked : AllLocked s t
  permit : t.outputs[(0 : Fin 25)].value = 0
  groups : GroupsAt t fun _ => 0

theorem CheckTripped.stands {t u : State} (h : CheckTripped s t) (g : TrippedStands t u) : CheckTripped s u where
  cycle := g.cycle
  cause := g.cause.trans h.cause
  further := g.further.trans h.further
  locked := fun j => by
    rw [g.cylinders, command, g.commands j]
    exact h.locked j
  permit := g.permit h.permit
  groups := g.groups h.groups

theorem checkTripped_failRecord (i : Fin 64) (boring : s.cycle = .boring) : CheckTripped s (failRecord i s) := by
  have failed : CheckTripped s (recordFailed i s) := by
    rw [recordFailed_boring boring]
    obtain ⟨cycle, cause, further, permit, groups, locked, -⟩ :=
      trip_taken (s := raise .recordCheckFailed { storeTool i { state := .suspect } s with
        checkCaptured := some (s.checkCaptured.getD i), checkFailures := min (s.checkFailures + 1) 255 })
        (by simpa using boring ▸ nofun) .recordCheck
    exact ⟨cycle, cause, further, locked, permit, groups⟩
  rw [failRecord_eq]
  exact failed.stands (toolChanged_trippedStands _ _ failed.cycle)

theorem failRecord_trippedStands (i : Fin 64) (tripped : s.cycle = .tripped) : TrippedStands s (failRecord i s) := by
  have away : s.cycle ≠ .boring := by rw [tripped]; nofun
  have failed : TrippedStands s (recordFailed i s) := by
    rw [recordFailed_away away]
    exact ⟨tripped, rfl, rfl, rfl, fun _ => rfl, id, id⟩
  rw [failRecord_eq]
  exact failed.trans (toolChanged_trippedStands _ _ failed.cycle)

/-- Outside BORING a position already held changes what R73 names alone. -/
theorem failRecord_leaves (away : s.cycle ≠ .boring) (held : s.tools[i].state ≠ .absent) : failRecord i s = { s with
    tools := (failRecord i s).tools, checkCaptured := (failRecord i s).checkCaptured
    checkFailures := (failRecord i s).checkFailures, latched := s.latched ||| Notice.recordCheckFailed.bit
    blocking := (failRecord i s).blocking, positions := (failRecord i s).positions
    gaugeWorn := (failRecord i s).gaugeWorn, outputs := (failRecord i s).outputs } := by
  have counted : failRecord i s = recordCounted i s.tools[i].toToolFields (recordFailed i s) := by
    rw [failRecord_eq, toolChanged_eq, if_pos]
    rw [recordFailed_suspect]
    exact propext (iff_of_false held nofun)
  have latched : (failRecord i s).latched = s.latched ||| Notice.recordCheckFailed.bit := by
    rw [failRecord_latched, recordFailed_away away]
    rfl
  rw [State.eq_iff]
  refine ⟨by simp, latched, ?_⟩
  rw [counted, recordFailed_away away]
  simp

theorem failureFound (i : Fin 64) (s : State) : FailureFound i s (failRecord i s) := by
  obtain ⟨captured, failures⟩ := failRecord_capture i s
  obtain ⟨blocking, positions⟩ := failRecord_counted i s
  refine ⟨failRecord_tools i s, captured, failures, failRecord_told i s _ (.inl rfl), by simp, blocking, positions,
    fun boring => ?_, failRecord_leaves⟩
  obtain ⟨cycle, cause, -, locked, -⟩ := checkTripped_failRecord i boring
  exact ⟨cycle, cause, locked⟩

/-! ### The requests on a record -/

/-- A read of a damaged record judges it SUSPECT (R60, R73). -/
theorem onRecord_damaged (damaged : s.tools[i].damaged = true) (judge : ToolFields → State → Taken) :
    onRecord i judge s = judge { state := .suspect } (failRecord i s) := by
  have record : (failRecord i s).tools[i].toToolFields = { state := .suspect } := by
    simp [failRecord_tools, Tool.fresh]
  rw [onRecord, readTool, if_pos damaged, record]

theorem toolRead_judged {args : List Byte} (index : field args 0 1 = i.val) :
    toolRead args s = onRecord i (fun t s => doneWith (toolBytes i t) s) s := by
  rw [toolRead, index, indexArg_val]

theorem toolRead_badArgument {args : List Byte} (above : 64 ≤ field args 0 1) :
    toolRead args s = ⟨s, .badArgument, []⟩ := by
  rw [toolRead, indexArg_above above]
  rfl

theorem changeTool_damaged {args : List Byte} {acts : ToolFields → Bool} {change : ToolFields → ToolFields}
    (intervention : s.cycle = .intervention) (index : field args 0 1 = i.val) (damaged : s.tools[i].damaged = true)
    (idle : acts { state := .suspect } = false) :
    changeTool acts change args s = ⟨failRecord i s, .wrongState, []⟩ := by
  refine (inStates_at intervention).trans ?_
  rw [index, indexArg_val]
  refine (onRecord_damaged damaged _).trans ?_
  rw [idle]
  rfl

theorem toolFit_damaged {args : List Byte} (intervention : s.cycle = .intervention) (index : field args 0 1 = i.val)
    (serial : field args 1 3 ≠ 0) (damaged : s.tools[i].damaged = true) :
    toolFit args s = ⟨failRecord i s, .wrongState, []⟩ := by
  refine (inStates_at intervention).trans ?_
  rw [index, indexArg_val]
  exact (if_neg serial).trans (onRecord_damaged damaged _)

/-! ### Several failures found by one command (R73, R74) -/

/-- A visit of each record in turn that reads it, or leaves the capture as it is: `fails` says that the record of a
position is read and found damaged. -/
structure Reads (fails : Fin 64 → Tool → Bool) (f : State → Fin 64 → State) : Prop where
  others : ∀ s j k, k ≠ j → (f s j).tools[k] = s.tools[k]
  failed : ∀ s j, fails j s.tools[j] = true → f s j = failRecord j s
  capture : ∀ s j, fails j s.tools[j] = false →
    (f s j).checkCaptured = s.checkCaptured ∧ (f s j).checkFailures = s.checkFailures
  notices : ∀ s j (m : Notice), fails j s.tools[j] = false → s.latched.getLsbD m.number = true →
    (f s j).latched.getLsbD m.number = true
  summary : ∀ s j, fails j s.tools[j] = false → f s j = s ∨
    ((f s j).blocking = countBlocking (f s j).tools ∧ (f s j).positions = countPositions (f s j).tools)

/-- What the records of `done` that failed have left: the first is captured, each is counted and told. -/
structure FailuresFound (fails : Fin 64 → Bool) (done : List (Fin 64)) (s t : State) : Prop where
  captured : t.checkCaptured = s.checkCaptured.or (done.find? fails)
  counted : t.checkFailures = if 0 < done.countP fails then min (s.checkFailures + done.countP fails) 255
    else s.checkFailures
  told : ∀ k ∈ done, fails k = true → t.latched.getLsbD Notice.recordCheckFailed.number = true ∧
    t.blocking = countBlocking t.tools ∧ t.positions = countPositions t.tools

theorem FailuresFound.failed {fails : Fin 64 → Bool} {done : List (Fin 64)} {t : State}
    (h : FailuresFound fails done s t) (j : Fin 64) (bad : fails j = true) :
    FailuresFound fails (done ++ [j]) s (failRecord j t) := by
  obtain ⟨captured, failures⟩ := failRecord_capture j t
  refine ⟨?_, ?_, fun _ _ _ => ⟨failRecord_told j t _ (.inl rfl), failRecord_counted j t⟩⟩
  · have first : some (t.checkCaptured.getD j) = t.checkCaptured.or (some j) := by cases t.checkCaptured <;> rfl
    rw [captured, first, h.captured, Option.or_assoc, List.find?_append, List.find?_singleton, bad]
    rfl
  · have added : (done ++ [j]).countP fails = done.countP fails + 1 := by simp [List.countP_append, bad]
    rw [failures, h.counted, added]
    split <;> simp only [Nat.zero_lt_succ, if_true] <;> omega

theorem FailuresFound.passed {fails : Fin 64 → Bool} {done : List (Fin 64)} {t u : State}
    (h : FailuresFound fails done s t) (j : Fin 64) (good : fails j = false)
    (capture : u.checkCaptured = t.checkCaptured ∧ u.checkFailures = t.checkFailures)
    (notices : ∀ m : Notice, t.latched.getLsbD m.number = true → u.latched.getLsbD m.number = true)
    (summary : u = t ∨ (u.blocking = countBlocking u.tools ∧ u.positions = countPositions u.tools)) :
    FailuresFound fails (done ++ [j]) s u := by
  refine ⟨?_, ?_, fun k hk bad => ?_⟩
  · rw [capture.1, h.captured, List.find?_append, List.find?_singleton, good]
    simp
  · have added : (done ++ [j]).countP fails = done.countP fails := by simp [List.countP_append, good]
    rw [capture.2, h.counted, added]
  · have before : k ∈ done := by
      rw [List.mem_append, List.mem_singleton] at hk
      refine hk.resolve_right fun same => ?_
      rw [same, good] at bad
      cases bad
    obtain ⟨latched, counted⟩ := h.told k before bad
    refine ⟨notices _ latched, ?_⟩
    obtain rfl | counted := summary
    · assumption
    · exact counted

theorem Reads.foldl {fails : Fin 64 → Tool → Bool} {f : State → Fin 64 → State} (h : Reads fails f) (s : State) :
    FailuresFound (fun k => fails k s.tools[k]) (List.finRange 64) s ((List.finRange 64).foldl f s) := by
  refine (foldl_visits (f := f) (s := s) (P := fun done t => (∀ j ∉ done, t.tools[j] = s.tools[j]) ∧
    FailuresFound (fun k => fails k s.tools[k]) done s t)
    ⟨fun _ _ => rfl, by simp, by simp, by simp⟩ (fun done j t fresh ⟨rest, found⟩ => ⟨fun k away => ?_, ?_⟩)
    (List.nodup_finRange 64)).2
  · rw [List.mem_append, List.mem_singleton, not_or] at away
    rw [h.others t j k away.2, rest k away.1]
  · have here : fails j t.tools[j] = fails j s.tools[j] := by rw [rest j fresh]
    cases bad : fails j s.tools[j] with
    | true =>
      rw [h.failed t j (here.trans bad)]
      exact found.failed j bad
    | false =>
      have good := here.trans bad
      exact found.passed j bad (h.capture t j good) (fun m => h.notices t j m good) (h.summary t j good)

/-- The first record that failed is captured, unless one was before, and each is counted (R73). -/
theorem FailuresFound.first {fails : Fin 64 → Bool} {t : State} (h : FailuresFound fails (List.finRange 64) s t)
    {j : Fin 64} (bad : fails j = true) (lower : ∀ k : Fin 64, k < j → fails k = false) :
    t.checkCaptured = some (s.checkCaptured.getD j) ∧
    t.latched.getLsbD Notice.recordCheckFailed.number = true ∧
    t.checkFailures = min (s.checkFailures + (List.finRange 64).countP fails) 255 ∧
    t.blocking = countBlocking t.tools ∧ t.positions = countPositions t.tools := by
  obtain ⟨latched, counted⟩ := h.told j (List.mem_finRange j) bad
  have found : (List.finRange 64).find? fails = some j :=
    List.find?_eq_some_iff_getElem.mpr ⟨bad, j, by simp, by simp, fun k hk => by simpa using lower ⟨k, by omega⟩ hk⟩
  have positive : 0 < (List.finRange 64).countP fails := List.countP_pos_iff.mpr ⟨j, List.mem_finRange j, bad⟩
  refine ⟨?_, latched, ?_, counted⟩
  · rw [h.captured, found]
    cases s.checkCaptured <;> rfl
  · rw [h.counted, if_pos positive]

/-! ### The duplicate search of TOOL_FIT (R64, R70) -/

theorem reads_readOthers (i : Fin 64) :
    Reads (fun k x => k != i && x.damaged) fun t j => if j = i then t else readTool j t := by
  have passed (s : State) (j : Fin 64) (good : (j != i && s.tools[j].damaged) = false) :
      (if j = i then s else readTool j s) = s := by
    split
    · rfl
    · next other =>
      rw [bne_iff_ne.mpr other, Bool.true_and] at good
      exact readTool_sound good
  refine ⟨fun s j k away => ?_, fun s j bad => ?_, fun s j good => ?_, fun s j m good h => ?_, fun s j good => ?_⟩
  · split
    · rfl
    · rw [readTool_tools, if_neg away]
  · rw [Bool.and_eq_true, bne_iff_ne] at bad
    rw [if_neg bad.1, readTool, if_pos bad.2]
  · rw [passed s j good]
    exact ⟨rfl, rfl⟩
  · rwa [passed s j good]
  · exact .inl (passed s j good)

/-- A damaged record holds no serial once it is read (R73). -/
theorem serialHeld_readOthers (i : Fin 64) (serial : Nat) (s : State) : serialHeld i serial (readOthers i s) =
    (List.finRange 64).any fun j => j != i && !s.tools[j].damaged && s.tools[j].serial == some serial := by
  refine congrArg ((List.finRange 64).any ·) (funext fun j => ?_)
  rw [readOthers_tools]
  by_cases same : j = i
  · simp [same]
  · rw [if_neg same, verified]
    cases damaged : s.tools[j].damaged
    · simp
    · simp [Tool.fresh]

theorem failRecord_intervention (i : Fin 64) (h : s.cycle = .intervention) :
    (failRecord i s).cycle = .intervention ∧ (failRecord i s).tripCause = s.tripCause := by
  have away : s.cycle ≠ .boring := by rw [h]; nofun
  have cycle : (recordFailed i s).cycle = .intervention := by
    rw [recordFailed_away away]
    exact h
  have cause : (recordFailed i s).tripCause = s.tripCause := by
    rw [recordFailed_away away]
    rfl
  rw [failRecord_eq, toolChanged_eq]
  split
  · simp [cycle, cause]
  · simp [evalConfigured_cycle, cycle, cause]

theorem readOthers_intervention (i : Fin 64) (h : s.cycle = .intervention) :
    (readOthers i s).cycle = .intervention ∧ (readOthers i s).tripCause = s.tripCause := by
  refine readOthers_induct (P := fun t => t.cycle = .intervention ∧ t.tripCause = s.tripCause) i
    (fun t j ⟨cycle, cause⟩ => ?_) s ⟨h, rfl⟩
  unfold readTool
  split
  · obtain ⟨cycle', cause'⟩ := failRecord_intervention j cycle
    exact ⟨cycle', cause'.trans cause⟩
  · exact ⟨cycle, cause⟩

theorem putTool_intervention {x : ToolFields} (h : s.cycle = .intervention) :
    (putTool i x s).cycle = .intervention := by
  rw [putTool_cycle]
  simp [h]

theorem putTool_notices {x : ToolFields} {m : Notice} (h : s.latched.getLsbD m.number = true) :
    (putTool i x s).latched.getLsbD m.number = true := by
  rw [putTool_leaves]
  exact (recordWritten_raises i x s m).mpr (.inl h)

/-- What TOOL_FIT on a sound record LOCKED_OUT without a tool leaves: the search's findings, and the tool where no sound
record holds its serial. -/
def fitSearched (i : Fin 64) (args : List Byte) (s : State) : State :=
  if serialHeld i (field args 1 3) (readOthers i s) then readOthers i s
  else putTool i (toolFitted args s.tools[i].toToolFields) (readOthers i s)

theorem toolFit_searched {args : List Byte} (intervention : s.cycle = .intervention)
    (index : field args 0 1 = i.val) (serial : field args 1 3 ≠ 0) (sound : s.tools[i].damaged = false)
    (out : s.tools[i].state = .lockedOut) (bare : s.tools[i].serial = none) : toolFit args s =
      ⟨fitSearched i args s, if serialHeld i (field args 1 3) (readOthers i s) then .duplicate else .done, []⟩ := by
  have empty : ¬ s.tools[i].present = true := by rw [ToolFields.present, bare]; decide
  rw [toolFit_judged intervention index serial sound, if_pos ⟨out, empty⟩, fitSearched]
  split <;> rfl

theorem fitSearched_other {j : Fin 64} (other : j ≠ i) (args : List Byte) :
    (fitSearched i args s).tools[j] = verified s.tools[j] := by
  have searched : (readOthers i s).tools[j] = verified s.tools[j] := by rw [readOthers_tools, if_neg other]
  unfold fitSearched
  split
  · exact searched
  · rw [putTool_leaves, getElem_write, if_neg other, searched]

theorem fitSearched_record (args : List Byte) : (fitSearched i args s).tools[i] =
    if serialHeld i (field args 1 3) (readOthers i s) then s.tools[i]
    else Tool.fresh (toolFitted args s.tools[i].toToolFields) := by
  unfold fitSearched
  split
  · rw [readOthers_tools, if_pos rfl]
  · rw [putTool_leaves, getElem_write, if_pos rfl]

theorem fitSearched_capture {args : List Byte} {j : Fin 64} (other : j ≠ i) (damaged : s.tools[j].damaged = true)
    (lower : ∀ k : Fin 64, k ≠ i → k < j → s.tools[k].damaged = false) :
    (fitSearched i args s).checkCaptured = some (s.checkCaptured.getD j) ∧
    (fitSearched i args s).latched.getLsbD Notice.recordCheckFailed.number = true ∧
    (fitSearched i args s).checkFailures =
      min (s.checkFailures + (List.finRange 64).countP (fun k => k != i && s.tools[k].damaged)) 255 := by
  have bad : (j != i && s.tools[j].damaged) = true := by rw [damaged, Bool.and_true, bne_iff_ne]; exact other
  obtain ⟨captured, latched, failures, -⟩ := ((reads_readOthers i).foldl s).first bad fun k below => by
    by_cases same : k = i
    · simp [same]
    · rw [lower k same below, Bool.and_false]
  change (readOthers i s).checkCaptured = _ at captured
  change (readOthers i s).checkFailures = _ at failures
  unfold fitSearched
  split
  · exact ⟨captured, latched, failures⟩
  · exact ⟨by simpa using captured, putTool_notices latched, by simpa using failures⟩

theorem fitSearched_cycle (args : List Byte) (h : s.cycle = .intervention) :
    (fitSearched i args s).cycle = s.cycle ∧ (fitSearched i args s).tripCause = s.tripCause := by
  obtain ⟨cycle, cause⟩ := readOthers_intervention i h
  unfold fitSearched
  split
  · exact ⟨cycle.trans h.symm, cause⟩
  · exact ⟨(putTool_intervention cycle).trans h.symm, by simpa using cause⟩

/-! ### The accrual (R80, R81, R83) -/

theorem reads_accrueRecord (n : Nat) : Reads (fun _ x => x.state != .suspect && x.damaged) (accrueRecord n) := by
  have passed {s : State} {j : Fin 64} (good : (s.tools[j].state != .suspect && s.tools[j].damaged) = false) :
      accrueRecord n s j = s ∨
      accrueRecord n s j = recordWritten j (accrued s.tools[j].toToolFields n s.params.groundFactor) s := by
    obtain ⟨-, same⟩ | ⟨trusted, damaged, -⟩ | ⟨-, -, -, same⟩ := accrueRecord_cases n j s
    · exact .inl same
    · rw [damaged, Bool.and_true, bne_eq_false_iff_eq] at good
      exact absurd good trusted
    · exact .inr same
  refine ⟨fun s j k away => by rw [accrueRecord_tool, if_neg away], fun s j bad => ?_, fun s j good => ?_,
    fun s j m good h => ?_, fun s j good => ?_⟩
  · rw [Bool.and_eq_true, bne_iff_ne] at bad
    rw [accrueRecord, if_neg bad.1, if_pos bad.2]
  · obtain same | same := passed good <;> rw [same]
    · exact ⟨rfl, rfl⟩
    · rw [recordWritten_leaves]
      exact ⟨rfl, rfl⟩
  · obtain same | same := passed good <;> rw [same]
    · exact h
    · exact (recordWritten_raises _ _ _ m).mpr (.inl h)
  · refine (passed good).imp_right fun same => ?_
    rw [same, recordWritten_leaves]
    exact ⟨rfl, rfl⟩

theorem accrueRecord_trippedStands (n : Nat) (i : Fin 64) (tripped : s.cycle = .tripped) :
    TrippedStands s (accrueRecord n s i) := by
  obtain ⟨-, same⟩ | ⟨-, -, same⟩ | ⟨-, -, -, same⟩ := accrueRecord_cases n i s
  · rw [same]
    exact .refl tripped
  · rw [same]
    exact failRecord_trippedStands i tripped
  · rw [same]
    have stored : TrippedStands s (storeTool i (accrued s.tools[i].toToolFields n s.params.groundFactor) s) :=
      ⟨tripped, rfl, rfl, rfl, fun _ => rfl, id, id⟩
    exact stored.trans (recordCounted_trippedStands i _ stored.cycle)

theorem accrueAll_trippedStands (n : Nat) (tripped : s.cycle = .tripped) : TrippedStands s (accrueAll n s) :=
  accrueAll_induct (P := TrippedStands s) n
    (fun _ i stands => stands.trans (accrueRecord_trippedStands n i stands.cycle)) s (.refl tripped)

/-- Of several failures the first trips BORING; the others find the part TRIPPED (R74). -/
theorem accrueAll_checkTripped {n : Nat} {i : Fin 64} (boring : s.cycle = .boring)
    (trusted : s.tools[i].state ≠ .suspect) (damaged : s.tools[i].damaged = true) : CheckTripped s (accrueAll n s) := by
  refine (foldl_visits (f := accrueRecord n) (s := s) (P := fun done t =>
    (∀ j ∉ done, t.tools[j] = s.tools[j]) ∧ (CheckTripped s t ∨
      (DutyWritten s t ∧ ∀ j ∈ done, s.tools[j].state ≠ .suspect → s.tools[j].damaged = false)))
    ⟨fun _ _ => rfl, .inr ⟨.refl s, by simp⟩⟩ (fun done j t fresh ⟨rest, outcome⟩ => ⟨fun k away => ?_, ?_⟩)
    (List.nodup_finRange 64)).2.resolve_right fun ⟨_, passes⟩ => ?_
  · rw [List.mem_append, List.mem_singleton, not_or] at away
    rw [accrueRecord_tool, if_neg away.2, rest k away.1]
  · obtain tripped | ⟨written, passes⟩ := outcome
    · exact .inl (tripped.stands (accrueRecord_trippedStands n j tripped.cycle))
    · have there : t.tools[j] = s.tools[j] := rest j fresh
      by_cases passed : s.tools[j].state ≠ .suspect → s.tools[j].damaged = false
      · refine .inr ⟨written.trans (dutyWritten_accrueRecord n j (by rwa [there])), fun k hk => ?_⟩
        rw [List.mem_append, List.mem_singleton] at hk
        rcases hk with before | rfl
        · exact passes k before
        · exact passed
      · rw [Classical.not_imp, Bool.not_eq_false] at passed
        have cycle : t.cycle = .boring := by rw [written.leaves, boring]
        have failed := checkTripped_failRecord j cycle
        rw [accrueRecord, there, if_neg passed.1, if_pos passed.2]
        refine .inl ⟨failed.cycle, failed.cause, ?_, ?_, failed.permit, failed.groups⟩
        · rw [failed.further, written.leaves]
        · have locked := failed.locked
          rwa [AllLocked, show t.cylinders = s.cylinders by rw [written.leaves]] at locked
  · rw [passes i (List.mem_finRange i) trusted] at damaged
    cases damaged

/-- The failures of an accrual, with the trip they cause (R73, R74). -/
theorem headTurned_failures {n v : Nat} {i : Fin 64} (trusted : s.tools[i].state ≠ .suspect)
    (damaged : s.tools[i].damaged = true)
    (lower : ∀ j : Fin 64, j < i → s.tools[j].state = .suspect ∨ s.tools[j].damaged = false) :
    (headTurned n v s).checkCaptured = some (s.checkCaptured.getD i) ∧
    (headTurned n v s).latched.getLsbD Notice.recordCheckFailed.number = true ∧
    (headTurned n v s).checkFailures = min (s.checkFailures +
      (List.finRange 64).countP (fun k => s.tools[k].state != .suspect && s.tools[k].damaged)) 255 ∧
    (headTurned n v s).blocking = countBlocking (headTurned n v s).tools ∧
    (headTurned n v s).positions = countPositions (headTurned n v s).tools := by
  have bad : (s.tools[i].state != .suspect && s.tools[i].damaged) = true := by
    rw [damaged, Bool.and_true, bne_iff_ne]
    exact trusted
  have found := (reads_accrueRecord n).foldl (judgeBreach n (angleTaken v s))
  rw [(judged_table n v s).1] at found
  have first := found.first bad fun j below => by
    obtain suspect | sound := lower j below
    · rw [suspect]
      rfl
    · rw [sound, Bool.and_false]
  have before : (judgeBreach n (angleTaken v s)).checkCaptured = s.checkCaptured ∧
      (judgeBreach n (angleTaken v s)).checkFailures = s.checkFailures := by
    simp [angleTaken, takeSample]
  rw [before.1, before.2] at first
  rw [headTurned, headCounted, accrueAll]
  generalize (List.finRange 64).foldl (accrueRecord n) (judgeBreach n (angleTaken v s)) = u at first ⊢
  rw [addHeadCounts_eq]
  exact first

/-- The counts handed to the account are no matter of the cycle, the outputs or the cylinders. -/
theorem TrippedStands.counted {t : State} (h : TrippedStands s t) (n : Nat) : TrippedStands s (addHeadCounts n t) := by
  rw [addHeadCounts_eq]
  exact ⟨h.cycle, h.cause, h.further, h.cylinders, h.commands, h.permit, h.groups⟩

theorem headTurned_checkTripped {n v : Nat} {i : Fin 64} (boring : s.cycle = .boring)
    (permitted : s.outputs[(0 : Fin 25)].value = 1 ∨ n ≤ 16) (trusted : s.tools[i].state ≠ .suspect)
    (damaged : s.tools[i].damaged = true) : CheckTripped s (headTurned n v s) := by
  have failed := accrueAll_checkTripped (n := n) (s := angleTaken v s) boring trusted damaged
  rw [headTurned, headCounted, judgeBreach_permitted (s := angleTaken v s) permitted]
  obtain ⟨cycle, cause, further, locked, permit, groups⟩ :=
    failed.stands ((TrippedStands.refl failed.cycle).counted n)
  exact ⟨cycle, cause, further, locked, permit, groups⟩

theorem headTurned_trippedStands {n v : Nat} (tripped : s.cycle = .tripped)
    (permitted : s.outputs[(0 : Fin 25)].value = 1 ∨ n ≤ 16) : TrippedStands s (headTurned n v s) := by
  have taken : TrippedStands s (angleTaken v s) := ⟨tripped, rfl, rfl, rfl, fun _ => rfl, id, id⟩
  rw [headTurned, headCounted, judgeBreach_permitted (s := angleTaken v s) permitted]
  exact (taken.trans (accrueAll_trippedStands n taken.cycle)).counted n

end reads

/-- Settles O24. -/
theorem storageFaultFoundByReading : Obligations.StorageFaultFoundByReading := by
  have position {r : Request} {b : Byte} {i : Fin 64} (hargs : r.args = [b]) (index : b.toNat = i.val) :
      field r.args 0 1 = i.val := by rw [hargs, field_single, index]
  refine ⟨fun i s => rfl, fun r b i s hargs index damaged => ⟨failRecord i s, ?_, failureFound i s⟩,
    fun r b i s hargs index sound => ?_, fun r b s hargs above => ?_,
    fun c kind r b i s row hargs index intervention damaged => ⟨failRecord i s, ?_, failureFound i s⟩,
    fun c r i sel s row len index hsel selector limits duty ordered damaged => ⟨failRecord i s, ?_, failureFound i s⟩,
    fun r i s len index serial intervention => ⟨fun damaged => ⟨failRecord i s, ?_, failureFound i s⟩,
      fun sound out bare => ⟨fitSearched i r.args s, _, (serialHeld_readOthers i (field r.args 1 3) s), ?_,
        fun j other => fitSearched_other other r.args, fitSearched_record r.args,
        fun j other damaged lower => fitSearched_capture other damaged lower, fitSearched_cycle r.args intervention⟩⟩,
    fun v n s steady held turned small moved => ⟨headTurned n v.toNat s,
      exec_headTurned steady held turned small moved, fun i suspect => ?_, fun i trusted damaged => ?_,
      fun i trusted sound => ⟨fun bare => ?_, fun tool => ⟨_, ?_, takesDuty_accrued _ _ _⟩⟩,
      fun i trusted damaged lower => ?_⟩⟩
  · refine exec_owner rfl (by rw [hargs]; rfl) ((toolRead_judged (position hargs index)).trans ?_)
    exact onRecord_damaged damaged _
  · refine exec_owner rfl (by rw [hargs]; rfl) ((toolRead_judged (position hargs index)).trans ?_)
    exact onRecord_sound sound _
  · exact exec_owner rfl (by rw [hargs]; rfl) (toolRead_badArgument (by rwa [hargs, field_single]))
  · rcases row with ⟨rfl, rfl⟩ | ⟨rfl, rfl⟩ | ⟨rfl, rfl⟩ <;>
      exact exec_owner rfl (by rw [hargs]; rfl)
        (changeTool_damaged intervention (position hargs index) damaged rfl)
  · subst hsel
    refine exec_toolAmend row len ?_
    rw [toolAmend_judged len index selector limits duty ordered, onRecord_damaged damaged]
    rfl
  · exact exec_owner rfl (by rw [len]; rfl) (toolFit_damaged intervention index serial damaged)
  · exact exec_owner rfl (by rw [len]; rfl) (toolFit_searched intervention index serial sound out bare)
  · rw [headTurned_tool, accruedTool_kept (.inl suspect)]
  · rw [headTurned_tool, accruedTool_failed trusted damaged]
  · rw [headTurned_tool, accruedTool_kept (.inr ⟨sound, bare⟩)]
  · rw [headTurned_tool, accruedTool_taken trusted sound tool]
  · obtain ⟨captured, latched, failures, blocking, positions⟩ :=
      headTurned_failures (n := n) (v := v.toNat) trusted damaged lower
    refine ⟨captured, latched, failures, blocking, positions, fun boring permitted => ?_, fun tripped permitted => ?_⟩
    · obtain ⟨cycle, cause, further, locked, permit, groups⟩ :=
        headTurned_checkTripped (v := v.toNat) boring permitted trusted damaged
      exact ⟨cycle, cause, further, locked, permit, groups⟩
    · obtain ⟨cycle, cause, further, -⟩ := headTurned_trippedStands (v := v.toNat) tripped permitted
      exact ⟨cycle, cause, further⟩

end Sys2Proof.Machine

/-! ## A repeated sample of the cutterhead angle (R78) -/

namespace Sys2Proof.Machine

/-- The difference of a count from itself is 0 (R76). -/
theorem rotationAmount_self (c : Nat) : rotationAmount c c = 0 := by
  unfold rotationAmount countDiff
  split <;> omega

/-- A count of no rotation that is not a rebase ends the Duty Unit's part at once (R78): the count stored is the one
that stood, and neither the judgment nor the accrual is reached. -/
theorem angleSample_repeated {c : Nat} {s : State} (stood : s.angle = ⟨c, false⟩) :
    angleSample c s = s := by
  have still : rotationAmount c s.angle.prev = 0 := by rw [stood, rotationAmount_self]
  have plain : ¬ (s.angle.rebase = true ∨ 8192 < rotationAmount c s.angle.prev) := by
    rw [still, stood]
    simp
  rw [angleSample, if_neg plain, if_pos still, ← stood]

/-- An arrival's record is its own channel's: every other stands (R19). -/
theorem takeSample_channel_other {c d : Fin 30} (other : d ≠ c) (v : Nat) (s : State) :
    (takeSample c v s).channels[d] = s.channels[d] :=
  Vector.getElem_set_ne c.isLt d.isLt fun same => other (Fin.ext same.symm)

/-- Settles O28: what is left of the sample is the Field Port's part, the channel record. -/
theorem repeatedAngleSample : Obligations.RepeatedAngleSample := by
  intro v s stood
  have unjudged : angleSample v.toNat (takeSample 20 v.toNat s) = takeSample 20 v.toNat s :=
    angleSample_repeated stood
  exact ⟨takeSample 20 v.toNat s, by rw [exec_angle, unjudged], rfl,
    fun _ other => takeSample_channel_other other v.toNat s⟩

end Sys2Proof.Machine

/-! ## Placement requests: starting, stopping and resuming (R126 to R128, R135 to R138) -/

namespace Sys2Proof.Machine

section requests

variable {s : State} {args : List Byte} {f : Handler}

theorem inStates_building (building : s.cycle = .building) : inStates atBuilding f args s = f args s :=
  inStates_at building

theorem inStates_notBuilding (away : s.cycle ≠ .building) :
    inStates atBuilding f args s = ⟨s, .wrongState, []⟩ := inStates_away away

end requests

/-! ### Starting -/

section starts

variable {s : State} {args : List Byte} {older newer : List Ring} {x : Ring} {slot : Slot}
  {start : Placement → Placement}

theorem placeStart_busy (building : s.cycle = .building) (busy : s.place.erector ≠ .idle) :
    placeStart start args s = ⟨s, .busy, []⟩ :=
  (inStates_building building).trans (if_pos busy)

theorem placeStart_away (away : s.cycle ≠ .building) : placeStart start args s = ⟨s, .wrongState, []⟩ :=
  inStates_notBuilding away

theorem retractionAllowed_iff (cylinders : List (Fin 16)) :
    retractionAllowed s cylinders = true ↔ retractCountAfter s cylinders ≤ 16 - s.params.minHold :=
  decide_eq_true_iff

/-- With a next slot the hold limit decides (R127). -/
theorem placeStart_judged (building : s.cycle = .building) (idle : s.place.erector = .idle)
    (builds : BuildsAt s older x newer) (next : x.nextSlot = some slot) :
    placeStart start args s = if retractCountAfter s (span x.key slot) ≤ 16 - s.params.minHold then
      ⟨pickStep x slot { s with place := start s.place }, .accepted, []⟩ else ⟨s, .holdLimit, []⟩ := by
  refine (inStates_building building).trans ?_
  rw [if_neg (not_not.mpr idle), builds.building]
  dsimp only
  rw [next]
  exact if_congr (retractionAllowed_iff _) rfl rfl

/-- The pick step writes the placement, the feed queue, the starvation count and the erector's word alone. -/
theorem pickStep_leaves (r : Ring) (slot : Slot) (s : State) : pickStep r slot s = { s with
    feed := (pickStep r slot s).feed, place := (pickStep r slot s).place, outputs := (pickStep r slot s).outputs
    starvation := (pickStep r slot s).starvation } := by
  rw [State.eq_iff]
  simp

/-- A match reads the step timer of the placement and nothing else of it. -/
theorem Matched.of_place {r : Ring} {s t u : State} (h : Matched r slot s t) (feed : s.feed = u.feed)
    (params : s.params = u.params) (starvation : s.starvation = u.starvation) (timer : s.place.timer = u.place.timer) :
    Matched r slot u t := by
  rwa [Matched, feed, params, starvation, timer] at h

end starts

/-- The spans of R112. -/
theorem span_slots (k : Fin 16) :
    span k 0 = [k + 1, k + 2, k + 3] ∧ span k 1 = [k + 4, k + 5] ∧ span k 2 = [k + 6, k + 7, k + 8] ∧
    span k 3 = [k + 9, k + 10] ∧ span k 4 = [k + 11, k + 12, k + 13] ∧ span k 5 = [k + 14, k + 15] ∧
    span k 6 = [k] := by
  simp [span, spanOffsets]

/-- The first of a span's cylinders stands at its head (R112). -/
theorem span_head (k : Fin 16) (slot : Slot) : (span k slot).head? = some (spanFirst k slot) := by
  fin_cases slot <;> rfl

/-- The search of R113 finds the first slot of the order list that is OPEN. -/
theorem order_find_iff (x : Ring) (n : Fin 6) :
    x.order.toList.find? (fun n => x.slots[ordinarySlot n].state == .vacant) = some n ↔
      x.slots[n.castSucc].state = .vacant ∧
        ∃ k : Fin 6, x.order[k] = n ∧ ∀ m : Fin 6, m < k → x.slots[(x.order[m]).castSucc].state ≠ .vacant := by
  have same (n : Fin 6) : ordinarySlot n = n.castSucc := rfl
  simp only [List.find?_eq_some_iff_getElem, same, beq_iff_eq, Bool.not_eq_true', beq_eq_false_iff_ne,
    Vector.length_toList, Vector.getElem_toList]
  refine and_congr_right fun _ => ⟨?_, ?_⟩
  · rintro ⟨k, hk, found, before⟩
    exact ⟨⟨k, hk⟩, found, fun m earlier => before m earlier⟩
  · rintro ⟨k, found, before⟩
    exact ⟨k, k.isLt, found, fun m earlier => before ⟨m, earlier.trans k.isLt⟩ earlier⟩

theorem order_find_none {x : Ring}
    (none : x.order.toList.find? (fun n => x.slots[ordinarySlot n].state == .vacant) = none) (k : Fin 6) :
    x.slots[(x.order[k]).castSucc].state ≠ .vacant := by
  simpa [ordinarySlot] using List.find?_eq_none.mp none x.order[k] (by simp)

/-- A slot an order list names at a place. -/
theorem ordered_vacant {x : Ring} {slot : Slot} {k : Fin 6} (same : (x.order[k]).val = slot.val) :
    x.slots[(x.order[k]).castSucc].state = .vacant ↔ x.slots[slot].state = .vacant := by
  simp only [Fin.getElem_fin, Fin.val_castSucc] at same ⊢
  simp only [same]

theorem any_onErector (x : Ring) : (x.slots.toList.any fun sl => sl.state == .onErector) = true ↔
    ¬ ∀ slot : Slot, x.slots[slot].state ≠ .onErector := by
  simp only [List.any_eq_true, Vector.mem_toList_iff, Vector.mem_iff_getElem, beq_iff_eq, not_forall, not_not]
  exact ⟨fun ⟨_, ⟨i, hi, e⟩, held⟩ => ⟨⟨i, hi⟩, e ▸ held⟩, fun ⟨slot, held⟩ => ⟨_, ⟨slot, slot.isLt, rfl⟩, held⟩⟩

/-- The next slot of R113, with the order list taken place by place. -/
theorem nextSlot_iff (x : Ring) (slot : Slot) : x.nextSlot = some slot ↔
    x.state = .building ∧ (∀ sl : Slot, x.slots[sl].state ≠ .onErector) ∧ x.slots[slot].state = .vacant ∧
    if slot = 6 then ∀ n : Fin 6, x.slots[(x.order[n]).castSucc].state ≠ .vacant
    else ∃ n : Fin 6, (x.order[n]).val = slot.val ∧
      ∀ m : Fin 6, m < n → x.slots[(x.order[m]).castSucc].state ≠ .vacant := by
  unfold Ring.nextSlot
  by_cases building : x.state = .building
  swap
  · rw [if_pos building]
    exact iff_of_false nofun fun h => building h.1
  by_cases free : ∀ sl : Slot, x.slots[sl].state ≠ .onErector
  swap
  · rw [if_neg (not_not.mpr building), if_pos ((any_onErector x).mpr free)]
    exact iff_of_false nofun fun h => free h.2.1
  rw [if_neg (not_not.mpr building), if_neg fun held => (any_onErector x).mp held free, and_iff_right building,
    and_iff_right free]
  split
  · next n found =>
    obtain ⟨vacant, k, rfl, before⟩ := (order_find_iff x n).mp found
    split
    · next key =>
      subst key
      have apart : ordinarySlot x.order[k] ≠ 6 := Fin.ne_of_lt (x.order[k]).isLt
      exact iff_of_false (fun same => apart (Option.some.inj same)) fun h => h.2 k vacant
    · constructor
      · intro same
        cases same
        exact ⟨vacant, k, rfl, before⟩
      · rintro ⟨open_, k', same, before'⟩
        have found' := (order_find_iff x x.order[k']).mpr ⟨(ordered_vacant same).mpr open_, k', rfl, before'⟩
        rw [found] at found'
        rw [Option.some.inj found']
        exact congrArg some (Fin.ext same)
  · next none =>
    have past := order_find_none none
    split
    · next vacant =>
      split
      · next key => exact iff_of_true (by rw [key]) ⟨key ▸ vacant, past⟩
      · next ordinary =>
        refine iff_of_false (fun same => ordinary (Option.some.inj same).symm) ?_
        rintro ⟨open_, k, same, -⟩
        exact past k ((ordered_vacant same).mpr open_)
    · next taken =>
      refine iff_of_false nofun ?_
      rintro ⟨open_, rest⟩
      split at rest
      · next key => exact taken (by rwa [key] at open_)
      · obtain ⟨k, same, -⟩ := rest
        exact past k ((ordered_vacant same).mpr open_)

/-- A placement begun as PLACE_NEXT or PLACE_RUN begins it. -/
theorem placeStart_places {start : Placement → Placement} {x : Ring} {slot : Slot} {s : State}
    (timer : (start s.place).timer = s.place.timer) :
    Matched x slot s (pickStep x slot { s with place := start s.place }) ∧
    OutputsKeptBut [21] s (pickStep x slot { s with place := start s.place }) :=
  ⟨(pickStep_matched x slot { s with place := start s.place }).of_place rfl rfl rfl timer,
    pickStep_keeps x slot { s with place := start s.place }⟩

/-- Settles O35. -/
theorem placementStarts : Obligations.PlacementStarts := by
  refine ⟨fun k => ?_, nextSlot_iff, fun _ _ => rfl, fun c kind mode row => ?_⟩
  · obtain ⟨zero, one, two, three, four, five, key⟩ := span_slots k
    exact ⟨zero, one, two, three, four, five, key, span_head k⟩
  obtain ⟨start, requested, count, owner, started⟩ : ∃ start : Placement → Placement,
      (∀ r, requestOf (c r) = some (kind, r)) ∧ indexCount kind = some 0 ∧ ownerOf kind.toNat = placeStart start ∧
      ∀ p : Placement, start p = { p with mode := mode, hold := if mode = .run then false else p.hold } := by
    obtain ⟨rfl, rfl, rfl⟩ | ⟨rfl, rfl, rfl⟩ := row
    · exact ⟨fun p => { p with mode := .single }, fun _ => rfl, rfl, rfl, fun _ => rfl⟩
    · exact ⟨fun p => { p with mode := .run, hold := false }, fun _ => rfl, rfl, rfl, fun _ => rfl⟩
  have answered {r : Request} {s : State} {t : Taken} (hargs : r.args = []) (carried : placeStart start r.args s = t) :
      exec (c r) s = .next (respond kind r s.link.answer t) :=
    exec_owner (requested r) (by rw [hargs]; exact count) (by rw [owner]; exact carried)
  refine ⟨fun r older newer x slot s hargs building idle builds next => ⟨fun within => ?_, fun beyond => ?_⟩,
    fun r s hargs building busy => answered hargs (placeStart_busy building busy),
    fun r s hargs away => answered hargs (placeStart_away away)⟩
  · have judged := placeStart_judged (args := r.args) (start := start) building idle builds next
    rw [if_pos within] at judged
    have timer : (start s.place).timer = s.place.timer := by rw [started]
    obtain ⟨matched, kept⟩ := placeStart_places (x := x) (slot := slot) timer
    have leaves := pickStep_leaves x slot { s with place := start s.place }
    have place := pickStep_place x slot { s with place := start s.place }
    refine ⟨_, answered hargs judged, matched, leaves, ?_, kept⟩
    rw [place, started]
  · exact answered hargs ((placeStart_judged building idle builds next).trans (if_neg (by omega)))


/-! ### Stopping -/

section stops

variable {s : State} {args : List Byte} {older newer : List Ring} {x : Ring} {slot : Slot} {id : Nat}

theorem erectorHold_judged : erectorHold args s =
    if s.cycle = .building then ⟨{ s with place := { s.place with hold := true } }, .done, []⟩
    else ⟨s, .wrongState, []⟩ := by
  split
  · next building => exact inStates_building building
  · next away => exact inStates_notBuilding away

theorem erectorAbort_taken {st : Step} (building : s.cycle = .building) (working : s.place.erector = .working st) :
    erectorAbort args s = ⟨haltPlacement st s, .accepted, []⟩ := by
  refine (inStates_building building).trans ?_
  rw [working]

theorem erectorAbort_refused (still : s.cycle ≠ .building ∨ s.place.erector = .idle ∨ s.place.erector = .halted) :
    erectorAbort args s = ⟨s, .wrongState, []⟩ := by
  by_cases building : s.cycle = .building
  · refine (inStates_building building).trans ?_
    obtain idle | halted := still.resolve_left (not_not.mpr building)
    · rw [idle]
      rfl
    · rw [halted]
      rfl
  · exact inStates_notBuilding building

/-- A halt writes the placement, the feed queue, the erector's word and its notice alone (R136). -/
theorem haltPlacement_leaves (st : Step) (s : State) : haltPlacement st s = { s with
    place := { s.place with
      erector := .halted, interrupted := some st, timer := { s.place.timer with running := false }
      current := if st = .awaitSegment ∨ st = .picking then none else s.place.current }
    feed := if st = .awaitSegment ∨ st = .picking then s.feed.map (fun e => { e with reserved := false }) else s.feed
    outputs := (haltPlacement st s).outputs, latched := s.latched ||| Notice.buildAborted.bit } := by
  rw [State.eq_iff]
  simp [haltPlacement_place, haltPlacement_feed, haltPlacement_latched]

theorem erectorReturn_away (away : s.cycle ≠ .building ∨ s.place.erector ≠ .halted) :
    erectorReturn args s = ⟨s, .wrongState, []⟩ := by
  by_cases building : s.cycle = .building
  · exact (inStates_building building).trans (if_pos (away.resolve_left (not_not.mpr building)))
  · exact inStates_notBuilding building

/-- With a segment on the erector the room in the queue decides (R123, R138). -/
theorem erectorReturn_held (building : s.cycle = .building) (halted : s.place.erector = .halted)
    (builds : BuildsAt s older x newer) (current : s.place.current = some slot)
    (held : x.slots[slot] = ⟨.onErector, some id⟩) : erectorReturn args s =
      if 8 ≤ s.feed.length then ⟨s, .full, []⟩ else ⟨placeReturned (returnSegment x slot id s), .done, []⟩ := by
  refine (inStates_building building).trans ?_
  rw [if_neg (not_not.mpr halted), current, builds.building]
  dsimp only
  rw [held]
  rfl

theorem erectorReturn_empty (building : s.cycle = .building) (halted : s.place.erector = .halted)
    (current : s.place.current = none) : erectorReturn args s = ⟨placeReturned s, .done, []⟩ := by
  refine (inStates_building building).trans ?_
  rw [if_neg (not_not.mpr halted), current]
  rfl

theorem placeReturned_value (s : State) : (placeReturned s).outputs[(21 : Fin 25)].value = 0 := writeErector_value _ _

theorem placeReturned_keeps (s : State) : OutputsKeptBut [21] s (placeReturned s) :=
  writeErector_keeps .idle
    { s with place := { s.place with erector := .idle, current := none, interrupted := none } }

theorem placeReturned_leaves (s : State) : placeReturned s = { s with
    place := { s.place with erector := .idle, current := none, interrupted := none }
    outputs := (placeReturned s).outputs } := by
  rw [State.eq_iff]
  simp [placeReturned]

/-- The slot given back is OPEN again (R114). -/
theorem returnSlot_rings (builds : BuildsAt s older x newer) (held : x.slots[slot].state = .onErector) :
    (returnSlot slot s).rings = older ++ { x with slots := x.slots.set slot ⟨.vacant, none⟩ } :: newer := by
  rw [returnSlot, builds.updated, if_pos held, Ring.setSlot]

/-- The segment given back to the queue and to its slot, before the span is extended (R114, R123). -/
def segmentReturned (r : Ring) (slot : Slot) (id : Nat) (s : State) : State :=
  returnSlot slot { s with feed := { id := id, kind := slot.kind, type := r.type } :: s.feed }

theorem returnSegment_eq (r : Ring) (slot : Slot) (id : Nat) (s : State) :
    returnSegment r slot id s = extendSpan r slot (segmentReturned r slot id s) := rfl

theorem segmentReturned_leaves (r : Ring) (slot : Slot) (id : Nat) (s : State) :
    placeReturned (returnSegment r slot id s) = { s with
      feed := ⟨id, slot.kind, r.type, false⟩ :: s.feed, rings := (segmentReturned r slot id s).rings
      place := { s.place with erector := .idle, current := none, interrupted := none }
      outputs := (placeReturned (returnSegment r slot id s)).outputs
      cylinders := (placeReturned (returnSegment r slot id s)).cylinders } := by
  rw [State.eq_iff, returnSegment_eq]
  simp [placeReturned, segmentReturned]

end stops

/-- What a command to a span reads of the state before it. -/
theorem SpanCommanded.of_before {cyls : List (Fin 16)} {c : Command} {ring : Nat} {slot : Slot} {s u t : State}
    (h : SpanCommanded cyls c ring slot u t) (outputs : u.outputs = s.outputs) (cylinders : u.cylinders = s.cylinders)
    (params : u.params = s.params) (channels : u.channels = s.channels) : SpanCommanded cyls c ring slot s t := by
  intro i
  have held := h i
  have before : command u i = command s i ∧ extension u i = extension s i := by
    simp only [command, extension, outputs, channels, and_self]
  rwa [before.1, before.2, outputs, cylinders, params] at held

/-- A segment given back: the span extended and the placement ended (R138). -/
theorem segmentReturned_places {s : State} {x : Ring} {slot : Slot} {id : Nat} {u : State}
    (run : u = placeReturned (returnSegment x slot id s)) :
    SpanCommanded (span x.key slot) .extend x.number slot s u ∧ PlacementOutputsOnly s u := by
  subst run
  obtain ⟨commanded, only⟩ := extendSpan_commanded x slot (segmentReturned x slot id s)
  have kept := placeReturned_keeps (extendSpan x slot (segmentReturned x slot id s))
  rw [returnSegment_eq]
  refine ⟨(commanded.of_after (by simp [placeReturned]) kept).of_before ?_ ?_ ?_ ?_, ?_⟩
  · simp [segmentReturned]
  · simp [segmentReturned]
  · simp [segmentReturned]
  · simp [segmentReturned]
  · have same : (segmentReturned x slot id s).outputs = s.outputs := by simp [segmentReturned]
    simpa only [PlacementOutputsOnly, same] using only.of_after kept

/-- Settles O36. -/
theorem placementStopped : Obligations.PlacementStopped := by
  refine ⟨fun r s hargs => exec_owner rfl (by rw [hargs]; rfl) erectorHold_judged,
    fun r st s hargs building working => ⟨_, exec_owner rfl (by rw [hargs]; rfl) (erectorAbort_taken building working),
      haltPlacement_leaves st s, haltPlacement_erector st s, haltPlacement_keeps st s⟩,
    fun r s hargs still => exec_owner rfl (by rw [hargs]; rfl) (erectorAbort_refused still),
    fun r older newer x slot id s hargs building halted builds current held => ?_,
    fun r s hargs building halted current => ⟨_, exec_owner rfl (by rw [hargs]; rfl)
      (erectorReturn_empty building halted current), placeReturned_leaves s, placeReturned_value s,
      placeReturned_keeps s⟩,
    fun r s hargs away => exec_owner rfl (by rw [hargs]; rfl) (erectorReturn_away away)⟩
  have judged := erectorReturn_held (args := r.args) building halted builds current held
  refine ⟨fun room => ?_, fun full => exec_owner rfl (by rw [hargs]; rfl) (judged.trans (if_pos full))⟩
  obtain ⟨commanded, only⟩ := segmentReturned_places (s := s) (x := x) (slot := slot) (id := id) rfl
  have rings : (segmentReturned x slot id s).rings =
      older ++ { x with slots := x.slots.set slot ⟨.vacant, none⟩ } :: newer :=
    returnSlot_rings (builds.changed builds.1 builds.2.2) (by rw [held])
  refine ⟨_, exec_owner rfl (by rw [hargs]; rfl) (judged.trans (if_neg (by omega))), commanded,
    placeReturned_value _, only, ?_⟩
  rw [← rings]
  exact segmentReturned_leaves x slot id s

/-! ### Resuming -/

section resumes

variable {s : State} {args : List Byte} {older newer : List Ring} {x : Ring} {slot : Slot} {st : Step}

theorem erectorResume_away (away : s.cycle ≠ .building ∨ s.place.erector ≠ .halted) :
    erectorResume args s = ⟨s, .wrongState, []⟩ := by
  by_cases building : s.cycle = .building
  · exact (inStates_building building).trans (if_pos (away.resolve_left (not_not.mpr building)))
  · exact inStates_notBuilding building

/-- A placement interrupted before its grip is matched again (R137). -/
theorem erectorResume_picks (building : s.cycle = .building) (halted : s.place.erector = .halted)
    (builds : BuildsAt s older x newer) (interrupted : s.place.interrupted = some st)
    (early : st = .awaitSegment ∨ st = .picking) (next : x.nextSlot = some slot) :
    erectorResume args s = ⟨pickStep x slot (clearInterrupted s), .accepted, []⟩ := by
  have before : st.beforeGrip = true := by obtain rfl | rfl := early <;> rfl
  refine (inStates_building building).trans ?_
  rw [if_neg (not_not.mpr halted), interrupted, builds.building]
  dsimp only
  rw [if_pos before, next]

/-- A placement interrupted with its segment held goes on with its current slot (R137). -/
theorem erectorResume_holds (building : s.cycle = .building) (halted : s.place.erector = .halted)
    (builds : BuildsAt s older x newer) (interrupted : s.place.interrupted = some st)
    (late : st.beforeGrip = false) (current : s.place.current = some slot) :
    erectorResume args s = resumeHeld st x slot s := by
  refine (inStates_building building).trans ?_
  rw [if_neg (not_not.mpr halted), interrupted, builds.building]
  dsimp only
  rw [if_neg (by simp [late]), current]

theorem span_retracted : ((span x.key slot).all fun i => command s i == .retract) = true ↔
    ∀ i ∈ span x.key slot, command s i = .retract := by
  simp

/-- CLEARING, or POSITIONING with the span no longer retracted, is taken up at the hold limit's check (R137). -/
theorem resumeHeld_clears
    (clears : st = .clearing ∨ st = .positioning ∧ ∃ i ∈ span x.key slot, command s i ≠ .retract) :
    resumeHeld st x slot s = resumeClearing x slot s := by
  obtain rfl | ⟨rfl, away⟩ := clears
  · rfl
  · refine if_neg fun all => ?_
    obtain ⟨i, hi, away⟩ := away
    exact away (span_retracted.mp all i hi)

theorem resumeClearing_judged : resumeClearing x slot s =
    if retractCountAfter s (span x.key slot) ≤ 16 - s.params.minHold then
      ⟨enterClearing x slot (clearInterrupted s), .accepted, []⟩ else ⟨s, .holdLimit, []⟩ :=
  if_congr (retractionAllowed_iff _) rfl rfl

theorem clears_late
    (clears : st = .clearing ∨ st = .positioning ∧ ∃ i ∈ span x.key slot, command s i ≠ .retract) :
    st.beforeGrip = false := by
  obtain rfl | ⟨rfl, -⟩ := clears <;> rfl

end resumes

section resumed

variable {s : State} {x : Ring} {slot : Slot}

/-- What CLEARING taken up again leaves (R137, R91). -/
theorem resumedClearing_leaves {older newer : List Ring} {u : State} (builds : BuildsAt s older x newer)
    (current : s.place.current = some slot) (run : u = enterClearing x slot (clearInterrupted s)) :
    SpanCommanded (span x.key slot) .retract x.number slot s u ∧ PlacementOutputsOnly s u ∧
    (if ∀ i ∈ span x.key slot, extension s i ≤ s.params.retractedAt then
        u.place.erector = .working .positioning ∧
          u.outputs[(21 : Fin 25)].value = 16 + (spanFirst x.key slot).val
      else u.place.erector = .working .clearing ∧ u.outputs[(21 : Fin 25)].value = 1) ∧
    u = { s with
      outputs := u.outputs, cylinders := u.cylinders
      place := { s.place with
        erector := u.place.erector, interrupted := none, timer := ⟨s.params.erectorStepTime, true⟩ } } := by
  obtain ⟨commanded, only, place, step⟩ :=
    enterClearing_leaves run (s := clearInterrupted s) builds.building rfl current
  refine ⟨commanded, only, step, ?_⟩
  subst run
  rw [State.eq_iff]
  simpa [clearInterrupted] using place

/-- What SEATING taken up again leaves (R137). -/
theorem resumedSeating_leaves : enterSeating x slot (clearInterrupted s) = { s with
    outputs := (enterSeating x slot (clearInterrupted s)).outputs
    cylinders := (enterSeating x slot (clearInterrupted s)).cylinders
    place := { s.place with
      erector := .working .seating, interrupted := none, timer := ⟨s.params.erectorStepTime, true⟩ } } := by
  obtain ⟨-, -, place, -⟩ := enterSeating_leaves x slot (clearInterrupted s)
  rw [State.eq_iff, place]
  simp [clearInterrupted]

/-- What POSITIONING taken up again leaves (R137). -/
theorem resumedPositioning_leaves : enterPositioning x slot (clearInterrupted s) = { s with
    outputs := (enterPositioning x slot (clearInterrupted s)).outputs
    place := { s.place with
      erector := .working .positioning, interrupted := none, timer := ⟨s.params.erectorStepTime, true⟩ } } := by
  obtain ⟨-, place⟩ := enterPositioning_leaves x slot (clearInterrupted s)
  rw [State.eq_iff, place]
  simp [clearInterrupted]

/-- What a match on resuming leaves (R137, R122). -/
theorem resumedPick_leaves : pickStep x slot (clearInterrupted s) = { s with
    feed := (pickStep x slot (clearInterrupted s)).feed, outputs := (pickStep x slot (clearInterrupted s)).outputs
    starvation := (pickStep x slot (clearInterrupted s)).starvation
    place := { s.place with
      erector := (pickStep x slot (clearInterrupted s)).place.erector, current := some slot, interrupted := none
      timer := (pickStep x slot (clearInterrupted s)).place.timer } } := by
  have place := pickStep_place x slot (clearInterrupted s)
  rw [(pickStep_matched x slot (clearInterrupted s)).1] at place
  rw [State.eq_iff]
  simpa [clearInterrupted] using place

end resumed

/-- Settles O37. -/
theorem placementResumed : Obligations.PlacementResumed := by
  refine ⟨fun r older newer x slot st s hargs building halted builds interrupted =>
    ⟨fun early next => ?_, fun clears current within => ?_, fun clears current beyond => ?_,
      fun positioning retracted current => ?_, fun seating current => ?_⟩,
    fun r s hargs away => exec_owner rfl (by rw [hargs]; rfl) (erectorResume_away away)⟩
  · exact ⟨_, exec_owner rfl (by rw [hargs]; rfl) (erectorResume_picks building halted builds interrupted early next),
      (pickStep_matched x slot (clearInterrupted s)).of_place rfl rfl rfl rfl,
      pickStep_keeps x slot (clearInterrupted s), resumedPick_leaves⟩
  · have judged := erectorResume_holds (args := r.args) building halted builds interrupted (clears_late clears) current
    rw [resumeHeld_clears clears, resumeClearing_judged, if_pos within] at judged
    exact ⟨_, exec_owner rfl (by rw [hargs]; rfl) judged, resumedClearing_leaves builds current rfl⟩
  · have judged := erectorResume_holds (args := r.args) building halted builds interrupted (clears_late clears) current
    rw [resumeHeld_clears clears, resumeClearing_judged, if_neg (by omega)] at judged
    exact exec_owner rfl (by rw [hargs]; rfl) judged
  · subst positioning
    have judged := erectorResume_holds (args := r.args) building halted builds interrupted rfl current
    rw [resumeHeld, if_pos (span_retracted.mpr retracted)] at judged
    exact ⟨_, exec_owner rfl (by rw [hargs]; rfl) judged, writeErector_value _ _,
      (enterPositioning_leaves x slot (clearInterrupted s)).1, resumedPositioning_leaves⟩
  · subst seating
    obtain ⟨commanded, only, -, word⟩ := enterSeating_leaves x slot (clearInterrupted s)
    exact ⟨_, exec_owner rfl (by rw [hargs]; rfl)
      (erectorResume_holds (args := r.args) building halted builds interrupted rfl current), commanded, only, word,
      resumedSeating_leaves⟩

end Sys2Proof.Machine

/-! ## An abort before the grip, over a span that stands retracted (R90, R125, R136)

The placement law asks that a cylinder commanded RETRACT stand in the span of the current slot. It does not ask that
no cylinder be retracted before the grip. An abort then leaves no current slot (R136) and commands no cylinder, so the
law is lost: it is no law that every step keeps. -/

namespace Sys2Proof.Machine

/-- A ring under construction, its slots all OPEN; slot 0 comes first. -/
def openRing : Ring :=
  { number := 1, type := .straight, key := 0, order := #v[0, 1, 2, 3, 4, 5], state := .building }

/-- PICKING for slot 0 with cylinder 1, of its span, already commanded RETRACT by the ring's build. -/
def pickingOverRetracted : State :=
  { State.reset with
    cycle := .building, configured := true, rings := [openRing]
    place := { erector := .working .picking, current := some 0, timer := ⟨90000, true⟩ }
    outputs := Vector.ofFn fun o => if o = 6 then ⟨2, true⟩ else if o = 21 then ⟨1, true⟩ else ⟨0, true⟩
    cylinders := Vector.ofFn fun i => if i = 1 then ⟨⟨0, false⟩, .build 1 0⟩ else {} }

/-- The same with ERECTOR_ABORT at the front of the queue. -/
def abortWaiting : State := pickingOverRetracted.withFront (.erectorAbort ⟨0, [], 0⟩)

theorem pickingOverRetracted_buildLaw : BuildLaw pickingOverRetracted := by
  unfold BuildLaw
  decide +kernel

theorem pickingOverRetracted_worksOn {P : Ring → Slot → Prop} (h : P openRing 0) : WorksOn pickingOverRetracted P :=
  ⟨[], openRing, [], 0, ⟨rfl, nofun, rfl⟩, rfl, h⟩

/-- Only cylinder 1 is commanded RETRACT, and it is of slot 0's span. -/
theorem pickingOverRetracted_retracts (i : Fin 16) (retracted : command pickingOverRetracted i = .retract) :
    i ∈ span openRing.key 0 ∧ pickingOverRetracted.cylinders[i].owner = .build openRing.number 0 := by
  revert i
  decide +kernel

theorem pickingOverRetracted_placeLaw : PlaceLaw pickingOverRetracted :=
  ⟨fun away => absurd rfl away, fun _ => ⟨[], openRing, [], rfl, nofun, rfl⟩, by decide +kernel, by decide +kernel,
    by decide +kernel, fun i retracted => pickingOverRetracted_worksOn (pickingOverRetracted_retracts i retracted),
    by decide +kernel, pickingOverRetracted_worksOn (by decide +kernel)⟩

/-- What the abort leaves: no current slot, and cylinder 1 commanded RETRACT as before. -/
theorem abortWaiting_runs : ∃ t, step abortWaiting = .next t ∧ t.place.current = none ∧ command t 1 = .retract := by
  have run : step abortWaiting = exec (.erectorAbort ⟨0, [], 0⟩) pickingOverRetracted := step_of_pending rfl
  refine ⟨_, run.trans (exec_owner rfl rfl (erectorAbort_taken rfl rfl)), ?_, ?_⟩
  · rw [respond_place, haltPlacement_place]
    rfl
  · rw [command, respond_outputs, haltPlacement_keeps .picking _ (cylinderOutput 1) (by decide)]
    decide +kernel

/-- Refutes O57: an abort in PICKING breaks the placement law where a cylinder of the span stands retracted. -/
theorem not_holdKept : ¬ Obligations.HoldKept := by
  rintro ⟨-, placeKept, -⟩
  obtain ⟨t, run, current, retracted⟩ := abortWaiting_runs
  obtain ⟨-, -, -, -, -, onSpan, -⟩ :=
    placeKept abortWaiting t pickingOverRetracted_buildLaw pickingOverRetracted_placeLaw run
  obtain ⟨_, _, _, slot, -, some, -⟩ := onSpan 1 retracted
  rw [current] at some
  cases some

end Sys2Proof.Machine

/-! ## The reckoning: what the pulses, the account and the group setpoints rest on

The laws on the pulses (R152), on the account and its volume (section 3.1, R100) and on the group setpoints (R92, R93)
speak of a few fields alone. Most of what the part does leaves them as they are. -/

namespace Sys2Proof.Machine

/-- The values of the groups' words (R93). -/
def groupWords (outputs : Vector Output 25) : Fin 4 → Nat := fun g => outputs[groupOutput g].value

/-- The pulses credited to each port (R152). -/
def credits (ports : Vector Port 6) : Fin 6 → BitVec 32 := fun p => ports[p].credited

/-- What the four laws speak of. -/
def reckoning (s : State) : Cycle × ((Fin 6 → BitVec 32) × BitVec 32 × BitVec 32) ×
    (AccountState × Nat × Nat × Nat × Option Nat) × (Fin 4 → Nat) × Vector Nat 4 × Bool × Nat × Nat × Nat :=
  (s.cycle, (credits s.ports, s.totalPulses, s.unattributed),
    (s.stroke.state, s.stroke.advance, s.stroke.litres, s.stroke.remainder, s.params.faceArea),
    groupWords s.outputs, s.quadrants, s.gaugeWorn, s.params.pMax, s.params.pDerate, s.params.holdPressure)

section words

/-! ### The groups' words -/

theorem groupWords_congr {v w : Vector Output 25} (same : ∀ o : Fin 25, 1 ≤ o.val ∧ o.val ≤ 4 → w[o] = v[o]) :
    groupWords w = groupWords v := by
  funext g
  have low : 1 ≤ (groupOutput g).val ∧ (groupOutput g).val ≤ 4 := by simp only [groupOutput]; omega
  rw [groupWords, same _ low, groupWords]

/-- A write to no group's word. -/
@[simp] theorem groupWords_writeOutput {i : Fin 25} (h : ¬ (1 ≤ i.val ∧ i.val ≤ 4)) (v : Nat) (s : State) :
    groupWords (writeOutput i v s).outputs = groupWords s.outputs :=
  groupWords_congr fun _ low => writeOutput_other (by rintro rfl; exact h low) v s

/-- An operation that writes words above the groups' alone. -/
theorem groupWords_of_keeps {l : List Nat} {s t : State} (kept : OutputsKeptBut l s t) (high : ∀ n ∈ l, 4 < n) :
    groupWords t.outputs = groupWords s.outputs :=
  groupWords_congr fun o low => kept o fun listed => absurd (high _ listed) (by omega)

@[simp] theorem groupWords_evalPermit (s : State) : groupWords (evalPermit s).outputs = groupWords s.outputs :=
  groupWords_writeOutput (by decide) _ s

@[simp] theorem groupWords_writeErector (c : ErectorCommand) (s : State) :
    groupWords (writeErector c s).outputs = groupWords s.outputs := groupWords_writeOutput (by decide) _ s

@[simp] theorem groupWords_writeScrew (v : Nat) (s : State) :
    groupWords (writeScrew v s).outputs = groupWords s.outputs := groupWords_writeOutput (by decide) _ s

@[simp] theorem groupWords_commandWhere (chosen : Fin 16 → Bool) (c : Command) (owner : Option Owner) (s : State) :
    groupWords (commandWhere chosen c owner s).outputs = groupWords s.outputs :=
  groupWords_congr fun _ low => commandWhere_other chosen c owner (by omega) s

@[simp] theorem groupWords_lockAll (s : State) : groupWords (lockAll s).outputs = groupWords s.outputs :=
  groupWords_commandWhere _ _ _ s

@[simp] theorem groupWords_extendAll (s : State) : groupWords (extendAll s).outputs = groupWords s.outputs :=
  groupWords_commandWhere _ _ _ s

@[simp] theorem groupWords_extendSpan (r : Ring) (slot : Slot) (s : State) :
    groupWords (extendSpan r slot s).outputs = groupWords s.outputs := groupWords_commandWhere _ _ _ s

@[simp] theorem groupWords_retractSpan (r : Ring) (slot : Slot) (s : State) :
    groupWords (retractSpan r slot s).outputs = groupWords s.outputs := groupWords_commandWhere _ _ _ s

@[simp] theorem groupWords_groutSettle (s : State) : groupWords (groutSettle s).outputs = groupWords s.outputs := by
  refine groupWords_congr fun o low => groutSettle_other ?_ ?_ s <;> rintro rfl <;> simp at low

@[simp] theorem groupWords_screwFollow (was : Bool) (s : State) :
    groupWords (screwFollow was s).outputs = groupWords s.outputs := by
  refine groupWords_congr fun o low => screwFollow_other ?_ was s
  rintro rfl
  simp at low

@[simp] theorem groupWords_balanceTaken (before : Bool) (s : State) :
    groupWords (balanceTaken before s).outputs = groupWords s.outputs := by
  refine groupWords_congr fun o low => balanceTaken_other ?_ before s
  rintro rfl
  simp at low

@[simp] theorem groupWords_screwRange (s : State) : groupWords (screwRange s).outputs = groupWords s.outputs := by
  refine groupWords_congr fun o low => screwRange_other ?_ s
  rintro rfl
  simp at low

@[simp] theorem groupWords_haltPlacement (st : Step) (s : State) :
    groupWords (haltPlacement st s).outputs = groupWords s.outputs :=
  groupWords_of_keeps (haltPlacement_keeps st s) (by simp)

@[simp] theorem groupWords_placementOnTrip (s : State) :
    groupWords (placementOnTrip s).outputs = groupWords s.outputs := by
  refine groupWords_congr fun o low => placementOnTrip_other ?_ s
  rintro rfl
  simp at low

@[simp] theorem groupWords_advanceRings (delta : Nat) (s : State) :
    groupWords (advanceRings delta s).outputs = groupWords s.outputs := by
  simp [advanceRings]

@[simp] theorem groupWords_matchSegment (kind : SegmentKind) (type : RingType) (s : State) :
    groupWords (matchSegment kind type s).outputs = groupWords s.outputs :=
  groupWords_of_keeps (matchSegment_keeps kind type s) (by simp)

@[simp] theorem groupWords_retryMatch (s : State) : groupWords (retryMatch s).outputs = groupWords s.outputs := by
  unfold retryMatch
  repeat' split
  all_goals simp

@[simp] theorem groupWords_pickStep (r : Ring) (slot : Slot) (s : State) :
    groupWords (pickStep r slot s).outputs = groupWords s.outputs :=
  groupWords_of_keeps (pickStep_keeps r slot s) (by simp)

@[simp] theorem groupWords_enterPositioning (r : Ring) (slot : Slot) (s : State) :
    groupWords (enterPositioning r slot s).outputs = groupWords s.outputs :=
  groupWords_of_keeps (enterPositioning_leaves r slot s).1 (by simp)

@[simp] theorem groupWords_clearingLook (s : State) :
    groupWords (clearingLook s).outputs = groupWords s.outputs :=
  groupWords_of_keeps (clearingLook_keeps s) (by simp)

@[simp] theorem groupWords_enterClearing (r : Ring) (slot : Slot) (s : State) :
    groupWords (enterClearing r slot s).outputs = groupWords s.outputs := by
  simp [enterClearing, enterStep]

@[simp] theorem groupWords_enterSeating (r : Ring) (slot : Slot) (s : State) :
    groupWords (enterSeating r slot s).outputs = groupWords s.outputs := by
  simp [enterSeating, enterStep]

@[simp] theorem groupWords_placeIdle (s : State) : groupWords (placeIdle s).outputs = groupWords s.outputs :=
  groupWords_of_keeps (placeIdle_keeps s) (by simp)

@[simp] theorem groupWords_afterSlot (s : State) : groupWords (afterSlot s).outputs = groupWords s.outputs :=
  groupWords_of_keeps (afterSlot_leaves s).1 (by simp)

@[simp] theorem groupWords_cylindersRetaken (before s : State) :
    groupWords (cylindersRetaken before s).outputs = groupWords s.outputs :=
  groupWords_of_keeps cylindersRetaken_keeps (by simp)

@[simp] theorem groupWords_haltOnReset (s : State) : groupWords (haltOnReset s).outputs = groupWords s.outputs := by
  unfold haltOnReset
  split <;> simp

@[simp] theorem groupWords_markAll (s : State) : groupWords (markAll s).outputs = groupWords s.outputs :=
  funext fun g => by simp [groupWords, markAll]

@[simp] theorem groupWords_beginMessage (s : State) : groupWords (beginMessage s).outputs = groupWords s.outputs :=
  funext fun g => beginMessage_value s (groupOutput g)

/-! ### The ports' credits -/

/-- A port record written over with its credit. -/
@[simp] theorem credits_set {ports : Vector Port 6} {p : Fin 6} {x : Port} (keeps : x.credited = ports[p].credited) :
    credits (ports.set p x) = credits ports := by
  funext q
  by_cases e : p.val = q.val
  · obtain rfl : p = q := Fin.ext e
    simpa [credits] using keeps
  · simp [credits, Vector.getElem_set_ne _ _ e]

@[simp] theorem credits_endShot (p : Fin 6) (st : PortState) (s : State) :
    credits (endShot p st s).ports = credits s.ports := credits_set rfl

@[simp] theorem credits_search (s : State) : credits (search s).ports = credits s.ports := by
  unfold search
  repeat' split
  · exact credits_set rfl
  · rfl
  · rfl

@[simp] theorem credits_endServing (s : State) : credits (endServing s).ports = credits s.ports := by
  unfold endServing
  split
  · exact credits_endShot _ _ s
  · rfl

@[simp] theorem credits_portsSettled (s : State) : credits (portsSettled s).ports = credits s.ports := by
  unfold portsSettled
  repeat' split
  · exact credits_search s
  · rfl
  · exact credits_endServing s

@[simp] theorem credits_shotVolumeEnd (s : State) : credits (shotVolumeEnd s).ports = credits s.ports := by
  unfold shotVolumeEnd
  repeat' split
  · exact credits_endShot _ _ s
  · rfl
  · rfl

@[simp] theorem credits_changeCycle (c : Cycle) (s : State) : credits (changeCycle c s).ports = credits s.ports := by
  simp [changeCycle]

@[simp] theorem credits_advanceRings (delta : Nat) (s : State) :
    credits (advanceRings delta s).ports = credits s.ports := by
  simp [advanceRings]

end words

end Sys2Proof.Machine

/-! ## The four laws of the reckoning: what keeps them -/

namespace Sys2Proof.Machine

section laws

variable {s t u : State}

theorem PulseLaw.of_same (h : PulseLaw s) (ports : credits t.ports = credits s.ports)
    (total : t.totalPulses = s.totalPulses) (rest : t.unattributed = s.unattributed) : PulseLaw t := by
  show t.totalPulses = ((List.finRange 6).map (credits t.ports)).sum + t.unattributed
  rw [ports, total, rest]
  exact h

theorem VolumeLaw.of_same (h : VolumeLaw s) (state : t.stroke.state = s.stroke.state)
    (advance : t.stroke.advance = s.stroke.advance) (litres : t.stroke.litres = s.stroke.litres)
    (remainder : t.stroke.remainder = s.stroke.remainder) (area : t.params.faceArea = s.params.faceArea) :
    VolumeLaw t := by
  rwa [VolumeLaw, state, advance, litres, remainder, area]

/-- No setpoint the cycle state calls for is above the ceiling (R93). -/
theorem groupSetpoint_le_ceiling (s : State) (g : Fin 4) : groupSetpoint s g ≤ ceiling s := by
  unfold groupSetpoint
  split
  · exact Nat.min_le_right _ _
  · exact Nat.min_le_right _ _
  · exact Nat.min_le_right _ _
  all_goals exact Nat.zero_le _

/-- The ceiling takes care of itself. -/
theorem setpointLaw_iff (s : State) : SetpointLaw s ↔ groupWords s.outputs = groupSetpoint s := by
  refine ⟨fun h => funext fun g => (h g).1, fun h g => ?_⟩
  have word : s.outputs[groupOutput g].value = groupSetpoint s g := congrFun h g
  exact ⟨word, word ▸ groupSetpoint_le_ceiling s g⟩

theorem groupSetpoint_congr (cycle : t.cycle = s.cycle) (quadrants : t.quadrants = s.quadrants)
    (gauge : t.gaugeWorn = s.gaugeWorn) (pMax : t.params.pMax = s.params.pMax)
    (pDerate : t.params.pDerate = s.params.pDerate) (held : t.params.holdPressure = s.params.holdPressure) :
    groupSetpoint t = groupSetpoint s := by
  funext g
  simp only [groupSetpoint, ceiling, cycle, quadrants, gauge, pMax, pDerate, held]

theorem SetpointLaw.of_same (h : SetpointLaw s) (words : groupWords t.outputs = groupWords s.outputs)
    (cycle : t.cycle = s.cycle) (quadrants : t.quadrants = s.quadrants) (gauge : t.gaugeWorn = s.gaugeWorn)
    (pMax : t.params.pMax = s.params.pMax) (pDerate : t.params.pDerate = s.params.pDerate)
    (held : t.params.holdPressure = s.params.holdPressure) : SetpointLaw t := by
  rw [setpointLaw_iff] at h ⊢
  rw [words, groupSetpoint_congr cycle quadrants gauge pMax pDerate held, h]

theorem setpointLaw_deriveSetpoints (s : State) : SetpointLaw (deriveSetpoints s) := by
  have due : groupSetpoint (deriveSetpoints s) = groupSetpoint s :=
    groupSetpoint_congr (by simp) (by simp) (by simp) (by simp) (by simp) (by simp)
  rw [setpointLaw_iff, due]
  exact funext fun g => deriveSetpoints_group g s

theorem setpointLaw_changeCycle (c : Cycle) (s : State) : SetpointLaw (changeCycle c s) := by
  have due : groupSetpoint (changeCycle c s) = groupSetpoint { s with cycle := c } :=
    groupSetpoint_congr (by simp) (by simp) (by simp) (by simp) (by simp) (by simp)
  rw [setpointLaw_iff, due]
  exact funext (changeCycle_group c s)

/-- From `s` to `t` the four laws are kept, the volume with the account OPEN in BORING. -/
structure Upholds (s t : State) : Prop where
  pulses : PulseLaw s → PulseLaw t
  account : StrokeLaw s → StrokeLaw t
  volume : StrokeLaw s → VolumeLaw s → VolumeLaw t
  setpoints : SetpointLaw s → SetpointLaw t

theorem Upholds.refl (s : State) : Upholds s s := ⟨id, id, fun _ => id, id⟩

theorem Upholds.trans (h : Upholds s t) (g : Upholds t u) : Upholds s u where
  pulses := g.pulses ∘ h.pulses
  account := g.account ∘ h.account
  volume := fun opened swept => g.volume (h.account opened) (h.volume opened swept)
  setpoints := g.setpoints ∘ h.setpoints

/-- The reckoning decides. -/
theorem Upholds.of_same (same : reckoning t = reckoning s) : Upholds s t := by
  simp only [reckoning, Prod.mk.injEq] at same
  obtain ⟨cycle, ⟨ports, total, rest⟩, ⟨state, advance, litres, remainder, area⟩, words, quadrants, gauge, pMax,
    pDerate, held⟩ := same
  exact ⟨fun h => h.of_same ports total rest, fun h boring => state.trans (h (cycle.symm.trans boring)),
    fun _ h => h.of_same state advance litres remainder area,
    fun h => h.of_same words cycle quadrants gauge pMax pDerate held⟩

/-- A state that meets the four laws is reached from anywhere. -/
theorem Upholds.of_laws (pulses : PulseLaw t) (account : StrokeLaw t) (volume : VolumeLaw t)
    (setpoints : SetpointLaw t) : Upholds s t :=
  ⟨fun _ => pulses, fun _ => account, fun _ _ => volume, fun _ => setpoints⟩

theorem Upholds.of_ite {c : Prop} [Decidable c] (h : Upholds s t) : Upholds s (if c then t else s) := by
  split
  · exact h
  · exact .refl s

/-- Setpoints derived anew, the pulses, the cycle and the account as they were. -/
theorem upholds_derived (cycle : t.cycle = s.cycle)
    (pulses : (t.ports, t.totalPulses, t.unattributed) = (s.ports, s.totalPulses, s.unattributed))
    (swept : (t.stroke, t.params.faceArea) = (s.stroke, s.params.faceArea)) : Upholds s (deriveSetpoints t) := by
  obtain ⟨ports, total, rest⟩ : _ ∧ _ ∧ _ := by simpa only [Prod.mk.injEq] using pulses
  obtain ⟨stroke, area⟩ := Prod.mk.inj swept
  refine ⟨fun h => ?_, fun h boring => ?_, fun _ h => ?_, fun _ => setpointLaw_deriveSetpoints t⟩
  · exact h.of_same (by simp [ports]) (by simp [total]) (by simp [rest])
  · simpa [stroke] using h (by simpa [cycle] using boring)
  · apply h.of_same <;> simp [stroke, area]

theorem upholds_foldl {α : Type} {f : State → α → State} (h : ∀ t a, Upholds t (f t a)) (l : List α) (s : State) :
    Upholds s (l.foldl f s) := by
  induction l generalizing s with
  | nil => exact .refl s
  | cons a l ih => exact (h s a).trans (ih _)

/-! ### The cycle -/

/-- A change of the cycle, into BORING with the account OPEN alone. -/
theorem upholds_changeCycle {c : Cycle} (opens : c = .boring → s.stroke.state = .opened) :
    Upholds s (changeCycle c s) where
  pulses := fun h => h.of_same (by simp) (by simp) (by simp)
  account := fun _ boring => by simpa using opens (by simpa using boring)
  volume := fun _ h => h.of_same (by simp) (by simp) (by simp) (by simp) (by simp)
  setpoints := fun _ => setpointLaw_changeCycle c s

theorem upholds_trip (cause : TripCause) (s : State) : Upholds s (trip cause s) := by
  unfold trip
  split
  · exact .of_same rfl
  · have caused : Upholds s { s with tripCause := some cause } := .of_same rfl
    refine (caused.trans (upholds_changeCycle (c := .tripped) nofun)).trans (.of_same ?_)
    simp [reckoning]

theorem upholds_evalConfigured (s : State) : Upholds s (evalConfigured s) := by
  have judged : Upholds s { s with configured := configuredDue s } := .of_same rfl
  unfold evalConfigured
  dsimp only
  repeat' split
  · exact .refl s
  · exact judged.trans (upholds_changeCycle nofun)
  · refine (judged.trans (upholds_changeCycle (c := .unconfigured) nofun)).trans (.of_same ?_)
    simp [reckoning]
  · exact judged

theorem credits_endStrokeWith (cause : EndCause) (s : State) :
    credits (endStrokeWith cause s).ports = credits s.ports := by
  unfold endStrokeWith
  dsimp only
  split <;> simp

/-- An OPEN account closes with its volume (R42, R43); in BORING it is OPEN. -/
theorem upholds_endStrokeWith {cause : EndCause} (opened : s.cycle = .boring ∨ s.stroke.state = .opened) :
    Upholds s (endStrokeWith cause s) where
  pulses := fun h => h.of_same (credits_endStrokeWith cause s) (by simp) (by simp)
  account := fun _ boring => by
    rw [endStrokeWith_cycle] at boring
    split at boring
    · cases boring
    · contradiction
  volume := fun account h _ => by
    have was : s.stroke.state = .opened := opened.elim account id
    simpa [endStrokeWith_stroke] using h (.inl was)
  setpoints := fun h => by
    unfold endStrokeWith
    dsimp only
    split
    · exact setpointLaw_changeCycle _ _
    · exact h.of_same (by simp) (by simp) (by simp) (by simp) (by simp) (by simp) (by simp)

/-! ### Records -/

theorem upholds_evalGaugeWorn (s : State) : Upholds s (evalGaugeWorn s) := by
  unfold evalGaugeWorn
  dsimp only
  split
  · exact .refl s
  · exact upholds_derived rfl rfl rfl

theorem upholds_recordCounted (i : Fin 64) (old : ToolFields) (s : State) : Upholds s (recordCounted i old s) := by
  have counted : Upholds s (summarise (wearNotices old.state s.tools[i].state s)) := .of_same (by simp [reckoning])
  have judged := counted.trans (upholds_evalGaugeWorn _)
  unfold recordCounted
  dsimp only
  split
  · exact judged
  · exact judged.trans (.of_same (by simp [reckoning]))

theorem upholds_toolChanged (i : Fin 64) (old : ToolFields) (s : State) : Upholds s (toolChanged i old s) := by
  rw [toolChanged_eq]
  split
  · exact upholds_recordCounted i old s
  · exact (upholds_recordCounted i old s).trans (upholds_evalConfigured _)

theorem upholds_putTool (i : Fin 64) (x : ToolFields) (s : State) : Upholds s (putTool i x s) := by
  have stored : Upholds s (storeTool i x s) := .of_same rfl
  exact stored.trans (upholds_toolChanged _ _ _)

theorem upholds_failRecord (i : Fin 64) (s : State) : Upholds s (failRecord i s) := by
  have failed : Upholds s (recordFailed i s) := by
    unfold recordFailed
    dsimp only
    split
    · refine Upholds.trans (.of_same ?_) (upholds_trip _ _)
      rfl
    · exact .of_same rfl
  rw [failRecord_eq]
  exact failed.trans (upholds_toolChanged _ _ _)

theorem upholds_readTool (i : Fin 64) (s : State) : Upholds s (readTool i s) := by
  unfold readTool
  split
  · exact upholds_failRecord i s
  · exact .refl s

theorem upholds_readOthers (i : Fin 64) (s : State) : Upholds s (readOthers i s) :=
  readOthers_induct (P := Upholds s) i (fun _ j h => h.trans (upholds_readTool j _)) s (.refl s)

theorem upholds_loadAtPointer (x : ToolFields) (s : State) : Upholds s (loadAtPointer x s) :=
  (upholds_putTool s.loadPointer x s).trans (.of_same rfl)

theorem upholds_accrueRecord (n : Nat) (s : State) (i : Fin 64) : Upholds s (accrueRecord n s i) := by
  unfold accrueRecord
  repeat' split
  · exact .refl s
  · exact upholds_failRecord i s
  · exact upholds_putTool i _ s
  · exact .refl s

end laws

end Sys2Proof.Machine

/-! ## What keeps the reckoning's laws: the events -/

namespace Sys2Proof.Machine

section events

variable {s t : State}

/-! ### The account and its volume (R98 to R103) -/

/-- The litres swept by an increment join the volume, the rest is carried (R100). -/
theorem volumeLaw_swept {delta mean : Nat} (opened : s.stroke.state = .opened) (h : VolumeLaw s) :
    VolumeLaw (accountIncrement delta mean s) := by
  obtain ⟨-, swept⟩ := h (.inl opened)
  have carried := Nat.div_add_mod (s.stroke.remainder + s.params.faceArea.getD 0 * delta) 100000
  intro _
  simp only [accountIncrement, advanceRings_frame, balanceTaken_frame, Nat.mul_add]
  omega

theorem upholds_accountIncrement (delta mean : Nat) (opened : s.stroke.state = .opened) :
    Upholds s (accountIncrement delta mean s) where
  pulses := fun h => h.of_same (by simp [accountIncrement]) (by simp [accountIncrement]) (by simp [accountIncrement])
  account := fun _ _ => by simpa [accountIncrement] using opened
  volume := fun _ h => volumeLaw_swept opened h
  setpoints := fun h => by
    apply h.of_same <;> simp [accountIncrement]

theorem upholds_measure (mean : Nat) (s : State) : Upholds s (measure mean s) := by
  unfold measure
  split
  · exact .refl s
  · next h =>
    split
    · exact upholds_accountIncrement _ _ (not_not.mp (not_or.mp h).1)
    · exact .of_same (by simp [reckoning, rejectJump])

theorem upholds_cylindersRetaken (before s : State) : Upholds s (cylindersRetaken before s) :=
  .of_same (by simp [reckoning])

theorem upholds_extensionSample (i : Fin 16) (value : Nat) (before s : State) :
    Upholds s (extensionSample i value before s) := by
  have retaken := upholds_cylindersRetaken before s
  unfold extensionSample
  dsimp only
  split
  · generalize cylindersRetaken before s = t at retaken ⊢
    have measured := retaken.trans ((upholds_measure (referenceMean t) t).of_ite (c := referencesFresh t = true))
    generalize (if referencesFresh t = true then measure (referenceMean t) t else t) = u at measured ⊢
    split
    · next ends => exact measured.trans (upholds_endStrokeWith (.inl ends.1))
    · exact measured
  · exact retaken

theorem upholds_massSample (c : Nat) (s : State) : Upholds s (massSample c s) := by
  unfold massSample
  dsimp only
  repeat' split
  all_goals exact .of_same (by simp [reckoning])

/-! ### The head -/

theorem upholds_judgeBreach (n : Nat) (s : State) : Upholds s (judgeBreach n s) := by
  have raised : Upholds s (raise .rotationBreach s) := .of_same rfl
  exact (raised.trans (upholds_trip _ _)).of_ite

theorem upholds_addHeadCounts (n : Nat) (s : State) : Upholds s (addHeadCounts n s) := by
  have counted : Upholds s { s with stroke := { s.stroke with headCounts := satAdd s.stroke.headCounts n } } :=
    .of_same rfl
  exact counted.of_ite

theorem upholds_accrueAll (n : Nat) (s : State) : Upholds s (accrueAll n s) :=
  upholds_foldl (fun t i => upholds_accrueRecord n t i) _ s

theorem upholds_angleSample (c : Nat) (s : State) : Upholds s (angleSample c s) := by
  have turned : Upholds s { s with angle := ⟨c, false⟩ } := .of_same rfl
  unfold angleSample
  dsimp only
  generalize { s with angle := ⟨c, false⟩ } = t at turned ⊢
  repeat' split
  · exact turned.trans (.of_same rfl)
  · exact turned
  · exact ((turned.trans (upholds_judgeBreach _ t)).trans (upholds_accrueAll _ _)).trans (upholds_addHeadCounts _ _)

/-! ### The grout -/

/-- One port's credit more, the sum of the credits more by as much. -/
theorem sum_credits_setPort {f : Port → Port} {n : BitVec 32} (more : ∀ port, (f port).credited = port.credited + n)
    (p : Fin 6) (s : State) :
    ((List.finRange 6).map (credits (setPort p f s).ports)).sum =
      ((List.finRange 6).map (credits s.ports)).sum + n := by
  have sum (h : Fin 6 → BitVec 32) : ((List.finRange 6).map h).sum = ∑ q, h q := by
    rw [Finset.sum_eq_multiset_sum]
    rfl
  have shift : credits (setPort p f s).ports = fun q => credits s.ports q + if q = p then n else 0 := by
    funext q
    by_cases e : q = p
    · subst e
      simp [credits, more]
    · simp [credits, e, Vector.getElem_set_ne _ _ (fun same => e (Fin.ext same.symm) : p.val ≠ q.val)]
  rw [sum, sum, shift, Finset.sum_add_distrib, Finset.sum_ite_eq' Finset.univ p]
  simp

/-- Pulses join the total, and the SERVING port's credit or the unattributed count (R152). -/
theorem pulseLaw_creditPulses (n : Nat) (h : PulseLaw s) : PulseLaw (creditPulses n s) := by
  have total : s.totalPulses = ((List.finRange 6).map (credits s.ports)).sum + s.unattributed := h
  unfold creditPulses
  dsimp only
  split
  · rw [PulseLaw]
    refine Eq.trans ?_ (congrArg (· + s.unattributed) (sum_credits_setPort (fun _ => rfl) _ _)).symm
    show s.totalPulses + BitVec.ofNat 32 n = _ + BitVec.ofNat 32 n + s.unattributed
    rw [total, add_right_comm]
  · show s.totalPulses + BitVec.ofNat 32 n =
      ((List.finRange 6).map (credits s.ports)).sum + (s.unattributed + BitVec.ofNat 32 n)
    rw [total, add_assoc]

theorem upholds_creditPulses (n : Nat) (s : State) : Upholds s (creditPulses n s) where
  pulses := pulseLaw_creditPulses n
  account := fun h boring => by simpa using h (by simpa using boring)
  volume := fun _ h => by apply h.of_same <;> simp
  setpoints := fun h => by apply h.of_same <;> simp

theorem upholds_volumeCredited (volume : Nat) (s : State) :
    Upholds s (groutSettle (shotVolumeEnd (creditVolume volume s))) := .of_same (by simp [reckoning])

theorem upholds_pulseSample (c : Nat) (first : Bool) (s : State) : Upholds s (pulseSample c first s) := by
  unfold pulseSample
  dsimp only
  have taken : Upholds s { s with pulse := ⟨c, false⟩ } := .of_same rfl
  split
  · have rebased : Upholds s { s with pulse := ⟨c, false⟩, rebases := min (s.rebases + 1) 65535 } := .of_same rfl
    split
    · exact rebased.trans (.of_same (by simp [reckoning]))
    · exact rebased
  · split
    · exact taken
    · exact (taken.trans (upholds_creditPulses _ _)).trans (upholds_volumeCredited _ _)

theorem upholds_portPressureSample (p : Fin 6) (value : Nat) (s : State) :
    Upholds s (portPressureSample p value s) := by
  unfold portPressureSample
  dsimp only
  repeat' split
  all_goals exact .of_same (by simp [reckoning])

/-! ### Samples -/

theorem upholds_chamberSample (pressure : Nat) (s : State) : Upholds s (chamberSample pressure s) := by
  unfold chamberSample
  dsimp only
  split
  all_goals exact .of_same (by simp [reckoning])

theorem upholds_arrive (c : Fin 30) (v : Nat) (s : State) : Upholds s (arrive c v s) := by
  have taken : Upholds s (takeSample c v s) := .of_same rfl
  unfold arrive deliver
  repeat' split
  · exact taken.trans (upholds_extensionSample _ _ _ _)
  · exact taken.trans (upholds_trip _ _).of_ite
  · exact taken.trans (upholds_angleSample _ _)
  · exact taken.trans (upholds_chamberSample _ _)
  · exact taken.trans (upholds_massSample _ _)
  · exact taken.trans (upholds_pulseSample _ _ _)
  · exact taken.trans (upholds_portPressureSample _ _ _)

theorem upholds_receiveMessage (channel : Byte) (v : Word16) (check : Byte) (s : State) :
    Upholds s (receiveMessage channel v check s) := by
  unfold receiveMessage
  repeat' split
  · exact upholds_arrive _ _ s
  · exact .of_same rfl
  · exact .of_same rfl

/-! ### Inputs -/

theorem upholds_segGripped (s : State) : Upholds s (segGripped s) := by
  unfold segGripped
  dsimp only
  repeat' split
  all_goals exact .of_same (by simp [reckoning])

theorem upholds_atSlot (s : State) : Upholds s (atSlot s) := by
  unfold atSlot
  repeat' split
  all_goals exact .of_same (by simp [reckoning])

/-- The key's bolting ends in STANDSTILL (R115, R45). -/
theorem upholds_closure (s : State) : Upholds s (closure s) := by
  have closed : Upholds s (closeRing (placeIdle s)) := .of_same (by simp [reckoning])
  exact (closed.trans (upholds_changeCycle (c := .standstill) nofun)).trans (.of_same (by simp [reckoning, closure]))

theorem upholds_segBolted (s : State) : Upholds s (segBolted s) := by
  unfold segBolted
  dsimp only
  repeat' split
  · exact Upholds.trans (.of_same (by simp [reckoning])) (upholds_closure _)
  · exact .of_same (by simp [reckoning])
  · exact .refl s
  · exact .refl s

theorem upholds_takeInput (i : Fin 12) (input : Input) (event : Bool) (s : State) :
    Upholds s (takeInput i input event s) := by
  have judged : Upholds s (sensed i input event s) := by
    rw [sensed_eq]
    exact .of_same rfl
  rw [takeInput_eq]
  refine judged.trans ?_
  generalize sensed i input event s = t
  unfold useInput
  repeat' split
  · exact upholds_trip _ t
  · exact .refl t
  · exact .refl t
  · exact .of_same (by simp [reckoning])
  · exact upholds_segGripped t
  · exact .refl t
  · exact upholds_atSlot t
  · exact .refl t
  · exact upholds_segBolted t
  · exact .refl t
  · exact .refl t
  · exact .of_same (by simp [reckoning])
  · exact .refl t

/-! ### Timers -/

theorem upholds_staleExpired (c : Fin 30) (s : State) : Upholds s (staleExpired c s) := by
  unfold staleExpired tellStale
  dsimp only
  repeat' split
  all_goals exact .of_same (by simp [reckoning])

theorem upholds_blockExpired (p : Fin 6) (s : State) : Upholds s (blockExpired p s) :=
  .of_same (by simp [reckoning, blockExpired])

theorem upholds_retractExpired (i : Fin 16) (s : State) : Upholds s (retractExpired i s) :=
  .of_same (by simp [reckoning])

theorem upholds_stepExpired (s : State) : Upholds s (stepExpired s) := .of_same rfl

theorem upholds_beginMessage (s : State) : Upholds s (beginMessage s) := .of_same (by simp [reckoning])

theorem upholds_countDown (s : State) : Upholds s (countDown s) := by
  refine .of_same ?_
  have ports : credits (countDown s).ports = credits s.ports := funext fun p => by simp [credits, countDown]
  simp only [reckoning, ports]
  rfl

theorem upholds_expireBlocks (s : State) : Upholds s (expireBlocks s) :=
  upholds_foldl (fun t p => (upholds_blockExpired p t).of_ite) _ s

theorem upholds_expireStales (s : State) : Upholds s (expireStales s) :=
  upholds_foldl (fun t c => (upholds_staleExpired c t).of_ite) _ s

theorem upholds_expireRetracts (s : State) : Upholds s (expireRetracts s) :=
  upholds_foldl (fun t i => (upholds_retractExpired i t).of_ite) _ s

/-- The four laws hold through either order in which timers reach zero together. -/
theorem upholds_idle (s : State) : Upholds s (idle s) := by
  have timers : Upholds s (expireStep (expireRetracts (countDown (beginMessage s)))) :=
    (upholds_beginMessage s).trans <| (upholds_countDown _).trans <|
      (upholds_expireRetracts _).trans (upholds_stepExpired _).of_ite
  unfold idle passMillisecond
  dsimp only
  split
  · exact timers.trans <| (upholds_expireStales _).trans (upholds_expireBlocks _)
  · exact timers.trans <| (upholds_expireBlocks _).trans (upholds_expireStales _)

/-! ### The resets -/

theorem upholds_tripIfStop (s : State) : Upholds s (tripIfStop s) := (upholds_trip _ s).of_ite

theorem upholds_atRest (s : State) : Upholds s (atRest s) := by
  have ports : credits (atRest s).ports = credits s.ports := funext fun p => by
    simp [credits, atRest, forgetTrip, clearGroupFlags, cylindersReset, portsReset, channelsReset, placementReset,
      clearReports]
  refine .of_same ?_
  simp only [reckoning, ports]
  simp [atRest, forgetTrip, clearGroupFlags, cylindersReset, portsReset, channelsReset, placementReset, clearReports]

theorem upholds_markAll (s : State) : Upholds s (markAll s) := .of_same (by simp [reckoning])

theorem upholds_resetWork (s : State) : Upholds s (resetWork s) := by
  rw [resetWork_atRest]
  exact ((upholds_atRest s).trans (upholds_changeCycle fun boring => absurd boring (resetState_ne_boring _))).trans
    (upholds_markAll _)

/-- The power-on state meets the four laws. -/
theorem upholds_powerOnReset (lines : BitVec 12) (s : State) : Upholds s (powerOnReset lines s) := by
  have poweredOn : Upholds s (poweredOn lines s) :=
    .of_laws reset_pulseLaw reset_strokeLaw reset_volumeLaw reset_setpointLaw
  exact poweredOn.trans (upholds_tripIfStop _)

end events

end Sys2Proof.Machine

/-! ## What keeps the reckoning's laws: the owners and the step -/

namespace Sys2Proof.Machine

/-- However its request turns out, the owner keeps the four laws. -/
def Handler.Upholds (f : Handler) : Prop := ∀ (args : List Byte) (s : State), Machine.Upholds s (f args s).state

section owners

variable {s : State}

theorem upholds_inStates {ok : Cycle → Bool} {f : Handler} (h : f.Upholds) : (inStates ok f).Upholds := by
  intro args s
  unfold inStates
  split
  · exact h args s
  · exact .refl s

/-- The same, with the cycle the request was taken in. -/
theorem upholds_inStates_taken {ok : Cycle → Bool} {f : Handler}
    (h : ∀ args s, ok s.cycle = true → Machine.Upholds s (f args s).state) : (inStates ok f).Upholds := by
  intro args s
  unfold inStates
  split
  · next due => exact h args s due
  · exact .refl s

theorem upholds_ifConfigured {f : Handler} (h : f.Upholds) : (ifConfigured f).Upholds := by
  intro args s
  unfold ifConfigured
  split
  · exact .refl s
  · exact h args s

/-! ### Link, parameters and inputs -/

theorem noRequest_upholds : noRequest.Upholds := fun _ s => .refl s

theorem readStatus_upholds : readStatus.Upholds := fun _ s => .refl s

theorem readNotices_upholds : readNotices.Upholds := fun _ s => .refl s

theorem clearNotices_upholds : clearNotices.Upholds := fun _ _ => .of_same rfl

theorem setNoticeEnable_upholds : setNoticeEnable.Upholds := fun _ _ => .of_same rfl

theorem readErrorCapture_upholds : readErrorCapture.Upholds := fun _ _ => .of_same rfl

theorem controllerReset_upholds : controllerReset.Upholds := by
  intro args s
  simp only [controllerReset, doneWith]
  exact (upholds_resetWork s).trans (upholds_tripIfStop _)

theorem readInputs_upholds : readInputs.Upholds := fun _ _ => .of_same rfl

theorem readChannel_upholds : readChannel.Upholds := by
  intro args s
  unfold readChannel
  split <;> exact .refl s

theorem getParam_upholds : getParam.Upholds := by
  intro args s
  unfold getParam
  dsimp only
  split <;> exact .refl s

/-- A geometry parameter is stored with the account NONE or SPENT alone (R172), whose volume the law leaves free. -/
theorem upholds_setGeometry (id : Nat) (g : Geometry) (bytes : List Byte) (s : State) :
    Upholds s (setGeometry id g bytes s).state := by
  unfold setGeometry
  split
  · exact .refl s
  · next geometry =>
    have account : s.stroke.state = .none ∨ s.stroke.state = .spent := by
      simp only [geometryOpen, Bool.not_eq_true', Bool.not_eq_false, Bool.and_eq_true, Bool.or_eq_true,
        beq_iff_eq] at geometry
      exact geometry.1.2
    split
    · exact .refl s
    · next p stored =>
      have pressures : p.pMax = s.params.pMax ∧ p.pDerate = s.params.pDerate ∧
          p.holdPressure = s.params.holdPressure := by
        cases g <;> simp [storeGeometry] at stored
        case refCylinders => obtain ⟨refs, -, rfl⟩ := stored; exact ⟨rfl, rfl, rfl⟩
        all_goals obtain ⟨-, rfl⟩ := stored; exact ⟨rfl, rfl, rfl⟩
      obtain ⟨pMax, pDerate, held⟩ := pressures
      have kept : Upholds s { s with params := p } :=
        ⟨fun h => h, fun h => h, fun _ _ swept => by
          have swept : s.stroke.state = .opened ∨ s.stroke.state = .closed := swept
          obtain e | e := account <;> simp [e] at swept,
          fun h => h.of_same rfl rfl rfl rfl pMax pDerate held⟩
      dsimp only [doneWith]
      split
      · exact kept.trans (upholds_evalConfigured _)
      · exact kept

/-- A tuning parameter acts; those of the thrust derive the group setpoints again (R93). -/
theorem upholds_setTuning (id : Nat) (k : Tuning) (v : Nat) (s : State) :
    Upholds s (setTuning id k v s).state := by
  unfold setTuning
  simp only [doneOrClamped]
  generalize clampTo (tuningRange s.params k).1 (tuningRange s.params k).2 v = stored
  cases k
  case pMax => exact upholds_derived rfl rfl rfl
  case pDerate => exact upholds_derived rfl rfl rfl
  case holdPressure => exact upholds_derived rfl rfl rfl
  all_goals exact .of_same (by simp [reckoning, actOnTuning, storeTuning])

theorem setParam_upholds : setParam.Upholds := by
  intro args s
  unfold setParam
  dsimp only
  split
  · exact .refl s
  · exact upholds_setGeometry _ _ _ s
  · exact upholds_setTuning _ _ _ s
  · unfold emptyCheckCapture
    split <;> exact .of_same rfl

theorem setSense_upholds : setSense.Upholds := by
  refine upholds_inStates fun args s => ?_
  split
  · exact upholds_takeInput _ _ _ s
  · exact .refl s

/-! ### The cycle -/

/-- BEGIN_STROKE opens the account, a new one with nothing swept (R41). -/
theorem upholds_strokeBegun (s : State) : Upholds s (strokeBegun s) := by
  have opened : (openedAccount s).state = .opened := by
    unfold openedAccount
    split
    · rfl
    · rfl
    · rfl
    · assumption
  have begun : VolumeLaw s → VolumeLaw { s with stroke := openedAccount s } := by
    intro h
    show (openedAccount s).state = .opened ∨ (openedAccount s).state = .closed →
      (openedAccount s).remainder < 100000 ∧ (openedAccount s).litres * 100000 + (openedAccount s).remainder =
        s.params.faceArea.getD 0 * (openedAccount s).advance
    unfold openedAccount
    split
    · simp [newAccount]
    · simp [newAccount]
    · next closed => exact fun _ => h (.inr closed)
    · exact h
  have account : Upholds s { s with stroke := openedAccount s } :=
    ⟨id, fun _ _ => opened, fun _ => begun, fun h => h.of_same rfl rfl rfl rfl rfl rfl rfl⟩
  have locked : Upholds s (extendAll (balanceTaken (overExcavation s) { s with stroke := openedAccount s })) :=
    account.trans (.of_same (by simp [reckoning]))
  exact locked.trans (upholds_changeCycle fun _ => by simpa using opened)

theorem beginStroke_upholds : beginStroke.Upholds := by
  refine upholds_inStates fun args s => ?_
  repeat' split
  · exact .refl s
  · exact .refl s
  · exact .refl s
  · simpa only [doneWith] using upholds_strokeBegun s

theorem endStroke_upholds : endStroke.Upholds := by
  intro args s
  unfold endStroke
  split
  · next due => exact upholds_endStrokeWith (due.imp id And.right)
  · exact .refl s

/-- BEGIN_BUILD spends a CLOSED account, whose volume the law then leaves (R44). -/
theorem upholds_buildReady (away : s.cycle ≠ .boring) : Upholds s (buildReady s) where
  pulses := fun h => h.of_same (by simp) (by simp [buildReady]) (by simp [buildReady])
  account := fun _ boring => absurd (by simpa using boring) away
  volume := fun _ h => by
    unfold VolumeLaw
    simp only [buildReady_frame, accountSpent]
    split
    · simp
    · exact h
  setpoints := fun h => by apply h.of_same <;> simp [buildReady]

theorem upholds_buildBegun (away : s.cycle ≠ .boring) : Upholds s (buildBegun s) := by
  rw [buildBegun_eq]
  exact ((upholds_buildReady away).trans (upholds_changeCycle (c := .building) nofun)).trans
    (.of_same (by simp [reckoning]))

theorem beginBuild_upholds : beginBuild.Upholds := by
  refine upholds_inStates_taken fun args s due => ?_
  repeat' split
  · exact .refl s
  · exact .refl s
  · exact .refl s
  · refine upholds_buildBegun fun boring => ?_
    simp [boring] at due

theorem enterIntervention_upholds : enterIntervention.Upholds := by
  refine upholds_inStates fun args s => ?_
  split
  · exact .refl s
  · exact (upholds_changeCycle (c := .intervention) nofun).trans (.of_same (by simp [reckoning, doneWith]))

theorem restState_ne_boring (s : State) : restState s ≠ .boring := by
  unfold restState
  split <;> nofun

theorem leaveIntervention_upholds : leaveIntervention.Upholds := by
  refine upholds_inStates fun args s => ?_
  split
  · exact .refl s
  · simpa only [doneWith] using upholds_changeCycle fun boring => absurd boring (restState_ne_boring s)

/-- CLEAR_TRIP closes an OPEN account and goes where the work stands, never to BORING (R51). -/
theorem upholds_tripCleared (s : State) : Upholds s (tripCleared s) := by
  have ended : Upholds s (if s.stroke.state = .opened then endStrokeWith .trip s else s) := by
    split
    · next opened => exact upholds_endStrokeWith (.inr opened)
    · exact .refl s
  have cleared (t : State) : Upholds t { t with tripCause := none, furtherCauses := false } := .of_same rfl
  exact (ended.trans (cleared _)).trans
    (upholds_changeCycle fun boring => absurd boring (workState_ne_boring s))

theorem clearTrip_upholds : clearTrip.Upholds := by
  refine upholds_inStates fun args s => ?_
  split
  · exact .refl s
  · simpa only [doneWith] using upholds_tripCleared s

/-! ### The tools -/

theorem setLoadPointer_upholds : setLoadPointer.Upholds := by
  refine upholds_inStates fun args s => ?_
  split
  · exact .of_same rfl
  · exact .refl s

theorem toolLoad_upholds : toolLoad.Upholds := by
  refine upholds_inStates fun args s => ?_
  split
  · exact .refl s
  · split
    · exact upholds_loadAtPointer _ s
    · dsimp only
      split
      · exact upholds_readOthers _ s
      · exact (upholds_readOthers _ s).trans (upholds_loadAtPointer _ _)

/-- A request on one record reads it, and is judged on what the read leaves. -/
theorem upholds_onRecord (i : Fin 64) {judge : ToolFields → State → Taken}
    (judged : ∀ x t, Upholds t (judge x t).state) (s : State) : Upholds s (onRecord i judge s).state :=
  (upholds_readTool i s).trans (judged _ _)

theorem toolRead_upholds : toolRead.Upholds := by
  intro args s
  unfold toolRead
  split
  · exact .refl s
  · exact upholds_onRecord _ (fun _ t => .refl t) s

theorem toolAmend_upholds : toolAmend.Upholds := by
  refine fun args s => upholds_inStates (fun _ s => ?_) args s
  split
  · exact .refl s
  · split
    · exact .refl s
    · refine upholds_onRecord _ (fun x t => ?_) s
      split
      · exact upholds_putTool _ _ t
      · exact .refl t

theorem changeTool_upholds (acts : ToolFields → Bool) (change : ToolFields → ToolFields) :
    (changeTool acts change).Upholds := by
  refine upholds_inStates fun args s => ?_
  split
  · exact .refl s
  · refine upholds_onRecord _ (fun x t => ?_) s
    split
    · exact upholds_putTool _ _ t
    · exact .refl t

theorem toolFit_upholds : toolFit.Upholds := by
  refine upholds_inStates fun args s => ?_
  dsimp only
  split
  · exact .refl s
  · split
    · exact .refl s
    · refine upholds_onRecord _ (fun x t => ?_) s
      repeat' split
      · exact upholds_readOthers _ t
      · exact (upholds_readOthers _ t).trans (upholds_putTool _ _ _)
      · exact .refl t

/-! ### Thrust, account and rings -/

/-- The quadrants stored, the group setpoints follow (R94). -/
theorem setThrust_upholds : setThrust.Upholds := by
  refine upholds_ifConfigured fun args s => ?_
  simp only [doneOrClamped]
  exact upholds_derived rfl rfl rfl

theorem readCylinder_upholds : readCylinder.Upholds := by
  intro args s
  unfold readCylinder
  split <;> exact .refl s

theorem readStroke_upholds : readStroke.Upholds := fun _ s => .refl s

theorem readBalance_upholds : readBalance.Upholds := fun _ s => .refl s

theorem ringPlan_upholds : ringPlan.Upholds := by
  refine upholds_inStates fun args s => ?_
  dsimp only
  repeat' split
  all_goals exact .of_same rfl

theorem ringCancel_upholds : ringCancel.Upholds := by
  refine upholds_inStates fun args s => ?_
  split <;> exact .of_same rfl

theorem ringRetire_upholds : ringRetire.Upholds := by
  refine upholds_inStates fun args s => ?_
  dsimp only
  repeat' split
  all_goals exact .of_same rfl

theorem readRing_upholds : readRing.Upholds := by
  intro args s
  unfold readRing
  dsimp only
  repeat' split
  all_goals exact .refl s

/-! ### Segments and erector -/

theorem segmentEnqueue_upholds : segmentEnqueue.Upholds := by
  refine upholds_ifConfigured fun args s => ?_
  dsimp only
  repeat' split
  all_goals exact .of_same (by simp [doneWith, refuse, reckoning])

theorem segmentWithdraw_upholds : segmentWithdraw.Upholds := by
  refine upholds_ifConfigured fun args s => ?_
  dsimp only
  repeat' split
  all_goals exact .of_same rfl

theorem readFeed_upholds : readFeed.Upholds := upholds_ifConfigured fun _ s => .refl s

theorem placeStart_upholds (start : Placement → Placement) : (placeStart start).Upholds := by
  refine upholds_inStates fun args s => ?_
  repeat' split
  all_goals exact .of_same (by simp [refuse, reckoning])

theorem erectorHold_upholds : erectorHold.Upholds := upholds_inStates fun _ _ => .of_same rfl

theorem erectorAbort_upholds : erectorAbort.Upholds := by
  refine upholds_inStates fun args s => ?_
  split <;> exact .of_same (by simp [refuse, reckoning])

theorem upholds_resumeClearing (r : Ring) (slot : Slot) (s : State) :
    Upholds s (resumeClearing r slot s).state := by
  unfold resumeClearing
  split <;> exact .of_same (by simp [refuse, clearInterrupted, reckoning])

theorem upholds_resumeHeld (st : Step) (r : Ring) (slot : Slot) (s : State) :
    Upholds s (resumeHeld st r slot s).state := by
  cases st with
  | awaitSegment => exact .refl s
  | picking => exact .refl s
  | clearing => exact upholds_resumeClearing r slot s
  | positioning =>
    simp only [resumeHeld]
    split
    · exact .of_same (by simp [clearInterrupted, reckoning])
    · exact upholds_resumeClearing r slot s
  | seating => exact .of_same (by simp [resumeHeld, clearInterrupted, reckoning])

theorem erectorResume_upholds : erectorResume.Upholds := by
  refine upholds_inStates fun args s => ?_
  repeat' split
  · exact .refl s
  · exact .of_same (by simp [clearInterrupted, reckoning])
  · exact .refl s
  · exact upholds_resumeHeld _ _ _ s
  · exact .refl s
  · exact .refl s

theorem erectorReturn_upholds : erectorReturn.Upholds := by
  refine upholds_inStates fun args s => ?_
  repeat' split
  all_goals exact .of_same (by simp [refuse, doneWith, placeReturned, returnSegment, reckoning])

/-! ### Grout and screw -/

theorem setRotation_upholds : setRotation.Upholds := by
  refine upholds_ifConfigured fun args s => ?_
  dsimp only
  repeat' split
  all_goals exact .of_same (by simp [refuse, doneWith, reckoning])

theorem setPortRequest_upholds : setPortRequest.Upholds := by
  refine upholds_ifConfigured fun args s => ?_
  dsimp only
  split
  all_goals exact .of_same (by simp [refuse, doneOrClamped, reckoning])

theorem movePort_upholds (acts : PortState → Bool) (st : PortState) : (movePort acts st).Upholds := by
  refine upholds_ifConfigured fun args s => ?_
  repeat' split
  all_goals exact .of_same (by simp [refuse, doneWith, reckoning])

theorem groutRate_upholds : groutRate.Upholds :=
  upholds_ifConfigured fun _ _ => .of_same (by simp [doneOrClamped, storeGroutRate, reckoning])

theorem readPort_upholds : readPort.Upholds := by
  refine upholds_ifConfigured fun args s => ?_
  split <;> exact .refl s

theorem readGrout_upholds : readGrout.Upholds := upholds_ifConfigured fun _ s => .refl s

theorem setScrewMode_upholds : setScrewMode.Upholds := by
  intro args s
  unfold setScrewMode setManual
  dsimp only
  repeat' split
  all_goals exact .of_same (by simp [refuse, doneWith, doneOrClamped, setAuto, reckoning])

theorem ownerOf_upholds (kind : Nat) : (ownerOf kind).Upholds := by
  unfold ownerOf
  split
  · exact noRequest_upholds
  · exact readStatus_upholds
  · exact readNotices_upholds
  · exact clearNotices_upholds
  · exact setNoticeEnable_upholds
  · exact readErrorCapture_upholds
  · exact controllerReset_upholds
  · exact setParam_upholds
  · exact getParam_upholds
  · exact setSense_upholds
  · exact readInputs_upholds
  · exact readChannel_upholds
  · exact beginStroke_upholds
  · exact endStroke_upholds
  · exact beginBuild_upholds
  · exact enterIntervention_upholds
  · exact leaveIntervention_upholds
  · exact clearTrip_upholds
  · exact setLoadPointer_upholds
  · exact toolLoad_upholds
  · exact toolRead_upholds
  · exact toolAmend_upholds
  · exact changeTool_upholds _ _
  · exact changeTool_upholds _ _
  · exact toolFit_upholds
  · exact changeTool_upholds _ _
  · exact setThrust_upholds
  · exact readCylinder_upholds
  · exact readStroke_upholds
  · exact readBalance_upholds
  · exact ringPlan_upholds
  · exact ringCancel_upholds
  · exact ringRetire_upholds
  · exact readRing_upholds
  · exact segmentEnqueue_upholds
  · exact segmentWithdraw_upholds
  · exact readFeed_upholds
  · exact placeStart_upholds _
  · exact placeStart_upholds _
  · exact erectorHold_upholds
  · exact erectorAbort_upholds
  · exact erectorResume_upholds
  · exact erectorReturn_upholds
  · exact setRotation_upholds
  · exact setPortRequest_upholds
  · exact movePort_upholds _ _
  · exact movePort_upholds _ _
  · exact movePort_upholds _ _
  · exact groutRate_upholds
  · exact readPort_upholds
  · exact readGrout_upholds
  · exact setScrewMode_upholds
  · exact fun _ s => .refl s

end owners

section run

variable {s t : State}

theorem upholds_takeByKind (kind : Byte) (r : Request) (s : State) : Upholds s (takeByKind kind r s) := by
  obtain ⟨t, ht, rfl | ⟨st, rfl⟩⟩ := takeByKind_cases kind r s <;> rw [ht]
  · exact (ownerOf_upholds kind.toNat r.args s).trans (.of_same rfl)
  · exact .of_same rfl

theorem upholds_transact (bytes : List Byte) (s : State) : Upholds s (transact bytes s) := by
  unfold transact
  dsimp only
  repeat' split
  · exact .of_same rfl
  · exact upholds_takeByKind _ _ s
  · exact .of_same rfl

/-- Every command keeps the four laws. -/
theorem exec_upholds (c : Instr) (s : State) : ∃ t, exec c s = .next t ∧ Upholds s t := by
  cases hr : requestOf c with
  | some kr => exact ⟨_, exec_request hr s, upholds_takeByKind _ _ s⟩
  | none =>
    cases c
    case powerOnReset lines received => exact ⟨_, rfl, upholds_powerOnReset lines s⟩
    case transactionCutShort bytes => exact ⟨_, rfl, upholds_transact bytes s⟩
    case linkCheck bytes => exact ⟨_, rfl, upholds_transact bytes s⟩
    case storageFault i => exact ⟨_, rfl, .of_same rfl⟩
    case sampleArrival c v => exact ⟨_, rfl, upholds_arrive c _ s⟩
    case sampleMessageDiscarded channel v check => exact ⟨_, rfl, upholds_receiveMessage channel v check s⟩
    case staleTimerExpiry c => exact ⟨_, rfl, (upholds_staleExpired c s).of_ite⟩
    case setpointMessage => exact ⟨_, rfl, upholds_beginMessage s⟩
    case lineChange i level =>
      refine ⟨_, rfl, ?_⟩
      split
      · exact .refl s
      · exact upholds_takeInput i _ _ s
    case retractTimerExpiry i => exact ⟨_, rfl, (upholds_retractExpired i s).of_ite⟩
    case stepTimerExpiry => exact ⟨_, rfl, (upholds_stepExpired s).of_ite⟩
    case blockTimerExpiry p => exact ⟨_, rfl, (upholds_blockExpired p s).of_ite⟩
    case setpointMessageEnd => exact ⟨_, rfl, .of_same rfl⟩
    all_goals cases hr

theorem step_upholds (run : step s = .next t) : Upholds s t := by
  obtain ⟨-, rfl⟩ | ⟨c, rest, -, taken⟩ := step_next run
  · exact upholds_idle s
  · obtain ⟨u, hu, kept⟩ := exec_upholds c { s with pending := rest }
    rw [taken] at hu
    cases hu
    have front : Upholds s { s with pending := rest } := .of_same rfl
    exact front.trans kept

end run

/-- Settles O50: the pulses, the account OPEN in BORING and the volume are among the laws each step keeps. -/
theorem quantitiesConserved : Obligations.QuantitiesConserved :=
  ⟨fun _ _ h run => (step_upholds run).pulses h, fun _ _ h run => (step_upholds run).account h,
    fun _ _ opened h run => (step_upholds run).volume opened h⟩

/-- Settles O54: the group setpoints are among the laws each step keeps. -/
theorem setpointsKept : Obligations.SetpointsKept := fun _ _ h run => (step_upholds run).setpoints h

end Sys2Proof.Machine

/-! ## SET_THRUST, and a sample of the belt scale (R92 to R94, R102, R103) -/

namespace Sys2Proof.Machine

section thrust

variable {s : State} {r : Request}

/-- The quadrant value a request gives. -/
def thrustGiven (r : Request) (g : Fin 4) : Nat := field r.args (2 * g.val) 2

/-- The quadrants as SET_THRUST stores them, at most at the ceiling (R94). -/
def thrustStored (r : Request) (s : State) : State :=
  { s with quadrants := Vector.ofFn fun g => min (thrustGiven r g) (ceiling s) }

theorem thrustStored_get (r : Request) (s : State) (g : Fin 4) :
    (thrustStored r s).quadrants[g] = min (thrustGiven r g) (ceiling s) := by
  simp [thrustStored]

theorem thrust_above_iff : ((List.finRange 4).any fun g => decide (ceiling s < thrustGiven r g)) = true ↔
    ¬ ∀ g, thrustGiven r g ≤ ceiling s := by
  simp

/-- DONE_CLAMPED says that a value was above the ceiling. -/
theorem setThrust_taken (h : s.cycle ≠ .unconfigured) : setThrust r.args s =
    ⟨deriveSetpoints (thrustStored r s), if ∀ g, thrustGiven r g ≤ ceiling s then .done else .doneClamped, []⟩ := by
  unfold setThrust
  rw [ifConfigured_of_ne h]
  show Taken.mk (deriveSetpoints (thrustStored r s))
    (if ((List.finRange 4).any fun g => decide (ceiling s < thrustGiven r g)) = true then .doneClamped else .done)
    [] = _
  simp only [thrust_above_iff, ite_not]

theorem exec_setThrust (count : r.args.length = 8) :
    exec (.setThrust r) s = .next (respond 0x40 r s.link.answer (setThrust r.args s)) :=
  exec_owner rfl (by rw [count]; rfl) rfl

theorem thrustDerived_group (r : Request) (s : State) (g : Fin 4) :
    (deriveSetpoints (thrustStored r s)).outputs[groupOutput g].value = groupSetpoint (thrustStored r s) g :=
  deriveSetpoints_group g _

/-- In BORING each group is at its quadrant's value, already within the ceiling. -/
theorem thrustDerived_boring (h : s.cycle = .boring) : GroupsAt (deriveSetpoints (thrustStored r s))
    (fun g => (deriveSetpoints (thrustStored r s)).quadrants[g]) := by
  intro g
  have within : (thrustStored r s).quadrants[g] ≤ ceiling s := by
    rw [thrustStored_get]
    exact min_le_right _ _
  rw [thrustDerived_group, groupSetpoint, show (thrustStored r s).cycle = .boring from h, deriveSetpoints_quadrants]
  exact min_eq_left within

theorem thrustDerived_held (h : s.cycle = .standstill ∨ s.cycle = .building) :
    GroupsAt (deriveSetpoints (thrustStored r s)) (fun _ => heldPressure s) := fun g => by
  rw [thrustDerived_group, groupSetpoint_held (s := thrustStored r s) h]
  rfl

theorem thrustDerived_zero (h : s.cycle = .intervention ∨ s.cycle = .tripped) :
    GroupsAt (deriveSetpoints (thrustStored r s)) (fun _ => 0) := fun g => by
  rw [thrustDerived_group]
  obtain e | e := h <;> rw [groupSetpoint, show (thrustStored r s).cycle = _ from e]

theorem thrustDerived_keeps (r : Request) (s : State) :
    OutputsKeptBut [1, 2, 3, 4] s (deriveSetpoints (thrustStored r s)) := fun o away =>
  deriveSetpoints_other (by simp only [List.mem_cons, List.not_mem_nil, or_false] at away; omega) _

theorem thrustDerived_leaves (r : Request) (s : State) : deriveSetpoints (thrustStored r s) =
    { s with quadrants := (deriveSetpoints (thrustStored r s)).quadrants,
             outputs := (deriveSetpoints (thrustStored r s)).outputs } := by
  rw [State.eq_iff]
  simp [thrustStored]

/-- R92 in the words of the obligation. -/
theorem ceiling_eq (s : State) : ceiling s =
    if s.gaugeWorn then (if s.params.pMax < s.params.pDerate then s.params.pMax else s.params.pDerate)
    else s.params.pMax := by
  unfold ceiling
  repeat' split
  all_goals omega

end thrust

section mass

variable {s : State} {v : Word16}

/-- The sample taken by the Field Port and the belt scale's count (R19, R102). -/
def massTaken (v : Nat) (s : State) : State := { takeSample 22 v s with mass := ⟨v, false⟩ }

/-- The mass of a sample joined to an account (R102). -/
def Stroke.weighing (d : Nat) (k : Stroke) : Stroke := { k with weighed := satAdd k.weighed d }

/-- What a sample leaves that joins the mass weighed (R102, R103). -/
def massWeighed (v : Nat) (s : State) : State :=
  balanceTaken (overExcavation s) { massTaken v s with stroke := s.stroke.weighing (countDiff v s.mass.prev) }

theorem exec_mass (v : Word16) (s : State) :
    exec (.sampleArrival 22 v) s = .next (massSample v.toNat (takeSample 22 v.toNat s)) := by
  have whole : min v.toNat 65535 = v.toNat := min_eq_left (Nat.le_pred_of_lt v.isLt)
  show Host.Outcome.next (deliver 22 (min v.toNat 65535) _ s (takeSample 22 v.toNat s)) = _
  rw [whole]
  rfl

theorem massSample_rebased (h : s.mass.rebase = true ∨ 32767 < countDiff v.toNat s.mass.prev) :
    massSample v.toNat (takeSample 22 v.toNat s) = raise .countRebased (massTaken v.toNat s) := by
  unfold massSample
  exact if_pos h

/-- A difference joins the account while that is OPEN or CLOSED. -/
theorem massSample_counted (steady : s.mass.rebase = false) (near : countDiff v.toNat s.mass.prev ≤ 32767) :
    massSample v.toNat (takeSample 22 v.toNat s) =
      if s.stroke.state = .opened ∨ s.stroke.state = .closed then massWeighed v.toNat s
      else massTaken v.toNat s := by
  have counted : ¬ ((takeSample 22 v.toNat s).mass.rebase = true ∨
      32767 < countDiff v.toNat (takeSample 22 v.toNat s).mass.prev) := by
    rw [show (takeSample 22 v.toNat s).mass = s.mass from rfl, steady]
    simpa using near
  have before : overExcavation (takeSample 22 v.toNat s) = overExcavation s := overExcavation_congr rfl rfl
  unfold massSample
  dsimp only
  rw [if_neg counted, before]
  rfl

theorem massTaken_leaves (v : Nat) (s : State) :
    massTaken v s = { s with channels := (massTaken v s).channels, mass := ⟨v, false⟩ } := rfl

theorem massWeighed_leaves (v : Nat) (s : State) : massWeighed v s = { s with
    channels := (massWeighed v s).channels, mass := (massWeighed v s).mass
    stroke := (massWeighed v s).stroke, outputs := (massWeighed v s).outputs } := by
  rw [State.eq_iff]
  simp [massWeighed, massTaken, takeSample]

theorem massWeighed_stroke (v : Nat) (s : State) :
    (massWeighed v s).stroke = s.stroke.weighing (countDiff v s.mass.prev) := by
  simp [massWeighed]

theorem massWeighed_mass (v : Nat) (s : State) : (massWeighed v s).mass = ⟨v, false⟩ := by
  simp [massWeighed, massTaken]

theorem massWeighed_keeps (v : Nat) (s : State) : OutputsKeptBut [22] s (massWeighed v s) := fun _ away =>
  balanceTaken_other (not_mem_screw away) _ _

theorem massWeighed_ranged (v : Nat) (s : State) :
    ScrewRanged (overExcavation (massWeighed v s) != overExcavation s) s (massWeighed v s) :=
  balanceTaken_ranged rfl rfl rfl rfl

end mass

/-- Settles O29, SET_THRUST by its stored quadrants and a belt scale sample by whether its difference is counted. -/
theorem thrustSetAndMassWeighed : Obligations.ThrustSetAndMassWeighed := by
  refine ⟨fun r s count configured => ?_, ceiling_eq, fun r s count unconfigured => ?_, fun v s _ => ?_⟩
  · refine ⟨deriveSetpoints (thrustStored r s), ?_, thrustDerived_leaves r s, fun g => ?_, thrustDerived_keeps r s,
      thrustDerived_boring, thrustDerived_held, thrustDerived_zero⟩
    · rw [exec_setThrust count, setThrust_taken configured]
      rfl
    · rw [deriveSetpoints_quadrants, thrustStored_get]
      rfl
  · rw [exec_setThrust count, setThrust, ifConfigured_unconfigured unconfigured]
  · rw [exec_mass]
    by_cases far : s.mass.rebase = true ∨ 32767 < countDiff v.toNat s.mass.prev
    · refine ⟨_, congrArg _ (massSample_rebased far), rfl, fun _ => rfl, fun steady near => ?_⟩
      obtain due | above := far
      · simp [steady] at due
      · exact absurd near (by unfold countDiff at above; omega)
    · obtain ⟨steady, near⟩ := not_or.mp far
      simp only [Bool.not_eq_true, not_lt] at steady near
      refine ⟨_, congrArg _ (massSample_counted steady near), ?_, fun again => absurd again far, fun _ _ => ?_⟩
      · split
        · exact massWeighed_mass _ s
        · rfl
      · split
        · exact ⟨massWeighed_leaves _ s, massWeighed_keeps _ s, massWeighed_ranged _ s, massWeighed_stroke _ s⟩
        · refine ⟨massTaken_leaves _ s, fun _ _ => rfl, ?_, rfl⟩
          rw [overExcavation_congr (s := s) (t := massTaken v.toNat s) rfl rfl, bne_self_eq_false]
          exact screwRanged_kept rfl

end Sys2Proof.Machine

/-! ## What an increment does to one record (R116, R117) -/

namespace Sys2Proof.Machine

section advanced

variable {tail width delta : Nat} {r : Ring}

/-- A judgment changes the state alone (R117). -/
theorem Ring.judged_eq (width : Nat) (r : Ring) : r.judged width = { r with
    state := if r.state = .grouting ∧ r.exposure = width ∧ r.target ≤ r.delivered * 100000 then .grouted
      else r.state } := by
  unfold Ring.judged
  split <;> rfl

/-- The advance taken, before the judgment (R116, steps 1 to 5). -/
def Ring.extended (tail width delta : Nat) (r : Ring) : Ring :=
  let exposure := exposureOf tail width (satAdd r.advance delta)
  { r with
    advance := satAdd r.advance delta, exposure := exposure
    target := r.target + r.voidArea.getD 0 * r.groutFactor.getD 0 * (exposure - r.exposure)
    state := if r.state = .closed ∧ 0 < exposure then .grouting else r.state }

theorem Ring.advanced_taking (taking : r.state = .closed ∨ r.state = .grouting) :
    r.advanced tail width delta = (r.extended tail width delta).judged width := if_pos taking

theorem Ring.advanced_other (other : ¬ (r.state = .closed ∨ r.state = .grouting)) :
    r.advanced tail width delta = r := if_neg other

/-- A record that takes advance is GROUTING after it where it was, or where it has any exposure. -/
theorem Ring.extended_state (taking : r.state = .closed ∨ r.state = .grouting) :
    (r.extended tail width delta).state =
      if r.state = .grouting ∨ 0 < (r.extended tail width delta).exposure then .grouting else .closed := by
  obtain closed | grouting := taking
  · simp [Ring.extended, closed]
  · simp [Ring.extended, grouting]

/-- What an increment leaves of a record that takes advance (R116, R117). -/
theorem Ring.advanced_leaves (taking : r.state = .closed ∨ r.state = .grouting) {y : Ring}
    (run : y = r.advanced tail width delta) :
    y = { r with advance := y.advance, exposure := y.exposure, target := y.target, state := y.state } ∧
    y.advance = min (r.advance + delta) 4294967295 ∧ y.exposure = min (y.advance - tail) width ∧
    y.target = r.target + r.voidArea.getD 0 * r.groutFactor.getD 0 * (y.exposure - r.exposure) := by
  rw [Ring.advanced_taking taking, Ring.judged_eq] at run
  subst run
  exact ⟨rfl, rfl, rfl, rfl⟩

theorem Ring.advanced_state (taking : r.state = .closed ∨ r.state = .grouting) {y : Ring}
    (run : y = r.advanced tail width delta) : y.state =
      if r.state = .grouting ∨ 0 < y.exposure then
        if y.exposure = width ∧ y.target ≤ y.delivered * 100000 then .grouted else .grouting
      else .closed := by
  rw [Ring.advanced_taking taking, Ring.judged_eq] at run
  subst run
  dsimp only
  rw [Ring.extended_state taking]
  by_cases grouts : r.state = .grouting ∨ 0 < (r.extended tail width delta).exposure
  · simp only [if_pos grouts, true_and]
  · simp [if_neg grouts]

end advanced

/-- Settles O31, by whether the record takes advance. -/
theorem ringsExposed : Obligations.RingsExposed := by
  intro tail width delta x y run
  refine ⟨fun rests => ?_, fun taking => ?_⟩
  · rw [run, Ring.advanced_other]
    obtain h | h | h := rests <;> simp [h]
  · obtain ⟨leaves, advance, exposure, target⟩ := Ring.advanced_leaves taking run
    have state := Ring.advanced_state taking run
    refine ⟨leaves, advance, exposure, target, fun closed hidden => ?_, fun grouts => ?_⟩
    · simpa [closed, hidden] using state
    · rwa [if_pos grouts] at state

end Sys2Proof.Machine

/-! ## The exposure law, record by record (R115, R116, R118) -/

namespace Sys2Proof.Machine

section exposed

variable {tail width delta : Nat} {r q : Ring}

/-- What the exposure law reads of a record. -/
def Ring.measures (r : Ring) : RingState × Nat × Nat × Option Nat × Option Nat × Nat :=
  (r.state, r.advance, r.exposure, r.voidArea, r.groutFactor, r.target)

theorem Ring.Exposed.of_measures (h : r.Exposed tail width) (same : q.measures = r.measures) :
    q.Exposed tail width := by
  simp only [Ring.measures, Prod.mk.injEq] at same
  obtain ⟨state, advance, exposure, voidArea, groutFactor, target⟩ := same
  unfold Ring.Exposed at h ⊢
  rwa [state, advance, exposure, voidArea, groutFactor, target]

theorem exposureOf_mono {a b : Nat} (more : a ≤ b) : exposureOf tail width a ≤ exposureOf tail width b := by
  unfold exposureOf
  omega

/-- R116: with the exposure the target grows by the captured area and factor over what was gained. -/
theorem Ring.Exposed.extended (h : r.Exposed tail width) (taking : r.state = .closed ∨ r.state = .grouting) :
    (r.extended tail width delta).Exposed tail width := by
  obtain ⟨bounded, -, target, measured, -⟩ := h
  have more : r.advance ≤ satAdd r.advance delta := le_min (Nat.le_add_right _ _) bounded
  have gained : r.exposure ≤ exposureOf tail width (satAdd r.advance delta) :=
    (measured taking).trans_le (exposureOf_mono more)
  have state := Ring.extended_state (tail := tail) (width := width) (delta := delta) taking
  refine ⟨min_le_right _ _, min_le_right _ _, ?_, fun _ => rfl, fun early => ?_⟩
  · simp only [Ring.extended]
    rw [target, ← Nat.mul_add, Nat.add_sub_cancel' gained]
  · rw [state] at early
    split at early <;> simp at early

/-- A GROUTED record is asked no more than the others. -/
theorem Ring.Exposed.judged (h : r.Exposed tail width) : (r.judged width).Exposed tail width := by
  rw [Ring.judged_eq]
  split
  · obtain ⟨bounded, within, target, -⟩ := h
    exact ⟨bounded, within, target, by simp, by simp⟩
  · exact h

theorem Ring.Exposed.advanced (h : r.Exposed tail width) : (r.advanced tail width delta).Exposed tail width := by
  by_cases taking : r.state = .closed ∨ r.state = .grouting
  · rw [Ring.advanced_taking taking]
    exact (h.extended taking).judged
  · rwa [Ring.advanced_other taking]

/-- A record whose advance, exposure and target are all 0, as a planned and a closed one have them (R108, R115). -/
theorem Ring.exposed_of_zero (advance : r.advance = 0) (exposure : r.exposure = 0) (target : r.target = 0) :
    r.Exposed tail width := by
  refine ⟨by omega, by omega, by rw [target, exposure, Nat.mul_zero], fun _ => ?_, fun _ => exposure⟩
  simp [exposure, advance, exposureOf]

/-- Before the closure the geometry may change (R118). -/
theorem Ring.Exposed.of_open (h : r.Exposed tail width) (opened : r.state.isClosed = false) (tail' width' : Nat) :
    r.Exposed tail' width' := by
  have early : r.state = .planned ∨ r.state = .building := by
    cases state : r.state <;> simp [state, RingState.isClosed] at opened ⊢
  obtain ⟨bounded, -, target, -, hidden⟩ := h
  refine ⟨bounded, by rw [hidden early]; exact Nat.zero_le _, target, fun taking => ?_, hidden⟩
  obtain e | e := early <;> simp [e] at taking

/-- R44: the record to be built had no exposure. -/
theorem Ring.Exposed.begun (h : r.Exposed tail width) (planned : r.state = .planned) :
    Ring.Exposed tail width { r with state := .building } := by
  obtain ⟨bounded, within, target, -, hidden⟩ := h
  exact ⟨bounded, within, target, by simp, fun _ => hidden (.inl planned)⟩

end exposed

/-- A member of a list with its first fitting element changed. -/
theorem mem_modifyFirst {α : Type} {p : α → Bool} {f : α → α} {l : List α} {a : α} (h : a ∈ modifyFirst p f l) :
    a ∈ l ∨ ∃ b ∈ l, p b = true ∧ a = f b := by
  induction l with
  | nil => cases h
  | cons b l ih =>
    unfold modifyFirst at h
    split at h
    · next fits =>
      obtain rfl | old := List.mem_cons.mp h
      · exact .inr ⟨b, by simp, fits, rfl⟩
      · exact .inl (by simp [old])
    · obtain rfl | rest := List.mem_cons.mp h
      · exact .inl (by simp)
      · obtain old | ⟨c, hc, fits, rfl⟩ := ih rest
        · exact .inl (by simp [old])
        · exact .inr ⟨c, by simp [hc], fits, rfl⟩

theorem buildFirstPlanned_eq (rings : List Ring) : buildFirstPlanned rings =
    modifyFirst (fun r => r.state == .planned) (fun r => { r with state := .building }) rings := by
  induction rings with
  | nil => rfl
  | cons r rings ih =>
    unfold buildFirstPlanned modifyFirst
    simp only [beq_iff_eq, ih]

end Sys2Proof.Machine

/-! ## The feed law: entries, identities and the reservation (R119, R120, R122) -/

namespace Sys2Proof.Machine

/-- The identities in the slots of one record. -/
def slotIds (slots : Vector SlotRecord 7) : List Nat := slots.toList.filterMap SlotRecord.segment

/-- The identities in the slot records of the register. -/
def ringIds (rings : List Ring) : List Nat := rings.flatMap fun r => slotIds r.slots

theorem heldIdentities_eq (s : State) : heldIdentities s = s.feed.map Segment.id ++ ringIds s.rings := rfl

/-- The erector is PICKING. -/
def picking (s : State) : Bool := s.place.erector == .working .picking

/-- The feed law with `n` entries reserved. -/
structure FeedHeld (n : Nat) (s : State) : Prop where
  room : s.feed.length ≤ 8
  distinct : (heldIdentities s).Nodup
  reserved : s.feed.countP (fun e => e.reserved) = n

theorem feedLaw_iff (s : State) : FeedLaw s ↔ FeedHeld (if picking s then 1 else 0) s := by
  simp only [FeedLaw, picking, beq_iff_eq]
  exact ⟨fun ⟨room, distinct, reserved⟩ => ⟨room, distinct, reserved⟩,
    fun ⟨room, distinct, reserved⟩ => ⟨room, distinct, reserved⟩⟩

theorem feedLaw_free {s : State} (free : picking s = false) : FeedLaw s ↔ FeedHeld 0 s := by
  rw [feedLaw_iff, free]
  rfl

theorem feedLaw_picking {s : State} (held : picking s = true) : FeedLaw s ↔ FeedHeld 1 s := by
  rw [feedLaw_iff, held]
  rfl

section held

variable {s t : State} {n m : Nat}

theorem FeedHeld.of_same (h : FeedHeld n s) (feed : t.feed = s.feed) (ids : ringIds t.rings = ringIds s.rings) :
    FeedHeld n t := by
  obtain ⟨room, distinct, reserved⟩ := h
  rw [heldIdentities_eq] at distinct
  exact ⟨by rwa [feed], by rwa [heldIdentities_eq, feed, ids], by rwa [feed]⟩

/-- The same entries with their reservations changed. -/
theorem FeedHeld.remarked (h : FeedHeld n s) (entries : t.feed.map Segment.id = s.feed.map Segment.id)
    (ids : ringIds t.rings = ringIds s.rings) (reserved : t.feed.countP (fun e => e.reserved) = m) :
    FeedHeld m t := by
  obtain ⟨room, distinct, -⟩ := h
  have length := congrArg List.length entries
  rw [List.length_map, List.length_map] at length
  rw [heldIdentities_eq] at distinct
  exact ⟨by rwa [length], by rwa [heldIdentities_eq, entries, ids], reserved⟩

theorem countP_reserved_eq_zero {l : List Segment} :
    l.countP (fun e => e.reserved) = 0 ↔ ∀ e ∈ l, e.reserved = false := by
  simp [List.countP_eq_zero]

/-- A cancelled reservation leaves every entry in its place (R122). -/
theorem FeedHeld.cancelled (h : FeedHeld n s) (feed : t.feed = s.feed.map fun e => { e with reserved := false })
    (ids : ringIds t.rings = ringIds s.rings) : FeedHeld 0 t := by
  refine h.remarked ?_ ids (countP_reserved_eq_zero.mpr fun e he => ?_)
  · rw [feed, List.map_map]
    rfl
  · rw [feed, List.mem_map] at he
    obtain ⟨_, -, rfl⟩ := he
    rfl

/-- One entry of a queue without reservation is reserved where one fits (R122). -/
theorem countP_reserve {p : Segment → Bool} {l : List Segment} (fits : l.any p = true)
    (free : ∀ e ∈ l, e.reserved = false) :
    (modifyFirst p (fun e => { e with reserved := true }) l).countP (fun e => e.reserved) = 1 := by
  induction l with
  | nil => cases fits
  | cons e l ih =>
    have rest (f : Segment) (hf : f ∈ l) : f.reserved = false := free f (by simp [hf])
    unfold modifyFirst
    split
    · simp [countP_reserved_eq_zero.mpr rest]
    · next other =>
      have later := ih (by simpa [other] using fits) rest
      simpa [free e (by simp)] using later

theorem FeedHeld.reserve {kind : SegmentKind} {type : RingType} (h : FeedHeld 0 s)
    (fits : s.feed.any (Segment.fits kind type) = true) : FeedHeld 1 (reserve kind type s) := by
  have free := countP_reserved_eq_zero.mp h.reserved
  refine h.remarked ?_ (by simp) ?_
  · exact map_modifyFirst (f := fun e : Segment => { e with reserved := true }) (fun _ => rfl) _ s.feed
  · exact countP_reserve fits free

/-- No identity twice, told by counting. -/
theorem heldIdentities_nodup_iff : (heldIdentities s).Nodup ↔
    ∀ id, (s.feed.map Segment.id).count id + (ringIds s.rings).count id ≤ 1 := by
  simp only [List.nodup_iff_count_le_one, heldIdentities_eq, List.count_append]

end held

/-! ### Slots that change -/

/-- One slot of a record written: its identity gives way to the new one. -/
theorem slotIds_set (slots : Vector SlotRecord 7) (slot : Slot) (sl : SlotRecord) :
    (slots[slot].segment.toList ++ slotIds (slots.set slot sl)).Perm (sl.segment.toList ++ slotIds slots) := by
  have part (l : List SlotRecord) (i : Nat) (hi : i < l.length) :
      (l[i].segment.toList ++ (l.set i sl).filterMap SlotRecord.segment).Perm
        (sl.segment.toList ++ l.filterMap SlotRecord.segment) := by
    induction l generalizing i with
    | nil => cases hi
    | cons a l ih =>
      cases i with
      | zero =>
        simp only [List.getElem_cons_zero, List.set_cons_zero, List.filterMap_cons]
        cases a.segment <;> cases sl.segment <;> simp
        exact .swap _ _ _
      | succ i =>
        have rest := ih i (by simpa using hi)
        simp only [List.getElem_cons_succ, List.set_cons_succ, List.filterMap_cons]
        cases a.segment with
        | none => exact rest
        | some id =>
          exact (List.perm_middle.trans (rest.cons id)).trans List.perm_middle.symm
  have written := part slots.toList slot.val (by simp)
  rwa [← Vector.toList_set, Vector.getElem_toList] at written

theorem count_slotIds_set (slots : Vector SlotRecord 7) (slot : Slot) (sl : SlotRecord) (id : Nat) :
    slots[slot].segment.toList.count id + (slotIds (slots.set slot sl)).count id =
      sl.segment.toList.count id + (slotIds slots).count id := by
  rw [← List.count_append, ← List.count_append, (slotIds_set slots slot sl).count_eq]

theorem count_ringIds (older newer : List Ring) (r : Ring) (id : Nat) :
    (ringIds (older ++ r :: newer)).count id =
      (ringIds older).count id + ((slotIds r.slots).count id + (ringIds newer).count id) := by
  simp [ringIds]

section slots

variable {s : State} {older newer : List Ring} {x : Ring} {slot : Slot}

/-- A segment loaded brings its identity at most (R114). -/
theorem count_loaded (builds : BuildsAt s older x newer) (slot : Slot) (id a : Nat) :
    (ringIds (loadSlot slot id s).rings).count a ≤ [id].count a + (ringIds s.rings).count a := by
  rw [loadSlot, builds.updated, builds.1, count_ringIds, count_ringIds]
  split
  · have written := count_slotIds_set x.slots slot ⟨.onErector, some id⟩ a
    simp only [Ring.setSlot, Option.toList_some] at written ⊢
    omega
  · omega

/-- A segment given back takes its identity away (R114, R138). -/
theorem count_returned (builds : BuildsAt s older x newer) {id : Nat}
    (held : x.slots[slot] = ⟨.onErector, some id⟩) (a : Nat) :
    [id].count a + (ringIds (returnSlot slot s).rings).count a = (ringIds s.rings).count a := by
  have written := count_slotIds_set x.slots slot ⟨.vacant, none⟩ a
  rw [returnSlot_rings builds (by rw [held]), builds.1, count_ringIds, count_ringIds]
  simp only [held, Option.toList_some, Option.toList_none, List.count_nil] at written ⊢
  omega

/-- A change of the slots' states alone keeps the identities, as does a change of nothing in the slots. -/
theorem ringIds_updateBuilding {f : Ring → Ring} (keeps : ∀ r, slotIds (f r).slots = slotIds r.slots) (s : State) :
    ringIds (updateBuilding f s).rings = ringIds s.rings := by
  have same := map_modifyFirst (g := fun r : Ring => slotIds r.slots) keeps (fun r => r.state == .building) s.rings
  rw [ringIds, ringIds, List.flatMap_def, List.flatMap_def, updateBuilding_rings, same]

end slots

end Sys2Proof.Machine

/-! ## The two laws carried from state to state: the shared operations -/

namespace Sys2Proof.Machine

/-- What the exposure law and the feed law speak of. -/
def stock (s : State) : (Option Nat × Option Nat) × List (RingState × Nat × Nat × Option Nat × Option Nat × Nat) ×
    List Nat × List Segment × Bool :=
  ((s.params.tailLength, s.params.ringWidth), s.rings.map Ring.measures, ringIds s.rings, s.feed, picking s)

/-- From `s` to `t` the exposure law and the feed law are kept. -/
structure Carries (s t : State) : Prop where
  exposure : ExposureLaw s → ExposureLaw t
  feed : FeedLaw s → FeedLaw t

section carries

variable {s t u : State}

theorem Carries.refl (s : State) : Carries s s := ⟨id, id⟩

theorem Carries.trans (h : Carries s t) (g : Carries t u) : Carries s u :=
  ⟨g.exposure ∘ h.exposure, g.feed ∘ h.feed⟩

theorem Carries.of_ite {c : Prop} [Decidable c] (h : Carries s t) : Carries s (if c then t else s) := by
  split
  · exact h
  · exact .refl s

theorem ExposureLaw.of_measures (h : ExposureLaw s) (tail : t.params.tailLength = s.params.tailLength)
    (width : t.params.ringWidth = s.params.ringWidth) (rings : t.rings.map Ring.measures = s.rings.map Ring.measures) :
    ExposureLaw t := by
  intro r hr
  have listed : r.measures ∈ s.rings.map Ring.measures := rings ▸ List.mem_map_of_mem hr
  obtain ⟨q, hq, same⟩ := List.mem_map.mp listed
  rw [tail, width]
  exact (h q hq).of_measures same.symm

theorem FeedLaw.of_same (h : FeedLaw s) (feed : t.feed = s.feed) (ids : ringIds t.rings = ringIds s.rings)
    (same : picking t = picking s) : FeedLaw t := by
  rw [feedLaw_iff] at h ⊢
  rw [same]
  exact h.of_same feed ids

/-- The stock decides. -/
theorem Carries.of_same (same : stock t = stock s) : Carries s t := by
  simp only [stock, Prod.mk.injEq] at same
  obtain ⟨⟨tail, width⟩, rings, ids, feed, pick⟩ := same
  exact ⟨fun h => h.of_measures tail width rings, fun h => h.of_same feed ids pick⟩

theorem carries_foldl {α : Type} {f : State → α → State} (h : ∀ t a, Carries t (f t a)) (l : List α) (s : State) :
    Carries s (l.foldl f s) := by
  induction l generalizing s with
  | nil => exact .refl s
  | cons a l ih => exact (h s a).trans (ih _)

/-- The fields the stock is made of, one by one. -/
theorem stock_of_fields (rings : t.rings = s.rings) (params : t.params = s.params) (feed : t.feed = s.feed)
    (place : t.place = s.place) : stock t = stock s := by
  rw [stock, stock, picking, picking, rings, params, feed, place]

/-! ### A placement that stops (R136, R139, R140) -/

/-- A placement under way stops: one before its grip with its reservation cancelled, one after it with none left. -/
theorem carries_haltPlacement {st : Step} (working : s.place.erector = .working st) :
    Carries s (haltPlacement st s) := by
  have stops : picking (haltPlacement st s) = false := by rw [picking, haltPlacement_place]; rfl
  refine ⟨fun h => h.of_measures (by simp) (by simp) (by simp), fun h => (feedLaw_free stops).mpr ?_⟩
  have feed := haltPlacement_feed st s
  rw [feedLaw_iff] at h
  split at feed
  · exact h.cancelled feed (by simp)
  · next late =>
    have free : picking s = false := by simpa [picking, working] using fun e => late (.inr e)
    rw [free] at h
    exact h.of_same feed (by simp)

theorem carries_placementOnTrip (s : State) : Carries s (placementOnTrip s) := by
  unfold placementOnTrip
  split
  · next working => exact carries_haltPlacement working
  · exact .of_same (stock_of_fields (by simp) (by simp) (by simp) (by simp))
  · exact .refl s

theorem carries_trip (cause : TripCause) (s : State) : Carries s (trip cause s) := by
  by_cases tripped : s.cycle = .tripped
  · rw [trip_further tripped]
    exact .of_same rfl
  · have told : Carries s (trippedBlocks cause s) := .of_same
      (stock_of_fields (by simp [trippedBlocks]) (by simp [trippedBlocks]) (by simp) (by simp))
    rw [trip_eq tripped]
    exact told.trans (carries_placementOnTrip _)

/-! ### Records -/

theorem carries_failRecord (i : Fin 64) (s : State) : Carries s (failRecord i s) := by
  have failed : Carries s (recordFailed i s) := by
    unfold recordFailed
    dsimp only
    split
    · refine Carries.trans (.of_same ?_) (carries_trip _ _)
      rfl
    · exact .of_same rfl
  rw [failRecord_eq]
  exact failed.trans (.of_same (stock_of_fields (by simp) (by simp) (by simp) (by simp)))

theorem carries_putTool (i : Fin 64) (x : ToolFields) (s : State) : Carries s (putTool i x s) :=
  .of_same (stock_of_fields (by simp) (by simp) (by simp) (by simp))

theorem carries_readTool (i : Fin 64) (s : State) : Carries s (readTool i s) := (carries_failRecord i s).of_ite

theorem carries_readOthers (i : Fin 64) (s : State) : Carries s (readOthers i s) :=
  readOthers_induct (P := Carries s) i (fun _ j h => h.trans (carries_readTool j _)) s (.refl s)

theorem carries_loadAtPointer (x : ToolFields) (s : State) : Carries s (loadAtPointer x s) :=
  (carries_putTool s.loadPointer x s).trans (.of_same rfl)

theorem carries_accrueRecord (n : Nat) (s : State) (i : Fin 64) : Carries s (accrueRecord n s i) := by
  unfold accrueRecord
  repeat' split
  · exact .refl s
  · exact carries_failRecord i s
  · exact carries_putTool i _ s
  · exact .refl s

/-! ### Rings (R115 to R117, R153) -/

theorem Ring.judged_slots (width : Nat) (r : Ring) : (r.judged width).slots = r.slots := by rw [Ring.judged_eq]

theorem Ring.advanced_slots (tail width delta : Nat) (r : Ring) : (r.advanced tail width delta).slots = r.slots := by
  by_cases taking : r.state = .closed ∨ r.state = .grouting
  · rw [Ring.advanced_taking taking, Ring.judged_slots]
    rfl
  · rw [Ring.advanced_other taking]

theorem ringIds_modifyFirst {f : Ring → Ring} (keeps : ∀ r, (f r).slots = r.slots) (p : Ring → Bool)
    (rings : List Ring) : ringIds (modifyFirst p f rings) = ringIds rings := by
  have same := map_modifyFirst (g := fun r : Ring => slotIds r.slots) (f := f) (fun r => by rw [keeps]) p rings
  rw [ringIds, ringIds, List.flatMap_def, List.flatMap_def, same]

/-- One record changed, exposed as its advance gives and with its slots as they were. -/
theorem carries_modifyFirst {f : Ring → Ring} {p : Ring → Bool} (slots : ∀ r, (f r).slots = r.slots)
    (exposed : ∀ r : Ring, p r = true → r.Exposed (s.params.tailLength.getD 0) (s.params.ringWidth.getD 0) →
      (f r).Exposed (s.params.tailLength.getD 0) (s.params.ringWidth.getD 0)) :
    Carries s { s with rings := modifyFirst p f s.rings } := by
  refine ⟨fun h r hr => ?_, fun h => h.of_same rfl (ringIds_modifyFirst slots p s.rings) rfl⟩
  obtain old | ⟨q, hq, fits, rfl⟩ := mem_modifyFirst hr
  · exact h r old
  · exact exposed q fits (h q hq)

theorem carries_raise (n : Notice) (s : State) : Carries s (raise n s) := .of_same rfl

theorem carries_raiseGrouted (before : List Ring) (s : State) : Carries s (raiseGrouted before s) :=
  .of_same (stock_of_fields (by simp) (by simp) (by simp) (by simp))

theorem carries_groutSettle (s : State) : Carries s (groutSettle s) :=
  .of_same (stock_of_fields (by simp) (by simp) (by simp) (by simp))

theorem carries_advanceRings (delta : Nat) (s : State) : Carries s (advanceRings delta s) := by
  unfold advanceRings
  refine Carries.trans ⟨fun h r hr => ?_, fun h => ?_⟩ ((carries_raiseGrouted s.rings _).trans (carries_groutSettle _))
  · obtain ⟨q, hq, rfl⟩ := List.mem_map.mp hr
    exact (h q hq).advanced
  · exact h.of_same rfl (by simp [ringIds, List.flatMap_map, Ring.advanced_slots]) rfl

theorem carries_creditVolume (volume : Nat) (s : State) : Carries s (creditVolume volume s) := by
  unfold creditVolume
  dsimp only
  split
  · refine Carries.trans (carries_modifyFirst (fun r => ?_) fun r _ exposed => ?_) (carries_raiseGrouted _ _)
    · rw [Ring.judged_slots]
    · exact Ring.Exposed.judged (r := { r with delivered := satAdd r.delivered volume }) exposed
  · exact .of_same rfl

/-- R115: at its closure a ring has neither advance nor exposure. -/
theorem carries_closeRing (s : State) : Carries s (closeRing s) := by
  unfold closeRing updateBuilding
  refine Carries.trans (carries_modifyFirst ?_ fun _ _ _ => ?_) (carries_raise _ _)
  · exact fun _ => rfl
  · exact Ring.exposed_of_zero rfl rfl rfl

theorem carries_buildFirstPlanned (s : State) : Carries s { s with rings := buildFirstPlanned s.rings } := by
  rw [buildFirstPlanned_eq]
  exact carries_modifyFirst (fun _ => rfl) fun r planned exposed => exposed.begun (by simpa using planned)

/-! ### The pick step (R122, R128) -/

/-- A match by an erector with no reservation ends PICKING with one, or in AWAIT_SEGMENT with none. -/
theorem carries_matchSegment (kind : SegmentKind) (type : RingType) (free : picking s = false) :
    Carries s (matchSegment kind type s) := by
  cases fits : s.feed.any (Segment.fits kind type) with
  | true =>
    rw [matchSegment_found fits]
    refine ⟨fun h => h.of_measures (by simp) (by simp) (by simp), fun h => (feedLaw_picking (by simp [picking])).mpr ?_⟩
    exact (((feedLaw_free free).mp h).reserve fits).of_same (by simp) (by simp)
  | false =>
    rw [matchSegment_none fits]
    exact .of_same (by simp [stock, starve, picking] at free ⊢; exact free)

theorem carries_pickStep (r : Ring) (slot : Slot) (free : picking s = false) : Carries s (pickStep r slot s) := by
  refine Carries.trans (.of_same ?_) (carries_matchSegment slot.kind r.type ?_)
  · rfl
  · exact free

end carries

end Sys2Proof.Machine

/-! ## The two laws carried through the events -/

namespace Sys2Proof.Machine

section events

variable {s t : State}

/-! ### The erector's steps -/

theorem picking_enterPositioning (r : Ring) (slot : Slot) (s : State) :
    picking (enterPositioning r slot s) = false := by
  rw [picking, (enterPositioning_leaves r slot s).2]
  rfl

theorem picking_enterSeating (r : Ring) (slot : Slot) (s : State) : picking (enterSeating r slot s) = false := by
  rw [picking, (enterSeating_leaves r slot s).2.2.1]
  rfl

theorem picking_placeIdle (s : State) : picking (placeIdle s) = false := by
  rw [picking, placeIdle_place]
  rfl

/-- CLEARING ends in POSITIONING, if it ends: no reservation is looked for (R130). -/
theorem picking_clearingLook (s : State) : picking (clearingLook s) = picking s := by
  unfold clearingLook
  split
  · next clearing =>
    have was : picking s = false := by rw [picking, clearing]; rfl
    repeat' split
    · rw [picking_enterPositioning, was]
    · rfl
    · rfl
  · rfl

theorem picking_enterClearing (r : Ring) (slot : Slot) (s : State) : picking (enterClearing r slot s) = false := by
  rw [enterClearing_eq, picking_clearingLook, picking, spanClearing_place]
  rfl

/-- A step after the grip is entered with the register and the queue as they were. -/
theorem carries_entered (rings : t.rings = s.rings) (params : t.params = s.params) (feed : t.feed = s.feed)
    (before : picking s = false) (after : picking t = false) : Carries s t := by
  refine .of_same ?_
  rw [stock, stock, before, after, rings, params, feed]

theorem carries_clearingLook (s : State) : Carries s (clearingLook s) := by
  refine .of_same ?_
  rw [stock, stock, picking_clearingLook]
  simp

/-! ### Samples -/

theorem carries_measure (mean : Nat) (s : State) : Carries s (measure mean s) := by
  unfold measure
  repeat' split
  · exact .refl s
  · exact Carries.trans (.of_same (stock_of_fields (by simp) (by simp) (by simp) (by simp))) (carries_advanceRings _ _)
  · exact .of_same rfl

theorem carries_cylindersRetaken (before s : State) : Carries s (cylindersRetaken before s) := by
  obtain ⟨rings, place, -, params⟩ := timersRetaken_frame before s
  have stopped : Carries s (timersRetaken before s) :=
    .of_same (stock_of_fields rings params (by simp only [timersRetaken]) place)
  rw [cylindersRetaken_eq]
  split
  · exact stopped.trans (carries_clearingLook _)
  · exact stopped

theorem carries_extensionSample (i : Fin 16) (value : Nat) (before s : State) :
    Carries s (extensionSample i value before s) := by
  have retaken := carries_cylindersRetaken before s
  unfold extensionSample
  dsimp only
  split
  · generalize cylindersRetaken before s = t at retaken ⊢
    have measured := retaken.trans ((carries_measure (referenceMean t) t).of_ite (c := referencesFresh t = true))
    generalize (if referencesFresh t = true then measure (referenceMean t) t else t) = u at measured ⊢
    have ended : Carries u (endStrokeWith .strokeLimit u) :=
      .of_same (stock_of_fields (by simp) (by simp) (by simp) (by simp))
    exact measured.trans ended.of_ite
  · exact retaken

theorem carries_angleSample (c : Nat) (s : State) : Carries s (angleSample c s) := by
  have breach (n : Nat) (t : State) : Carries t (judgeBreach n t) :=
    ((carries_raise .rotationBreach t).trans (carries_trip _ _)).of_ite
  have counted (n : Nat) (t : State) : Carries t (addHeadCounts n t) :=
    .of_same (stock_of_fields (by simp) (by simp) (by simp) (by simp))
  have accrued (n : Nat) (t : State) : Carries t (accrueAll n t) :=
    carries_foldl (fun t i => carries_accrueRecord n t i) _ t
  unfold angleSample
  dsimp only
  repeat' split
  · exact .of_same rfl
  · exact .of_same rfl
  · refine Carries.trans (.of_same ?_) (((breach _ _).trans (accrued _ _)).trans (counted _ _))
    rfl

theorem carries_pulseSample (c : Nat) (first : Bool) (s : State) : Carries s (pulseSample c first s) := by
  have ended (t : State) : Carries t (groutSettle (shotVolumeEnd t)) :=
    .of_same (stock_of_fields (by simp) (by simp) (by simp) (by simp))
  unfold pulseSample
  dsimp only
  repeat' split
  · refine Carries.trans (.of_same ?_) (carries_groutSettle _)
    rfl
  · exact .of_same rfl
  · exact .of_same rfl
  · refine Carries.trans (.of_same ?_) ((carries_creditVolume _ _).trans (ended _))
    exact stock_of_fields (by simp) (by simp) (by simp) (by simp)

theorem carries_arrive (c : Fin 30) (v : Nat) (s : State) : Carries s (arrive c v s) := by
  have taken : Carries s (takeSample c v s) := .of_same rfl
  have kept {u : State} (same : stock u = stock (takeSample c v s)) : Carries s u := taken.trans (.of_same same)
  unfold arrive deliver
  repeat' split
  · exact taken.trans (carries_extensionSample _ _ _ _)
  · exact taken.trans (carries_trip _ _).of_ite
  · exact taken.trans (carries_angleSample _ _)
  · exact kept (stock_of_fields (by simp) (by simp) (by simp) (by simp))
  · exact kept (stock_of_fields (by simp) (by simp) (by simp) (by simp))
  · exact taken.trans (carries_pulseSample _ _ _)
  · exact kept (stock_of_fields (by simp) (by simp) (by simp) (by simp))

theorem carries_receiveMessage (channel : Byte) (v : Word16) (check : Byte) (s : State) :
    Carries s (receiveMessage channel v check s) := by
  unfold receiveMessage
  repeat' split
  · exact carries_arrive _ _ s
  · exact .refl s
  · exact .refl s

/-! ### The erector's inputs (R129, R131, R132) -/

/-- Setting a slot record of the ring under construction changes no record's measures. -/
theorem measures_updateBuilding {f : Ring → Ring} (keeps : ∀ r, (f r).measures = r.measures) (s : State) :
    (updateBuilding f s).rings.map Ring.measures = s.rings.map Ring.measures :=
  map_modifyFirst keeps _ s.rings

theorem measures_loadSlot (slot : Slot) (id : Nat) (s : State) :
    (loadSlot slot id s).rings.map Ring.measures = s.rings.map Ring.measures :=
  measures_updateBuilding (fun r => by split <;> rfl) s

theorem measures_returnSlot (slot : Slot) (s : State) :
    (returnSlot slot s).rings.map Ring.measures = s.rings.map Ring.measures :=
  measures_updateBuilding (fun r => by split <;> rfl) s

/-- The reserved entry gone from the queue, each identity is held there no more often than before, and the entry's own
once less. -/
theorem count_gripped {feed : List Segment} {e : Segment} (reserved : feed.find? (·.reserved) = some e) (id : Nat) :
    ((feed.filter fun f => !f.reserved).map Segment.id).count id + [e.id].count id ≤
      (feed.map Segment.id).count id := by
  obtain ⟨held, before, after, rfl, free⟩ := List.find?_eq_some_iff_append.mp reserved
  have less (l : List Segment) : ((l.filter fun f => !f.reserved).map Segment.id).count id ≤
      (l.map Segment.id).count id := (List.filter_sublist.map _).count_le _
  have old := less before
  have new := less after
  simp only [List.filter_append, List.filter_cons, held, List.map_append, List.map_cons, List.count_append,
    Bool.not_true, Bool.false_eq_true, if_false, List.count_cons, List.count_nil]
  omega

/-- The segment leaves the queue for its slot, and with it the only reservation (R114, R129). -/
theorem FeedHeld.gripped {older newer : List Ring} {x : Ring} {e : Segment} (h : FeedHeld 1 s)
    (builds : BuildsAt s older x newer) (slot : Slot) (reserved : s.feed.find? (·.reserved) = some e) :
    FeedHeld 0 (segmentLoaded slot e.id s) := by
  obtain ⟨room, distinct, -⟩ := h
  have feed : (segmentLoaded slot e.id s).feed = s.feed.filter fun f => !f.reserved := by simp
  refine ⟨?_, heldIdentities_nodup_iff.mpr fun id => ?_, countP_reserved_eq_zero.mpr fun f hf => ?_⟩
  · rw [feed]
    exact (List.length_filter_le _ _).trans room
  · have once := heldIdentities_nodup_iff.mp distinct id
    have queue := count_gripped reserved id
    have loaded : (ringIds (segmentLoaded slot e.id s).rings).count id ≤
        [e.id].count id + (ringIds s.rings).count id :=
      count_loaded (s := { s with feed := s.feed.filter fun f => !f.reserved }) builds slot e.id id
    rw [feed]
    omega
  · rw [feed, List.mem_filter] at hf
    simpa using hf.2

/-- What follows the load keeps the laws where it enters no PICKING: the register and the queue are as loaded. -/
theorem carries_afterLoad {older newer : List Ring} {x : Ring} {e : Segment} {slot : Slot}
    (pick : picking s = true) (builds : BuildsAt s older x newer)
    (reserved : s.feed.find? (·.reserved) = some e) (rings : t.rings = (segmentLoaded slot e.id s).rings)
    (feed : t.feed = (segmentLoaded slot e.id s).feed) (params : t.params = s.params) (later : picking t = false) :
    Carries s t := by
  refine ⟨fun h => h.of_measures (by rw [params]) (by rw [params]) ?_, fun h => (feedLaw_free later).mpr ?_⟩
  · rw [rings]
    exact measures_loadSlot slot e.id _
  · exact (((feedLaw_picking pick).mp h).gripped builds slot reserved).of_same feed (by rw [rings])

theorem carries_segGripped (s : State) : Carries s (segGripped s) := by
  unfold segGripped
  split
  · next pick =>
    have pick : picking s = true := by rw [picking, pick]; rfl
    split
    · next x slot e found _ reserved =>
      obtain ⟨older, newer, builds⟩ := exists_buildsAt found
      dsimp only
      split
      · refine carries_afterLoad pick builds reserved (slot := slot) ?_ ?_ ?_ (picking_enterClearing _ _ _)
        · simp [segmentLoaded]
        · simp [segmentLoaded]
        · simp
      · refine carries_afterLoad (slot := slot) pick builds reserved ?_ ?_ ?_ ?_
        · simp [segmentLoaded]
        · simp [segmentLoaded, haltPlacement_feed]
        · simp
        · rw [picking, haltPlacement_place]
          rfl
    · exact .refl s
  · exact .refl s

theorem carries_atSlot (s : State) : Carries s (atSlot s) := by
  unfold atSlot
  split
  · next positioning =>
    have before : picking s = false := by rw [picking, positioning]; rfl
    split
    · exact carries_entered (by simp) (by simp) (by simp) before (picking_enterSeating _ _ s)
    · exact .refl s
  · exact .refl s

theorem carries_placeIdle (free : picking s = false) : Carries s (placeIdle s) :=
  carries_entered (by simp) (by simp) (by simp) free (picking_placeIdle s)

/-- R132: the placement ends, or goes on to the next slot's pick step. -/
theorem carries_afterSlot (free : picking s = false) : Carries s (afterSlot s) := by
  have idle := carries_placeIdle free
  have held := idle.trans (carries_raise .buildHeld _)
  unfold afterSlot
  repeat' split
  · exact idle
  · exact held
  · exact held
  · exact held
  · exact carries_pickStep _ _ free
  · exact held

theorem carries_closure (free : picking s = false) : Carries s (closure s) :=
  ((carries_placeIdle free).trans (carries_closeRing _)).trans
    (.of_same (stock_of_fields (by simp [closure]) (by simp) (by simp) (by simp [closure])))

/-- A slot record written keeps the identities where it keeps its own. -/
theorem slotIds_set_same {slots : Vector SlotRecord 7} {slot : Slot} {sl : SlotRecord}
    (same : sl.segment = slots[slot].segment) : slotIds (slots.set slot sl) = slotIds slots := by
  have told (l : List SlotRecord) : l.filterMap SlotRecord.segment = (l.map SlotRecord.segment).filterMap id := by
    rw [List.filterMap_map]
    rfl
  have written : (slots.set slot sl).toList.map SlotRecord.segment = slots.toList.map SlotRecord.segment := by
    have kept : slots[slot].segment = (slots.toList.map SlotRecord.segment)[slot.val]'(by simp) := by simp
    rw [Vector.toList_set, List.map_set, same, kept, List.set_getElem_self]
  rw [slotIds, told, written, ← told, slotIds]

/-- The slot PLACED keeps its identity (R114). -/
theorem carries_segmentPlaced (slot : Slot) (s : State) : Carries s (segmentPlaced slot s) := by
  have measures : (placeSlot slot s).rings.map Ring.measures = s.rings.map Ring.measures :=
    measures_updateBuilding (fun r => by split <;> rfl) s
  have ids : ringIds (placeSlot slot s).rings = ringIds s.rings := by
    refine ringIds_updateBuilding (fun r => ?_) s
    split
    · exact slotIds_set_same rfl
    · rfl
  refine .of_same ?_
  simp [stock, segmentPlaced, picking, measures, ids]

theorem carries_segBolted (s : State) : Carries s (segBolted s) := by
  unfold segBolted
  split
  · next seating =>
    split
    · next slot _ =>
      have free : picking (segmentPlaced slot s) = false := by simp [picking, seating]
      have placed := carries_segmentPlaced slot s
      dsimp only
      split
      · exact placed.trans (carries_closure free)
      · exact placed.trans (carries_afterSlot free)
    · exact .refl s
  · exact .refl s

theorem carries_takeInput (i : Fin 12) (input : Input) (event : Bool) (s : State) :
    Carries s (takeInput i input event s) := by
  have told : Carries s (sensed i input event s) := by
    rw [sensed_eq]
    exact .of_same rfl
  rw [takeInput_eq]
  refine told.trans ?_
  generalize sensed i input event s = t
  unfold useInput
  repeat' split
  · exact carries_trip _ t
  · exact .refl t
  · exact .refl t
  · exact .of_same (stock_of_fields (by simp) (by simp) (by simp) (by simp))
  · exact carries_segGripped t
  · exact .refl t
  · exact carries_atSlot t
  · exact .refl t
  · exact carries_segBolted t
  · exact .refl t
  · exact .refl t
  · exact .of_same (stock_of_fields (by simp) (by simp) (by simp) (by simp))
  · exact .refl t

/-! ### Timers -/

theorem carries_staleExpired (c : Fin 30) (s : State) : Carries s (staleExpired c s) :=
  .of_same (stock_of_fields (by simp) (by simp) (by simp) (by simp))

theorem carries_blockExpired (p : Fin 6) (s : State) : Carries s (blockExpired p s) :=
  .of_same (stock_of_fields (by simp) (by simp) (by simp) (by simp))

theorem carries_retractExpired (i : Fin 16) (s : State) : Carries s (retractExpired i s) :=
  .of_same (stock_of_fields (by simp) (by simp) (by simp) (by simp))

theorem carries_beginMessage (s : State) : Carries s (beginMessage s) :=
  .of_same (stock_of_fields (by simp) (by simp) (by simp) (by simp))

theorem carries_idle (s : State) : Carries s (idle s) := by
  obtain ⟨-, -, place, -, leaves⟩ := expired_leaves (idle_expired s)
  refine .of_same ?_
  rw [stock, picking, place, leaves]
  rfl

/-! ### The resets -/

theorem carries_tripIfStop (s : State) : Carries s (tripIfStop s) := (carries_trip _ s).of_ite

/-- R119, R140: a controller reset cancels every reservation and leaves no placement under way. -/
theorem carries_controllerReset (s : State) : Carries s (tripIfStop (resetWork s)) := by
  have rests : picking (tripIfStop (resetWork s)) = false := by
    have still := reportsCleared_underWay s
    rw [picking, (controllerReset_place s).1]
    cases erector : (reportsCleared s).place.erector <;> simp [erector, Erector.underWay] at still ⊢
  have rings : (tripIfStop (resetWork s)).rings = s.rings := by rw [controllerReset_kept]
  have params : (tripIfStop (resetWork s)).params = s.params := by rw [controllerReset_kept]
  refine ⟨fun h => h.of_measures (by rw [params]) (by rw [params]) (by rw [rings]), fun h => ?_⟩
  rw [feedLaw_iff] at h
  exact (feedLaw_free rests).mpr (h.cancelled (controllerReset_feed s) (by rw [rings]))

/-- The power-on state meets the two laws. -/
theorem carries_powerOnReset (lines : BitVec 12) (s : State) : Carries s (powerOnReset lines s) := by
  have poweredOn : Carries s (poweredOn lines s) := ⟨fun _ => reset_exposureLaw, fun _ => reset_feedLaw⟩
  exact poweredOn.trans (carries_tripIfStop _)

end events

end Sys2Proof.Machine

/-! ## The two laws carried by the owners and the step -/

namespace Sys2Proof.Machine

section feed

variable {s : State} {older newer : List Ring} {x : Ring} {slot : Slot} {id : Nat}

/-- R120's search looks through all held identities. -/
theorem identityHeld_iff : identityHeld id s = true ↔ id ∈ heldIdentities s := by
  simp only [identityHeld, heldIdentities_eq, ringIds, slotIds, Bool.or_eq_true, List.any_eq_true, beq_iff_eq,
    List.mem_append, List.mem_map, List.mem_flatMap, List.mem_filterMap]

/-- An entry of a new identity joins the queue unreserved (R120). -/
theorem FeedHeld.enqueued {n : Nat} (h : FeedHeld n s) (room : s.feed.length < 8) (fresh : id ∉ heldIdentities s)
    (kind : SegmentKind) (type : RingType) :
    FeedHeld n { s with feed := s.feed ++ [{ id := id, kind := kind, type := type }] } := by
  obtain ⟨-, distinct, reserved⟩ := h
  refine ⟨by simpa using room, ?_, by simpa using reserved⟩
  have moved : ((s.feed.map Segment.id ++ [id]) ++ ringIds s.rings).Perm (id :: heldIdentities s) := by
    rw [List.append_assoc]
    exact List.perm_middle
  rw [heldIdentities_eq, List.map_append]
  exact moved.nodup_iff.mpr (List.nodup_cons.mpr ⟨fresh, distinct⟩)

/-- The entry of an identity is unreserved and leaves the queue: no reservation is lost (R121). -/
theorem FeedHeld.withdrawn {n : Nat} {e : Segment} (h : FeedHeld n s)
    (found : s.feed.find? (fun e => e.id == id) = some e) (free : e.reserved = false) :
    FeedHeld n { s with feed := s.feed.filter fun e => e.id != id } := by
  obtain ⟨room, distinct, reserved⟩ := h
  have named : e.id = id := by simpa using List.find?_some found
  rw [heldIdentities_eq] at distinct
  refine ⟨(List.length_filter_le _ _).trans room,
    distinct.sublist ((List.filter_sublist.map _).append_right _), reserved ▸ ?_⟩
  rw [List.countP_filter]
  refine List.countP_congr fun f hf => ?_
  have other : f.reserved = true → f.id ≠ id := fun taken same => by
    have both : f = e := List.inj_on_of_nodup_map distinct.of_append_left hf (List.mem_of_find?_eq_some found)
      (same.trans named.symm)
    simp [both, free] at taken
  simpa using other

/-- A segment given back goes to the queue's front from its slot (R123, R138). -/
theorem FeedHeld.returned (h : FeedHeld 0 s) (room : s.feed.length < 8) (builds : BuildsAt s older x newer)
    (held : x.slots[slot] = ⟨.onErector, some id⟩) : FeedHeld 0 (segmentReturned x slot id s) := by
  obtain ⟨-, distinct, reserved⟩ := h
  have feed : (segmentReturned x slot id s).feed = ⟨id, slot.kind, x.type, false⟩ :: s.feed := by
    simp [segmentReturned]
  refine ⟨by rw [feed]; exact room, heldIdentities_nodup_iff.mpr fun a => ?_, by rw [feed]; simpa using reserved⟩
  have moved : [id].count a + (ringIds (segmentReturned x slot id s).rings).count a = (ringIds s.rings).count a :=
    count_returned (s := { s with feed := ⟨id, slot.kind, x.type, false⟩ :: s.feed }) builds held a
  have once := heldIdentities_nodup_iff.mp distinct a
  have front : (id :: s.feed.map Segment.id).count a = [id].count a + (s.feed.map Segment.id).count a :=
    List.count_append (l₁ := [id])
  rw [feed, List.map_cons, front]
  omega

end feed

/-- However its request turns out, the owner keeps the two laws. -/
def Handler.Carries (f : Handler) : Prop := ∀ (args : List Byte) (s : State), Machine.Carries s (f args s).state

section owners

variable {s t : State}

theorem carries_inStates {ok : Cycle → Bool} {f : Handler} (h : f.Carries) : (inStates ok f).Carries := by
  intro args s
  unfold inStates
  split
  · exact h args s
  · exact .refl s

theorem carries_ifConfigured {f : Handler} (h : f.Carries) : (ifConfigured f).Carries := by
  intro args s
  unfold ifConfigured
  split
  · exact .refl s
  · exact h args s

/-! ### Link, parameters and inputs -/

theorem noRequest_carries : noRequest.Carries := fun _ s => .refl s

theorem readStatus_carries : readStatus.Carries := fun _ s => .refl s

theorem readNotices_carries : readNotices.Carries := fun _ s => .refl s

theorem clearNotices_carries : clearNotices.Carries := fun _ _ => .of_same rfl

theorem setNoticeEnable_carries : setNoticeEnable.Carries := fun _ _ => .of_same rfl

theorem readErrorCapture_carries : readErrorCapture.Carries := fun _ _ => .of_same rfl

theorem controllerReset_carries : controllerReset.Carries := by
  intro args s
  simp only [controllerReset, doneWith]
  exact carries_controllerReset s

theorem readInputs_carries : readInputs.Carries := fun _ _ => .of_same rfl

theorem readChannel_carries : readChannel.Carries := by
  intro args s
  unfold readChannel
  split <;> exact .refl s

theorem getParam_carries : getParam.Carries := by
  intro args s
  unfold getParam
  dsimp only
  split <;> exact .refl s

theorem carries_evalConfigured (s : State) : Carries s (evalConfigured s) :=
  .of_same (stock_of_fields (by simp) (by simp) (by simp) (by simp))

/-- A stored geometry value is another than the tail length and the ring width, or it is one of the two. -/
theorem storeGeometry_exposing {g : Geometry} {bytes : List Byte} {p q : Params}
    (stored : storeGeometry g bytes p = some q) :
    (q.tailLength = p.tailLength ∧ q.ringWidth = p.ringWidth) ∨ g = .ringWidth ∨ g = .tailLength := by
  cases g
  case ringWidth => exact .inr (.inl rfl)
  case tailLength => exact .inr (.inr rfl)
  case refCylinders =>
    simp only [storeGeometry, Option.map_eq_some_iff] at stored
    obtain ⟨refs, -, rfl⟩ := stored
    exact .inl ⟨rfl, rfl⟩
  all_goals
    simp only [storeGeometry, Option.ite_none_right_eq_some, Option.some.injEq] at stored
    obtain ⟨-, rfl⟩ := stored
    exact .inl ⟨rfl, rfl⟩

/-- Tail length and ring width are stored while no ring is closed, when no record has exposure (R118). -/
theorem carries_setGeometry (id : Nat) (g : Geometry) (bytes : List Byte) (s : State) :
    Carries s (setGeometry id g bytes s).state := by
  unfold setGeometry
  split
  · exact .refl s
  · next geometry =>
    split
    · exact .refl s
    · next p stored =>
      have kept : Carries s { s with params := p } := by
        refine ⟨fun h => ?_, fun h => h.of_same rfl rfl rfl⟩
        obtain ⟨tail, width⟩ | exposing := storeGeometry_exposing stored
        · exact h.of_measures tail width rfl
        · intro r hr
          refine (h r hr).of_open ?_ _ _
          obtain rfl | rfl := exposing <;> simp_all [geometryOpen]
      dsimp only [doneWith]
      split
      · exact kept.trans (carries_evalConfigured _)
      · exact kept

theorem carries_setTuning (id : Nat) (k : Tuning) (v : Nat) (s : State) :
    Carries s (setTuning id k v s).state := by
  unfold setTuning
  simp only [doneOrClamped]
  generalize clampTo (tuningRange s.params k).1 (tuningRange s.params k).2 v = stored
  have kept : Carries s { s with params := storeTuning s.params k stored } := by cases k <;> exact .of_same rfl
  refine kept.trans ?_
  generalize { s with params := storeTuning s.params k stored } = t
  cases k
  case retractedAt => exact carries_cylindersRetaken s t
  all_goals exact .of_same (stock_of_fields (by simp [actOnTuning]) (by simp [actOnTuning]) (by simp [actOnTuning])
    (by simp [actOnTuning]))

theorem setParam_carries : setParam.Carries := by
  intro args s
  unfold setParam
  dsimp only
  split
  · exact .refl s
  · exact carries_setGeometry _ _ _ s
  · exact carries_setTuning _ _ _ s
  · unfold emptyCheckCapture
    split <;> exact .of_same rfl

theorem setSense_carries : setSense.Carries := by
  refine carries_inStates fun args s => ?_
  split
  · exact carries_takeInput _ _ _ s
  · exact .refl s

/-! ### The cycle -/

theorem carries_changeCycle (c : Cycle) (s : State) : Carries s (changeCycle c s) :=
  .of_same (stock_of_fields (by simp) (by simp) (by simp) (by simp))

theorem carries_endStrokeWith (cause : EndCause) (s : State) : Carries s (endStrokeWith cause s) :=
  .of_same (stock_of_fields (by simp) (by simp) (by simp) (by simp))

theorem beginStroke_carries : beginStroke.Carries := by
  refine carries_inStates fun args s => ?_
  repeat' split
  · exact .refl s
  · exact .refl s
  · exact .refl s
  · exact .of_same (stock_of_fields (by simp [doneWith, strokeBegun]) (by simp [doneWith, strokeBegun])
      (by simp [doneWith, strokeBegun]) (by simp [doneWith, strokeBegun]))

theorem endStroke_carries : endStroke.Carries := by
  intro args s
  unfold endStroke
  split
  · exact carries_endStrokeWith _ s
  · exact .refl s

/-- R44: the ring to be built becomes BUILDING, and the erector is IDLE. -/
theorem buildBegun_stock (s : State) : stock (buildBegun s) =
    stock { s with rings := buildFirstPlanned s.rings, place := { s.place with erector := .idle } } := by
  have idle : picking (buildBegun s) = false := by simp [picking, buildBegun_eq, buildReady]
  rw [stock, idle]
  simp [stock, buildBegun_eq, buildReady, picking]

theorem exposure_buildBegun (h : ExposureLaw s) : ExposureLaw (buildBegun s) :=
  (Carries.of_same (buildBegun_stock s)).exposure ((carries_buildFirstPlanned s).exposure h)

theorem carries_buildBegun (free : picking s = false) : Carries s (buildBegun s) := by
  refine (carries_buildFirstPlanned s).trans (.of_same ((buildBegun_stock s).trans ?_))
  simp only [stock, picking] at free ⊢
  rw [free]
  rfl

theorem enterIntervention_carries : enterIntervention.Carries := by
  refine carries_inStates fun args s => ?_
  split
  · exact .refl s
  · exact (carries_changeCycle .intervention s).trans (.of_same (by simp [stock, doneWith, picking]))

theorem leaveIntervention_carries : leaveIntervention.Carries := by
  refine carries_inStates fun args s => ?_
  split
  · exact .refl s
  · exact carries_changeCycle _ s

theorem clearTrip_carries : clearTrip.Carries := by
  refine carries_inStates fun args s => ?_
  split
  · exact .refl s
  · have cleared (t : State) : Carries t { t with tripCause := none, furtherCauses := false } := .of_same rfl
    have ended := (carries_endStrokeWith .trip s).of_ite (c := s.stroke.state = .opened)
    exact (ended.trans (cleared _)).trans (carries_changeCycle _ _)

/-! ### The tools -/

theorem setLoadPointer_carries : setLoadPointer.Carries := by
  refine carries_inStates fun args s => ?_
  split
  · exact .of_same rfl
  · exact .refl s

theorem toolLoad_carries : toolLoad.Carries := by
  refine carries_inStates fun args s => ?_
  split
  · exact .refl s
  · split
    · exact carries_loadAtPointer _ s
    · dsimp only
      split
      · exact carries_readOthers _ s
      · exact (carries_readOthers _ s).trans (carries_loadAtPointer _ _)

theorem carries_onRecord (i : Fin 64) {judge : ToolFields → State → Taken}
    (judged : ∀ x t, Carries t (judge x t).state) (s : State) : Carries s (onRecord i judge s).state :=
  (carries_readTool i s).trans (judged _ _)

theorem toolRead_carries : toolRead.Carries := by
  intro args s
  unfold toolRead
  split
  · exact .refl s
  · exact carries_onRecord _ (fun _ t => .refl t) s

theorem toolAmend_carries : toolAmend.Carries := by
  refine fun args s => carries_inStates (fun _ s => ?_) args s
  split
  · exact .refl s
  · split
    · exact .refl s
    · refine carries_onRecord _ (fun x t => ?_) s
      split
      · exact carries_putTool _ _ t
      · exact .refl t

theorem changeTool_carries (acts : ToolFields → Bool) (change : ToolFields → ToolFields) :
    (changeTool acts change).Carries := by
  refine carries_inStates fun args s => ?_
  split
  · exact .refl s
  · refine carries_onRecord _ (fun x t => ?_) s
    split
    · exact carries_putTool _ _ t
    · exact .refl t

theorem toolFit_carries : toolFit.Carries := by
  refine carries_inStates fun args s => ?_
  dsimp only
  split
  · exact .refl s
  · split
    · exact .refl s
    · refine carries_onRecord _ (fun x t => ?_) s
      repeat' split
      · exact carries_readOthers _ t
      · exact (carries_readOthers _ t).trans (carries_putTool _ _ _)
      · exact .refl t

/-! ### Thrust, account and rings -/

theorem setThrust_carries : setThrust.Carries :=
  carries_ifConfigured fun _ _ => .of_same (stock_of_fields (by simp [doneOrClamped]) (by simp [doneOrClamped])
    (by simp [doneOrClamped]) (by simp [doneOrClamped]))

theorem readCylinder_carries : readCylinder.Carries := by
  intro args s
  unfold readCylinder
  split <;> exact .refl s

theorem readStroke_carries : readStroke.Carries := fun _ s => .refl s

theorem readBalance_carries : readBalance.Carries := fun _ s => .refl s

/-- A planned ring has nothing advanced and nothing in its slots (R108). -/
theorem ringPlan_carries : ringPlan.Carries := by
  refine carries_inStates fun args s => ?_
  dsimp only
  repeat' split
  · exact .refl s
  · exact .refl s
  · exact .refl s
  · refine ⟨fun h r hr => ?_, fun h => h.of_same rfl ?_ rfl⟩
    · obtain old | new := List.mem_append.mp hr
      · exact h r old
      · rw [List.mem_singleton.mp new]
        exact Ring.exposed_of_zero rfl rfl rfl
    · simp [doneWith, ringIds, slotIds]
  · exact .refl s

/-- Fewer records hold no more identities (R109, R110). -/
theorem carries_fewerRings {rings : List Ring} (fewer : rings.Sublist s.rings) :
    Carries s { s with rings := rings } := by
  refine ⟨fun h r hr => h r (fewer.subset hr), fun h => ?_⟩
  obtain ⟨room, distinct, reserved⟩ := h
  refine ⟨room, ?_, reserved⟩
  rw [heldIdentities_eq] at distinct ⊢
  refine distinct.sublist (List.Sublist.append_left ?_ _)
  simpa only [ringIds, List.flatMap_def] using (fewer.map _).flatten

theorem ringCancel_carries : ringCancel.Carries := by
  refine carries_inStates fun args s => ?_
  split
  · exact carries_fewerRings (List.dropLast_sublist _)
  · exact .refl s

theorem ringRetire_carries : ringRetire.Carries := by
  refine carries_inStates fun args s => ?_
  dsimp only
  repeat' split
  · exact .refl s
  · exact .refl s
  · exact .refl s
  · exact .refl s
  · exact carries_fewerRings (List.tail_sublist _)

theorem readRing_carries : readRing.Carries := by
  intro args s
  unfold readRing
  dsimp only
  repeat' split
  all_goals exact .refl s

/-! ### Segments and erector -/

theorem carries_retryMatch (s : State) : Carries s (retryMatch s) := by
  unfold retryMatch
  repeat' split
  · next awaits _ _ _ _ _ _ => exact carries_matchSegment _ _ (by simp [picking, awaits])
  · exact .refl s
  · exact .refl s

theorem segmentEnqueue_carries : segmentEnqueue.Carries := by
  refine carries_ifConfigured fun args s => ?_
  dsimp only
  repeat' split
  · exact .refl s
  · exact .refl s
  · exact .refl s
  · next kind type _ _ _ room fresh =>
    rw [identityHeld_iff] at fresh
    have joined : Carries s { s with feed := s.feed ++ [{ id := field args 0 3, kind := kind, type := type }] } := by
      refine ⟨fun h => h, fun h => ?_⟩
      rw [feedLaw_iff] at h ⊢
      exact h.enqueued (not_le.mp room) fresh kind type
    exact joined.trans (carries_retryMatch _)
  · exact .refl s

theorem segmentWithdraw_carries : segmentWithdraw.Carries := by
  refine carries_ifConfigured fun args s => ?_
  dsimp only
  repeat' split
  · exact .refl s
  · exact .refl s
  · exact .refl s
  · next e found free =>
    refine ⟨fun h => h, fun h => ?_⟩
    rw [feedLaw_iff] at h ⊢
    exact h.withdrawn found (by simpa using free)

theorem readFeed_carries : readFeed.Carries := carries_ifConfigured fun _ s => .refl s

theorem placeStart_carries {start : Placement → Placement} (kept : ∀ p, (start p).erector = p.erector) :
    (placeStart start).Carries := by
  refine carries_inStates fun args s => ?_
  split
  · exact .refl s
  · next idle =>
    have idle : s.place.erector = .idle := not_not.mp idle
    have same : picking { s with place := start s.place } = picking s := by simp only [picking, kept]
    have started : Carries s { s with place := start s.place } := by
      refine .of_same ?_
      rw [stock, same]
      rfl
    have free : picking { s with place := start s.place } = false := by rw [same, picking, idle]; rfl
    repeat' split
    · exact .refl s
    · exact .refl s
    · exact started.trans (carries_pickStep _ _ free)
    · exact .refl s

theorem erectorHold_carries : erectorHold.Carries := by
  refine carries_inStates fun args s => .of_same rfl

theorem erectorAbort_carries : erectorAbort.Carries := by
  refine carries_inStates fun args s => ?_
  split
  · next working => exact carries_haltPlacement working
  · exact .refl s
  · exact .refl s

section halted

variable (halted : s.place.erector = .halted)

include halted

theorem picking_of_halted : picking s = false := by rw [picking, halted]; rfl

theorem carries_resumeClearing (r : Ring) (slot : Slot) : Carries s (resumeClearing r slot s).state := by
  unfold resumeClearing
  split
  · exact carries_entered (by simp [clearInterrupted]) (by simp [clearInterrupted]) (by simp [clearInterrupted])
      (picking_of_halted halted) (picking_enterClearing _ _ _)
  · exact .refl s

theorem carries_resumeHeld (st : Step) (r : Ring) (slot : Slot) : Carries s (resumeHeld st r slot s).state := by
  cases st with
  | awaitSegment => exact .refl s
  | picking => exact .refl s
  | clearing => exact carries_resumeClearing halted r slot
  | positioning =>
    simp only [resumeHeld]
    split
    · exact carries_entered (by simp [clearInterrupted]) (by simp [clearInterrupted]) (by simp [clearInterrupted])
        (picking_of_halted halted) (picking_enterPositioning _ _ _)
    · exact carries_resumeClearing halted r slot
  | seating =>
    exact carries_entered (by simp [resumeHeld, clearInterrupted]) (by simp [resumeHeld, clearInterrupted])
      (by simp [resumeHeld, clearInterrupted]) (picking_of_halted halted) (picking_enterSeating _ _ _)

theorem carries_placeReturned : Carries s (placeReturned s) :=
  carries_entered (by simp [placeReturned]) (by simp [placeReturned]) (by simp [placeReturned])
    (picking_of_halted halted) (by simp [picking, placeReturned])

/-- R138: the segment on the erector goes back from its slot to the queue. -/
theorem carries_segmentGivenBack {older newer : List Ring} {x : Ring} {slot : Slot} {id : Nat}
    (builds : BuildsAt s older x newer) (held : x.slots[slot] = ⟨.onErector, some id⟩) (room : s.feed.length < 8) :
    Carries s (placeReturned (returnSegment x slot id s)) := by
  have leaves := segmentReturned_leaves x slot id s
  have rings : (placeReturned (returnSegment x slot id s)).rings = (segmentReturned x slot id s).rings := by
    rw [leaves]
  have params : (placeReturned (returnSegment x slot id s)).params = s.params := by rw [leaves]
  have feed : (placeReturned (returnSegment x slot id s)).feed = (segmentReturned x slot id s).feed := by
    simp [placeReturned, returnSegment_eq]
  have free : picking (placeReturned (returnSegment x slot id s)) = false := by simp [picking, placeReturned]
  refine ⟨fun h => h.of_measures (by rw [params]) (by rw [params]) ?_, fun h => (feedLaw_free free).mpr ?_⟩
  · rw [rings]
    exact measures_returnSlot slot _
  · have before := (feedLaw_free (picking_of_halted halted)).mp h
    exact (before.returned room builds held).of_same feed (by rw [rings])

end halted

theorem erectorResume_carries : erectorResume.Carries := by
  refine carries_inStates fun args s => ?_
  split
  · exact .refl s
  · next halted =>
    have halted : s.place.erector = .halted := not_not.mp halted
    have cleared : Carries s (clearInterrupted s) := .of_same rfl
    repeat' split
    · exact cleared.trans (carries_pickStep _ _ (picking_of_halted halted))
    · exact .refl s
    · exact carries_resumeHeld halted _ _ _
    · exact .refl s
    · exact .refl s

theorem erectorReturn_carries : erectorReturn.Carries := by
  refine carries_inStates fun args s => ?_
  split
  · exact .refl s
  · next halted =>
    have halted : s.place.erector = .halted := not_not.mp halted
    repeat' split
    · exact .refl s
    · next found _ _ held room =>
      obtain ⟨older, newer, builds⟩ := exists_buildsAt found
      exact carries_segmentGivenBack halted builds held (not_le.mp room)
    · exact carries_placeReturned halted
    · exact carries_placeReturned halted

/-! ### Grout and screw -/

theorem setRotation_carries : setRotation.Carries := by
  refine carries_ifConfigured fun args s => ?_
  dsimp only
  repeat' split
  all_goals exact .of_same (by simp [refuse, doneWith, stock, picking])

theorem setPortRequest_carries : setPortRequest.Carries := by
  refine carries_ifConfigured fun args s => ?_
  dsimp only
  split
  all_goals exact .of_same (by simp [refuse, doneOrClamped, stock, picking])

theorem movePort_carries (acts : PortState → Bool) (st : PortState) : (movePort acts st).Carries := by
  refine carries_ifConfigured fun args s => ?_
  repeat' split
  all_goals exact .of_same (by simp [refuse, doneWith, stock, picking])

theorem groutRate_carries : groutRate.Carries :=
  carries_ifConfigured fun _ _ => .of_same (by simp [doneOrClamped, storeGroutRate, stock, picking])

theorem readPort_carries : readPort.Carries := by
  refine carries_ifConfigured fun args s => ?_
  split <;> exact .refl s

theorem readGrout_carries : readGrout.Carries := carries_ifConfigured fun _ s => .refl s

theorem setScrewMode_carries : setScrewMode.Carries := by
  intro args s
  unfold setScrewMode setManual
  dsimp only
  repeat' split
  all_goals exact .of_same (by simp [refuse, doneWith, doneOrClamped, setAuto, stock, picking])

/-- Every owner but that of BEGIN_BUILD, which sets the erector IDLE whatever it was doing (R44). -/
theorem ownerOf_carries {kind : Nat} (other : kind ≠ 0x22) : (ownerOf kind).Carries := by
  unfold ownerOf
  split
  · exact noRequest_carries
  · exact readStatus_carries
  · exact readNotices_carries
  · exact clearNotices_carries
  · exact setNoticeEnable_carries
  · exact readErrorCapture_carries
  · exact controllerReset_carries
  · exact setParam_carries
  · exact getParam_carries
  · exact setSense_carries
  · exact readInputs_carries
  · exact readChannel_carries
  · exact beginStroke_carries
  · exact endStroke_carries
  · exact absurd rfl other
  · exact enterIntervention_carries
  · exact leaveIntervention_carries
  · exact clearTrip_carries
  · exact setLoadPointer_carries
  · exact toolLoad_carries
  · exact toolRead_carries
  · exact toolAmend_carries
  · exact changeTool_carries _ _
  · exact changeTool_carries _ _
  · exact toolFit_carries
  · exact changeTool_carries _ _
  · exact setThrust_carries
  · exact readCylinder_carries
  · exact readStroke_carries
  · exact readBalance_carries
  · exact ringPlan_carries
  · exact ringCancel_carries
  · exact ringRetire_carries
  · exact readRing_carries
  · exact segmentEnqueue_carries
  · exact segmentWithdraw_carries
  · exact readFeed_carries
  · exact placeStart_carries fun _ => rfl
  · exact placeStart_carries fun _ => rfl
  · exact erectorHold_carries
  · exact erectorAbort_carries
  · exact erectorResume_carries
  · exact erectorReturn_carries
  · exact setRotation_carries
  · exact setPortRequest_carries
  · exact movePort_carries _ _
  · exact movePort_carries _ _
  · exact movePort_carries _ _
  · exact groutRate_carries
  · exact readPort_carries
  · exact readGrout_carries
  · exact setScrewMode_carries
  · exact fun _ s => .refl s

end owners

/-! ### The step -/

/-- The two laws kept, the feed law where no placement is under way outside BUILDING. -/
structure CarriesHeld (s t : State) : Prop where
  exposure : ExposureLaw s → ExposureLaw t
  feed : HoldLaw s → FeedLaw s → FeedLaw t

section run

variable {s t : State}

theorem Carries.held (h : Carries s t) : CarriesHeld s t := ⟨h.exposure, fun _ => h.feed⟩

theorem CarriesHeld.of_same (same : stock t = stock s) : CarriesHeld s t := (Carries.of_same same).held

/-- BEGIN_BUILD is taken in STANDSTILL, with no placement under way (R44). -/
theorem beginBuild_carries (args : List Byte) (s : State) : CarriesHeld s (beginBuild args s).state := by
  by_cases due : s.cycle = .standstill
  · rw [beginBuild, inStates_at due]
    repeat' split
    · exact (Carries.refl s).held
    · exact (Carries.refl s).held
    · exact (Carries.refl s).held
    · refine ⟨exposure_buildBegun, fun hold => (carries_buildBegun ?_).feed⟩
      have still := (hold.2 (by simp [due])).2
      cases erector : s.place.erector <;> simp [erector, picking, Erector.underWay] at still ⊢
  · rw [beginBuild, inStates_away due]
    exact (Carries.refl s).held

theorem ownerOf_carriesHeld (kind : Nat) (args : List Byte) (s : State) :
    CarriesHeld s (ownerOf kind args s).state := by
  by_cases begins : kind = 0x22
  · subst begins
    exact beginBuild_carries args s
  · exact (ownerOf_carries begins args s).held

theorem CarriesHeld.trans_carries {u : State} (h : CarriesHeld s t) (g : Carries t u) : CarriesHeld s u :=
  ⟨g.exposure ∘ h.exposure, fun hold => g.feed ∘ h.feed hold⟩

theorem carries_takeByKind (kind : Byte) (r : Request) (s : State) : CarriesHeld s (takeByKind kind r s) := by
  obtain ⟨t, ht, rfl | ⟨st, rfl⟩⟩ := takeByKind_cases kind r s <;> rw [ht]
  · exact (ownerOf_carriesHeld kind.toNat r.args s).trans_carries (.of_same rfl)
  · exact .of_same rfl

theorem carries_transact (bytes : List Byte) (s : State) : CarriesHeld s (transact bytes s) := by
  unfold transact
  dsimp only
  repeat' split
  · exact .of_same rfl
  · exact carries_takeByKind _ _ s
  · exact .of_same rfl

theorem carries_stepExpired (s : State) : Carries s (stepExpired s) := .of_same rfl

/-- Every command keeps the two laws. -/
theorem exec_carries (c : Instr) (s : State) : ∃ t, exec c s = .next t ∧ CarriesHeld s t := by
  cases hr : requestOf c with
  | some kr => exact ⟨_, exec_request hr s, carries_takeByKind _ _ s⟩
  | none =>
    cases c
    case powerOnReset lines received => exact ⟨_, rfl, (carries_powerOnReset lines s).held⟩
    case transactionCutShort bytes => exact ⟨_, rfl, carries_transact bytes s⟩
    case linkCheck bytes => exact ⟨_, rfl, carries_transact bytes s⟩
    case storageFault i => exact ⟨_, rfl, .of_same rfl⟩
    case sampleArrival c v => exact ⟨_, rfl, (carries_arrive c _ s).held⟩
    case sampleMessageDiscarded channel v check => exact ⟨_, rfl, (carries_receiveMessage channel v check s).held⟩
    case staleTimerExpiry c => exact ⟨_, rfl, (carries_staleExpired c s).of_ite.held⟩
    case setpointMessage => exact ⟨_, rfl, (carries_beginMessage s).held⟩
    case lineChange i level =>
      refine ⟨_, rfl, ?_⟩
      split
      · exact (Carries.refl s).held
      · exact (carries_takeInput i _ _ s).held
    case retractTimerExpiry i => exact ⟨_, rfl, (carries_retractExpired i s).of_ite.held⟩
    case stepTimerExpiry => exact ⟨_, rfl, (carries_stepExpired s).of_ite.held⟩
    case blockTimerExpiry p => exact ⟨_, rfl, (carries_blockExpired p s).of_ite.held⟩
    case setpointMessageEnd => exact ⟨_, rfl, .of_same rfl⟩
    all_goals cases hr

theorem step_carries (run : step s = .next t) : CarriesHeld s t := by
  obtain ⟨-, rfl⟩ | ⟨c, rest, -, taken⟩ := step_next run
  · exact (carries_idle s).held
  · obtain ⟨u, hu, kept⟩ := exec_carries c { s with pending := rest }
    rw [taken] at hu
    cases hu
    exact ⟨kept.exposure, kept.feed⟩

end run

/-- Settles O51: the exposure law is one of the two that each step keeps. -/
theorem exposureKept : Obligations.ExposureKept := fun _ _ h run => (step_carries run).exposure h

/-- Settles O59: the feed law is the other. -/
theorem identitiesDistinct : Obligations.IdentitiesDistinct := fun _ _ hold h run => (step_carries run).feed hold h

end Sys2Proof.Machine

/-! ## Fields of request arguments (R16) -/

namespace Sys2Proof.Machine

/-- The number read from the bytes of a number is that number, as far as the bytes hold it. -/
theorem beNat_beBytes (n v : Nat) : beNat (beBytes n v) = v % 256 ^ n := by
  induction n generalizing v with
  | zero => simp [beBytes, beNat, Nat.mod_one]
  | succ n ih =>
    have split : v % 256 ^ (n + 1) = v % 256 + 256 * (v / 256 % 256 ^ n) := by rw [Nat.pow_succ', Nat.mod_mul]
    have byte : (BitVec.ofNat 8 v).toNat = v % 256 := BitVec.toNat_ofNat v 8
    rw [beBytes, beNat_append, ih, byte, split]
    omega

theorem length_beBytes (n v : Nat) : (beBytes n v).length = n := by
  induction n generalizing v with
  | zero => rfl
  | succ n ih => rw [beBytes, List.length_append, ih, List.length_singleton]

/-- A number written among the arguments is read back where it was written. -/
theorem field_beBytes {before after : List Byte} {off n v : Nat} (place : before.length = off) (small : v < 256 ^ n) :
    field (before ++ (beBytes n v ++ after)) off n = v := by
  rw [field, List.drop_left' place, List.take_left' (length_beBytes n v), beNat_beBytes, Nat.mod_eq_of_lt small]

/-- A field of one byte is that byte. -/
theorem field_byte {args : List Byte} {i : Nat} (inside : i < args.length) : field args i 1 = args[i].toNat := by
  rw [field, List.drop_eq_getElem_cons inside, List.take_succ_cons, List.take_zero]
  simp [beNat]

theorem RingType.ofCode_code (type : RingType) : RingType.ofCode type.code = some type := by cases type <;> rfl

theorem RingType.ofCode_above {v : Nat} (h : 2 < v) : RingType.ofCode v = none := by
  obtain ⟨k, rfl⟩ : ∃ k, v = k + 3 := ⟨v - 3, by omega⟩
  rfl

theorem RingType.code_lt (type : RingType) : type.code < 256 := by cases type <;> decide

theorem SegmentKind.ofCode_code (kind : SegmentKind) : SegmentKind.ofCode kind.code = some kind := by
  cases kind <;> rfl

theorem SegmentKind.ofCode_above {v : Nat} (h : 1 < v) : SegmentKind.ofCode v = none := by
  obtain ⟨k, rfl⟩ : ∃ k, v = k + 2 := ⟨v - 2, by omega⟩
  rfl

theorem SegmentKind.code_lt (kind : SegmentKind) : kind.code < 256 := by cases kind <;> decide

/-- The bytes of an order list. -/
def orderList (order : Vector (Fin 6) 6) : List Byte := order.toList.map fun n => BitVec.ofNat 8 n.val

/-- Six different numbers of 0 to 5 are all six of them. -/
theorem mem_order {order : Vector (Fin 6) 6} (distinct : order.toList.Nodup) (n : Fin 6) : n ∈ order.toList := by
  have all : order.toList.toFinset = Finset.univ := by
    rw [← Finset.card_eq_iff_eq_univ, List.toFinset_card_of_nodup distinct]
    simp
  rw [← List.mem_toFinset, all]
  exact Finset.mem_univ n

theorem order_byte (n : Fin 6) : (BitVec.ofNat 8 n.val).toNat = n.val := by
  rw [BitVec.toNat_ofNat]
  exact Nat.mod_eq_of_lt (by omega)

/-- An order list is read back from its bytes (R108). -/
theorem orderArg_orderList {order : Vector (Fin 6) 6} (distinct : order.toList.Nodup) :
    orderArg (orderList order) = some order := by
  have complete : (orderList order).length = 6 ∧
      (List.range 6).all (fun n => (orderList order).any fun b => b.toNat == n) = true := by
    refine ⟨by simp [orderList], List.all_eq_true.mpr fun n hn => List.any_eq_true.mpr ?_⟩
    have listed := mem_order distinct ⟨n, List.mem_range.mp hn⟩
    exact ⟨_, List.mem_map_of_mem listed, beq_iff_eq.mpr (order_byte _)⟩
  rw [orderArg, if_pos complete]
  congr 1
  ext i hi
  have low : order[i].val % 256 = order[i].val := Nat.mod_eq_of_lt (by omega)
  simp [orderList, low]

/-- With one of the numbers 0 to 5 missing there is no order list. -/
theorem orderArg_missing {args : List Byte} (count : args.length = 10) {n : Fin 6}
    (missing : ∀ k : Fin 6, field args (4 + k.val) 1 ≠ n.val) : orderArg (args.drop 4) = none := by
  refine if_neg fun ⟨_, all⟩ => ?_
  obtain ⟨b, listed, named⟩ := List.any_eq_true.mp (List.all_eq_true.mp all n (List.mem_range.mpr n.isLt))
  obtain ⟨k, hk, rfl⟩ := List.mem_iff_getElem.mp listed
  have inside : k < 6 := by simpa [count] using hk
  refine missing ⟨k, inside⟩ ?_
  rw [field_byte (by omega)]
  simpa using named

end Sys2Proof.Machine

/-! ## RING_PLAN, RING_CANCEL and RING_RETIRE (R106, R108 to R110) -/

namespace Sys2Proof.Machine

section requests

variable {args : List Byte} {s : State}

/-- The record RING_PLAN adds (R108). -/
def ringPlanned (number : Nat) (type : RingType) (key : Fin 16) (order : Vector (Fin 6) 6) : Ring :=
  { number := number, type := type, key := key, order := order }

theorem inStates_untripped {f : Handler} (away : s.cycle ≠ .tripped) :
    inStates (· != .tripped) f args s = f args s := inStates_true (ok := (· != .tripped)) (by simpa using away)

theorem inStates_tripped {f : Handler} (tripped : s.cycle = .tripped) :
    inStates (· != .tripped) f args s = ⟨s, .wrongState, []⟩ :=
  inStates_false (ok := (· != .tripped)) (by simp [tripped])

theorem ringPlan_judged {type : RingType} {key : Fin 16} {order : Vector (Fin 6) 6} (away : s.cycle ≠ .tripped)
    (typed : RingType.ofCode (field args 2 1) = some type) (keyed : indexArg 16 (field args 3 1) = some key)
    (ordered : orderArg (args.drop 4) = some order) : ringPlan args s =
      if field args 0 2 = 0 then ⟨s, .badArgument, []⟩
      else if 8 ≤ s.rings.length then ⟨s, .full, []⟩
      else if (s.rings.getLast?).any (fun y => nextNumber y.number != field args 0 2) then ⟨s, .sequence, []⟩
      else ⟨{ s with rings := s.rings ++ [ringPlanned (field args 0 2) type key order] }, .done, []⟩ := by
  refine (inStates_untripped away).trans ?_
  rw [typed, keyed, ordered]
  rfl

theorem ringPlan_badArgument (away : s.cycle ≠ .tripped)
    (bad : field args 0 2 = 0 ∨ RingType.ofCode (field args 2 1) = none ∨ indexArg 16 (field args 3 1) = none ∨
      orderArg (args.drop 4) = none) : ringPlan args s = ⟨s, .badArgument, []⟩ := by
  refine (inStates_untripped away).trans ?_
  dsimp only
  split
  · next typed keyed ordered =>
    rw [typed, keyed, ordered] at bad
    exact if_pos (by simpa using bad)
  · rfl

theorem ringCancel_judged (away : s.cycle ≠ .tripped) : ringCancel args s =
    if (s.rings.getLast?).any (fun y => y.state == .planned) then ⟨{ s with rings := s.rings.dropLast }, .done, []⟩
    else ⟨s, .notFound, []⟩ := inStates_untripped away

theorem ringRetire_zero (away : s.cycle ≠ .tripped) (zero : field args 0 2 = 0) :
    ringRetire args s = ⟨s, .badArgument, []⟩ := (inStates_untripped away).trans (if_pos zero)

theorem ringRetire_missing (away : s.cycle ≠ .tripped) (named : field args 0 2 ≠ 0)
    (missing : ∀ y ∈ s.rings, y.number ≠ field args 0 2) : ringRetire args s = ⟨s, .notFound, []⟩ := by
  have none : findRing s (field args 0 2) = none := List.find?_eq_none.mpr (by simpa using missing)
  refine (inStates_untripped away).trans ((if_neg named).trans ?_)
  rw [none]
  rfl

/-- The record named is asked for its state first, then for its place in the register (R110). -/
theorem ringRetire_found {older newer : List Ring} {x : Ring} (away : s.cycle ≠ .tripped) (named : field args 0 2 ≠ 0)
    (rings : s.rings = older ++ x :: newer) (before : ∀ y ∈ older, y.number ≠ field args 0 2)
    (number : x.number = field args 0 2) : ringRetire args s =
      if x.state ≠ .grouted then ⟨s, .wrongState, []⟩
      else if older = [] then ⟨{ s with rings := newer }, .done, []⟩ else ⟨s, .sequence, []⟩ := by
  have found : findRing s (field args 0 2) = some x :=
    List.find?_eq_some_iff_append.mpr ⟨by simpa using number, older, newer, rings, by simpa using before⟩
  refine (inStates_untripped away).trans ((if_neg named).trans ?_)
  rw [found]
  refine if_congr Iff.rfl rfl ?_
  cases older with
  | nil => simp [rings, number, doneWith]
  | cons y older => simp [rings, before y (by simp), refuse]

theorem exec_ringPlan {r : Request} {t : Taken} (count : r.args.length = 10) (owner : ringPlan r.args s = t) :
    exec (.ringPlan r) s = .next (respond 0x50 r s.link.answer t) := exec_owner rfl (by rw [count]; rfl) owner

theorem exec_ringCancel {r : Request} {t : Taken} (count : r.args = []) (owner : ringCancel r.args s = t) :
    exec (.ringCancel r) s = .next (respond 0x51 r s.link.answer t) := exec_owner rfl (by rw [count]; rfl) owner

theorem exec_ringRetire {r : Request} {t : Taken} (count : r.args.length = 2) (owner : ringRetire r.args s = t) :
    exec (.ringRetire r) s = .next (respond 0x52 r s.link.answer t) := exec_owner rfl (by rw [count]; rfl) owner

/-- The arguments of RING_PLAN name the ring (R108). -/
theorem ringPlan_fields {number : Nat} {type : RingType} {key : Fin 16} {order : Vector (Fin 6) 6}
    (written : args = beBytes 2 number ++ beBytes 1 type.code ++ beBytes 1 key.val ++ orderList order)
    (small : number ≤ 65535) (distinct : order.toList.Nodup) :
    args.length = 10 ∧ field args 0 2 = number ∧ RingType.ofCode (field args 2 1) = some type ∧
      indexArg 16 (field args 3 1) = some key ∧ orderArg (args.drop 4) = some order := by
  subst written
  refine ⟨by simp [length_beBytes, orderList], ?_, ?_, ?_, ?_⟩
  · rw [List.append_assoc, List.append_assoc]
    exact field_beBytes (before := []) rfl (by omega)
  · rw [List.append_assoc, List.append_assoc, field_beBytes (length_beBytes _ _) type.code_lt,
      RingType.ofCode_code]
  · rw [List.append_assoc, field_beBytes (by simp [length_beBytes]) (by omega), indexArg_val]
  · rw [List.drop_left' (by simp [length_beBytes]), orderArg_orderList distinct]

end requests

/-- Settles O33, request by request through its owner's judgment. -/
theorem ringsPlannedAndRetired : Obligations.RingsPlannedAndRetired := by
  refine ⟨fun r number type key order s written small distinct away => ?_, fun r older x s none away rings => ?_,
    fun r s none away rings => ?_, fun r s count away bad => ?_,
    fun r s count away zero => exec_ringRetire count (ringRetire_zero away zero),
    fun r s count away named missing => exec_ringRetire count (ringRetire_missing away named missing),
    fun r older newer x s count away named rings before number =>
      exec_ringRetire count (ringRetire_found away named rings before number),
    fun r s tripped => ⟨fun count => exec_ringPlan count (inStates_tripped tripped),
      fun none => exec_ringCancel none (inStates_tripped tripped),
      fun count => exec_ringRetire count (inStates_tripped tripped)⟩⟩
  · obtain ⟨count, numbered, typed, keyed, ordered⟩ := ringPlan_fields written small distinct
    have judged := ringPlan_judged away typed keyed ordered
    rw [numbered] at judged
    refine ⟨fun named room next => exec_ringPlan count ?_,
      fun zero => exec_ringPlan count (judged.trans (if_pos zero)),
      fun named full => exec_ringPlan count ((judged.trans (if_neg named)).trans (if_pos full)),
      fun y named room last other => exec_ringPlan count ?_⟩
    · have follows : ¬ (s.rings.getLast?).any (fun y => nextNumber y.number != number) = true := by
        cases last : s.rings.getLast? with
        | none => simp
        | some y => simpa [nextNumber] using next y last
      rw [judged, if_neg named, if_neg (not_le.mpr room), if_neg follows]
      rfl
    · rw [judged, if_neg named, if_neg (not_le.mpr room), if_pos (by simpa [last, nextNumber] using other)]
  · refine exec_ringCancel none ((ringCancel_judged away).trans ?_)
    simp [rings]
  · refine exec_ringCancel none ((ringCancel_judged away).trans ?_)
    simp [rings]
  · refine exec_ringPlan count (ringPlan_badArgument away ?_)
    obtain zero | above | above | ⟨n, missing⟩ := bad
    · exact .inl zero
    · exact .inr (.inl (RingType.ofCode_above above))
    · exact .inr (.inr (.inl (indexArg_above above)))
    · exact .inr (.inr (.inr (orderArg_missing count missing)))

end Sys2Proof.Machine

/-! ## SEGMENT_ENQUEUE and SEGMENT_WITHDRAW (R119 to R122) -/

namespace Sys2Proof.Machine

section requests

variable {args : List Byte} {s : State} {id : Nat} {kind : SegmentKind} {type : RingType}

/-- A new entry at the queue's tail (R120). -/
def segmentQueued (id : Nat) (kind : SegmentKind) (type : RingType) (s : State) : State :=
  { s with feed := s.feed ++ [⟨id, kind, type, false⟩] }

theorem segmentEnqueue_judged (configured : s.cycle ≠ .unconfigured)
    (kinded : SegmentKind.ofCode (field args 3 1) = some kind)
    (typed : RingType.ofCode (field args 4 1) = some type) : segmentEnqueue args s =
      if field args 0 3 = 0 then ⟨s, .badArgument, []⟩
      else if 8 ≤ s.feed.length then ⟨s, .full, []⟩
      else if field args 0 3 ∈ heldIdentities s then ⟨s, .duplicate, []⟩
      else ⟨retryMatch (segmentQueued (field args 0 3) kind type s), .done, []⟩ := by
  refine (ifConfigured_of_ne configured).trans ?_
  rw [kinded, typed]
  exact if_congr Iff.rfl rfl (if_congr Iff.rfl rfl (if_congr identityHeld_iff rfl rfl))

theorem segmentEnqueue_badArgument (configured : s.cycle ≠ .unconfigured)
    (bad : field args 0 3 = 0 ∨ SegmentKind.ofCode (field args 3 1) = none ∨
      RingType.ofCode (field args 4 1) = none) : segmentEnqueue args s = ⟨s, .badArgument, []⟩ := by
  refine (ifConfigured_of_ne configured).trans ?_
  dsimp only
  split
  · next kinded typed =>
    rw [kinded, typed] at bad
    exact if_pos (by simpa using bad)
  · rfl

theorem segmentWithdraw_zero (configured : s.cycle ≠ .unconfigured) (zero : field args 0 3 = 0) :
    segmentWithdraw args s = ⟨s, .badArgument, []⟩ := (ifConfigured_of_ne configured).trans (if_pos zero)

theorem segmentWithdraw_missing (configured : s.cycle ≠ .unconfigured) (named : field args 0 3 ≠ 0)
    (missing : ∀ f ∈ s.feed, f.id ≠ field args 0 3) : segmentWithdraw args s = ⟨s, .notFound, []⟩ := by
  have none : s.feed.find? (fun e => e.id == field args 0 3) = none := List.find?_eq_none.mpr (by simpa using missing)
  refine (ifConfigured_of_ne configured).trans ((if_neg named).trans ?_)
  rw [none]
  rfl

/-- The only entry of its identity is the only one to leave (R121). -/
theorem segmentWithdraw_found {before after : List Segment} {e : Segment} (configured : s.cycle ≠ .unconfigured)
    (named : field args 0 3 ≠ 0) (feed : s.feed = before ++ e :: after) (id : e.id = field args 0 3)
    (others : ∀ f ∈ before ++ after, f.id ≠ e.id) : segmentWithdraw args s =
      if e.reserved then ⟨s, .reserved, []⟩ else ⟨{ s with feed := before ++ after }, .done, []⟩ := by
  rw [id] at others
  have found : s.feed.find? (fun f => f.id == field args 0 3) = some e :=
    List.find?_eq_some_iff_append.mpr ⟨by simpa using id, before, after, feed, fun f hf => by
      simpa using others f (List.mem_append_left _ hf)⟩
  have remaining : s.feed.filter (fun f => f.id != field args 0 3) = before ++ after := by
    have kept : (before ++ after).filter (fun f => f.id != field args 0 3) = before ++ after :=
      List.filter_eq_self.mpr fun f hf => by simpa using others f hf
    rw [feed, List.filter_append, List.filter_cons_of_neg (by simp [id]), ← List.filter_append, kept]
  refine (ifConfigured_of_ne configured).trans ((if_neg named).trans ?_)
  rw [found, remaining]
  rfl

theorem exec_segmentEnqueue {r : Request} {t : Taken} (count : r.args.length = 5)
    (owner : segmentEnqueue r.args s = t) : exec (.segmentEnqueue r) s = .next (respond 0x58 r s.link.answer t) :=
  exec_owner rfl (by rw [count]; rfl) owner

theorem exec_segmentWithdraw {r : Request} {t : Taken} (count : r.args.length = 3)
    (owner : segmentWithdraw r.args s = t) : exec (.segmentWithdraw r) s = .next (respond 0x59 r s.link.answer t) :=
  exec_owner rfl (by rw [count]; rfl) owner

/-- The arguments of SEGMENT_ENQUEUE name the segment (R120). -/
theorem segmentEnqueue_fields (written : args = beBytes 3 id ++ beBytes 1 kind.code ++ beBytes 1 type.code)
    (small : id < 16777216) : args.length = 5 ∧ field args 0 3 = id ∧
      SegmentKind.ofCode (field args 3 1) = some kind ∧ RingType.ofCode (field args 4 1) = some type := by
  subst written
  refine ⟨by simp [length_beBytes], ?_, ?_, ?_⟩
  · rw [List.append_assoc]
    exact field_beBytes (before := []) rfl (by omega)
  · rw [List.append_assoc, field_beBytes (length_beBytes _ _) kind.code_lt, SegmentKind.ofCode_code]
  · rw [← List.append_nil (beBytes 1 type.code), field_beBytes (by simp [length_beBytes]) type.code_lt,
      RingType.ofCode_code]

end requests

section retry

variable {s : State} {older newer : List Ring} {x : Ring} {slot : Slot}

theorem retryMatch_away (away : s.place.erector ≠ .working .awaitSegment) : retryMatch s = s := if_neg away

/-- In AWAIT_SEGMENT an enqueue is another pick step for the slot of the placement (R120, R128). -/
theorem retryMatch_awaiting (awaits : s.place.erector = .working .awaitSegment) (builds : BuildsAt s older x newer)
    (current : s.place.current = some slot) : retryMatch s = pickStep x slot s := by
  have same : { s with place := { s.place with current := some slot } } = s := by rw [← current]
  rw [retryMatch, if_pos awaits, builds.building, current, pickStep, same]

end retry

/-- Settles O34, request by request through its owner's judgment. -/
theorem segmentsQueued : Obligations.SegmentsQueued := by
  refine ⟨fun r id kind type s written small configured => ?_, fun r s count configured bad => ?_,
    fun r s count configured zero => exec_segmentWithdraw count (segmentWithdraw_zero configured zero),
    fun r before after e s count configured named feed id others =>
      exec_segmentWithdraw count (segmentWithdraw_found configured named feed id others),
    fun r s count configured named missing =>
      exec_segmentWithdraw count (segmentWithdraw_missing configured named missing),
    fun r s unconfigured => ⟨fun count => exec_segmentEnqueue count (ifConfigured_unconfigured unconfigured),
      fun count => exec_segmentWithdraw count (ifConfigured_unconfigured unconfigured)⟩⟩
  · obtain ⟨count, named, kinded, typed⟩ := segmentEnqueue_fields written small
    have judged := segmentEnqueue_judged configured kinded typed
    rw [named] at judged
    have joins (nonzero : id ≠ 0) (room : s.feed.length < 8) (fresh : id ∉ heldIdentities s) :
        segmentEnqueue r.args s = ⟨retryMatch (segmentQueued id kind type s), .done, []⟩ := by
      rw [judged, if_neg nonzero, if_neg (not_le.mpr room), if_neg fresh]
    refine ⟨fun nonzero room fresh away => exec_segmentEnqueue count ?_,
      fun older newer x slot nonzero room fresh awaits builds current => ?_,
      fun zero => exec_segmentEnqueue count (judged.trans (if_pos zero)),
      fun nonzero full => exec_segmentEnqueue count ((judged.trans (if_neg nonzero)).trans (if_pos full)),
      fun nonzero room held => exec_segmentEnqueue count ?_⟩
    · rw [joins nonzero room fresh, retryMatch_away (s := segmentQueued id kind type s) away]
      rfl
    · have again : retryMatch (segmentQueued id kind type s) = pickStep x slot (segmentQueued id kind type s) :=
        retryMatch_awaiting awaits builds current
      have matched := pickStep_matched x slot (segmentQueued id kind type s)
      have taken := joins nonzero room fresh
      rw [again] at taken
      refine ⟨_, exec_segmentEnqueue count taken, matched, pickStep_keeps x slot (segmentQueued id kind type s), ?_⟩
      have place := pickStep_place x slot (segmentQueued id kind type s)
      rw [matched.1, ← show (segmentQueued id kind type s).place.current = some slot from current] at place
      exact (pickStep_leaves x slot (segmentQueued id kind type s)).trans (by rw [place]; rfl)
    · rw [judged, if_neg nonzero, if_neg (not_le.mpr room), if_pos held]
  · refine exec_segmentEnqueue count (segmentEnqueue_badArgument configured ?_)
    obtain zero | above | above := bad
    · exact .inl zero
    · exact .inr (.inl (SegmentKind.ofCode_above above))
    · exact .inr (.inr (RingType.ofCode_above above))

end Sys2Proof.Machine
